-- ==== Sys2Proof/Word.lean ====
section
/-! DEFINITION. The plain word types of the block and the shapes of its commands' operands. Everything that a rule
computes with them stands under Machine/. -/

namespace Sys2Proof

/-- One byte of a packet, a record, a block or an image (R9: multi-byte fields are little-endian lists of these). -/
abbrev Byte := BitVec 8

/-- A byte string, lowest offset first. -/
abbrev Bytes := List Byte

/-- The three network ports (R334). -/
inductive Port where
  | netA | netB | svc
  deriving DecidableEq, Repr

/-- The two processor lanes (R14): Ibex is lane A, Chamois lane B. -/
inductive Lane where
  | ibex | chamois
  deriving DecidableEq, Repr

/-- A KCP request that has passed the packet steps of R290 (1 to 9), with the header fields that handling still
needs (R286 to R288) and its payload. -/
structure Req where
  /-- the port the request arrived on (R284) -/
  port : Port
  /-- the source address of the request -/
  src : Nat
  /-- the source UDP port; 0 for a frame of EtherType 0x88B5 -/
  srcPort : Nat
  /-- the request carried a redundancy control trailer (R337) -/
  trailer : Bool
  /-- SEQ, SESSION, TARGET, PAYLOAD_LEN's bytes and the flags AUTH, MORE, HERD_FWD (R286, R287) -/
  seq : Nat
  session : Nat
  auth : Bool
  more : Bool
  fwd : Bool
  target : Nat
  payload : Bytes
  /-- bytes 16 to 23 of the header as received: two fields that a request has at 0, and reserved ones (R286) -/
  rest : Bytes := List.replicate 8 0
  deriving DecidableEq, Repr

/-- The writer and the new value of one scalar register that has a command row of its own. -/
structure RegWrite where
  req : Req
  value : Int
  deriving DecidableEq, Repr

/-- What the reply of another member to a forwarded request brings beyond its status (R299): MORE and the payload. -/
structure FwdBody where
  more : Bool
  bytes : Bytes
  deriving DecidableEq, Repr

/-- A report of an output's switch temperature (R239): the pin, and whether the switch is overheated. -/
structure PinHeat where
  pin : Fin 112
  hot : Bool
  deriving DecidableEq, Repr

/-- A reading of an output's load current (R239): the pin and the current in mA. -/
structure PinLoad where
  pin : Fin 112
  mA : Nat
  deriving DecidableEq, Repr

/-- A pair of an encoder or SSI port that the wire check watches (R131). -/
inductive WirePair where
  | a | b | z | ssi
  deriving DecidableEq, Repr

/-- One change of the A and B signals in one 200 MHz sample (R128): the levels before it and after it. -/
structure EncEdge where
  aBefore : Bool
  bBefore : Bool
  aAfter : Bool
  bAfter : Bool
  deriving DecidableEq, Repr

/-- What the analogue side gives the fabric in one 20 µs tick: the two phase currents of each axis in mA (R159),
axis 0 first; an axis beyond the list has no current; and, for the axes of interest, the currents that the 40 MHz
comparators of the two bridges see in the consecutive 25 ns samples from the start of the tick (R108); and, for the field
pins of interest, the stage output or the readback as last sampled (R237), any other pin keeping its last one. -/
structure TickIn where
  currents : List (Int × Int)
  bridges : List (Nat × List (Int × Int))
  pins : List (Nat × Bool) := []
  deriving DecidableEq, Repr

/-- What one lane reads in its 1 ms slot: the two switch senses and the current of each safe output pair (R201), pair
DL-A first, and the phase-current magnitude of each axis in mA as Chamois reads it (R209). -/
structure SlotIn where
  hsSense : List Bool
  lsSense : List Bool
  soCurrent : List Nat
  axisCurrent : List Nat
  deriving DecidableEq, Repr

/-- A frame as the packet engine receives it (R335): the port, whether it carries a redundancy control trailer and its
sequence number and LAN (R337), its source, the second of arrival for the rate limit (R336), and its content. -/
inductive FrameClass where
  | ptp | ksc | herd | kcpUdp | kcpL2 | otherIp | prpSupervision
  deriving DecidableEq, Repr

structure Frame where
  port : Port
  cls : FrameClass
  src : Nat
  srcPort : Nat
  trailer : Bool
  prpSeq : Nat
  lanB : Bool
  data : Bytes
  deriving DecidableEq, Repr

/-- A Sync or Follow_Up sample (R344): the selected-master check, the completeness of its timestamps, the master's
origin time, the receive time by the port's own clock and the correction, in ns. -/
structure SyncMsg where
  fromMaster : Bool
  complete : Bool
  twoStep : Bool
  originNs : Int
  rxNs : Int
  correctionNs : Int
  /-- base 2 logarithm of the Sync interval in seconds -/
  logInterval : Int
  deriving DecidableEq, Repr

/-- The fields of an Announce that the default best master algorithm of R339 compares. -/
structure AnnounceMsg where
  priority1 : Nat
  clockClass : Nat
  clockAccuracy : Nat
  variance : Nat
  priority2 : Nat
  gmId : Nat
  stepsRemoved : Nat
  utcOffset : Int
  deriving DecidableEq, Repr

/-- One contact of a safe pair as seen by one lane: the pair, the second contact or the first, the lane. -/
structure ContactRef where
  pair : Nat
  second : Bool
  lane : Lane
  deriving DecidableEq, Repr

/-- How the journal engine ended one queued write (R395): verified; the line failed twice (`remapped`, or `noSpare`: the pool
in State says which); or one verification failed without a remap of the line. -/
inductive WriteResult where
  | ok | remapped | noSpare | failed
  deriving DecidableEq, Repr

/-- Single items of the stored state whose two copies may both be bad (R380, R412): those for which the spec gives a value
after the loss. -/
inductive StoreItem where
  | phase (a : Nat) | learned (a : Nat) | sealRef (d : Nat) | sine (t : Nat) | retained | points (a : Nat) | cam (t : Nat)
  | subst (f : Nat)
  deriving DecidableEq, Repr

/-- What the store check of R408 and the reading of the stored state (R380) found. -/
structure StoreReport where
  passed : Bool
  ms : Nat
  firstStart : Bool
  formatChanged : Bool
  safetyLost : Bool
  lost : List StoreItem
  deriving DecidableEq, Repr

/-- The two wires of a returned field link frame: what came back on FL-2 and, in broken mode, on FL-1 (R251). -/
structure FrameBack where
  onFl2 : Option Bytes
  onFl1 : Option Bytes
  deriving DecidableEq, Repr

/-- The register of R356 that a HERD_CONFIG_WRITE names. -/
inductive HerdReg where
  | member | configMask | trainId | extRefId
  deriving DecidableEq, Repr

/-- The address or PRP register of R352 that a NET_PORT_WRITE names. -/
inductive NetReg where
  | ipAddr (p : Fin 3) | ipMask (p : Fin 3) | gateway (p : Fin 3)
  | prpMode | prpWindow | prpAge | prpSup
  deriving DecidableEq, Repr

end Sys2Proof
end

