-- ==== Sys2Proof/Syntax.lean ====
section
/-! DEFINITION. The commands of the block: one constructor per row of the table of operations and events, in the table's
order. The table gives a row no operand fields; the operands are what the row's rule makes its effect depend on. -/

namespace Sys2Proof

/-- A command of the block. -/
inductive Instr where
  /-- HELLO (R293). -/
  | hello (q : Req)
  /-- LOGIN (R293). -/
  | login (q : Req)
  /-- LOGOUT (R296). -/
  | logout (q : Req)
  /-- KEEPALIVE (R296). -/
  | keepalive (q : Req)
  /-- PARAM_READ (R300). -/
  | paramRead (q : Req)
  /-- PARAM_WRITE (R323). -/
  | paramWrite (q : Req)
  /-- BLOCK_READ (R301). -/
  | blockRead (q : Req)
  /-- BLOCK_WRITE (R301). -/
  | blockWrite (q : Req)
  /-- SAF_VERIFY (R227). -/
  | safVerify (q : Req)
  /-- SAF_VERIFY_DONE (R291). -/
  | safVerifyDone
  /-- SAF_COMMIT (R229). -/
  | safCommit (q : Req)
  /-- REVERT_OWNER_SHADOW (R329). -/
  | revertOwnerShadow (q : Req)
  /-- REVERT_ALL_SHADOWS (R329). -/
  | revertAllShadows (q : Req)
  /-- REVERT_SAFETY_SHADOW (R329). -/
  | revertSafetyShadow (q : Req)
  /-- REVERT_DEFAULT_SET (R329). -/
  | revertDefaultSet (q : Req)
  /-- EVENT_POLL (R303). -/
  | eventPoll (q : Req)
  /-- EVENT_ACK (R303). -/
  | eventAck (q : Req)
  /-- EVENT_INJECT (R462). -/
  | eventInject (q : Req)
  /-- OPEN_REQUEST (R40). -/
  | openRequest (q : Req)
  /-- CLOSE_REQUEST (R40). -/
  | closeRequest (q : Req)
  /-- HOLD_OPEN (R42). -/
  | holdOpen (q : Req)
  /-- ISOLATE (R42). -/
  | isolate (q : Req)
  /-- DEISOLATE (R42). -/
  | deisolate (q : Req)
  /-- DOOR_STATUS (R305). -/
  | doorStatus (q : Req)
  /-- MOVE_ABS (R306). -/
  | moveAbs (q : Req)
  /-- MOVE_REL (R306). -/
  | moveRel (q : Req)
  /-- STOP (R96). -/
  | stop (q : Req)
  /-- QUICK_STOP (R96). -/
  | quickStop (q : Req)
  /-- HOME (R151). -/
  | home (q : Req)
  /-- JOG (R307). -/
  | jog (q : Req)
  /-- PARK (R111). -/
  | park (q : Req)
  /-- ENABLE (R111). -/
  | enable (q : Req)
  /-- DISABLE (R111). -/
  | disable (q : Req)
  /-- PLAN_LOAD (R308). -/
  | planLoad (q : Req)
  /-- PLAN_LOAD_CHECK_DONE (R265). -/
  | planLoadCheckDone
  /-- PLAN_EXCHANGE (R278). -/
  | planExchange (q : Req)
  /-- LOGIC_RUN_WARM (R275). -/
  | logicRunWarm (q : Req)
  /-- LOGIC_RUN_COLD (R275). -/
  | logicRunCold (q : Req)
  /-- LOGIC_STOP (R275). -/
  | logicStop (q : Req)
  /-- LOGIC_HOLD (R275). -/
  | logicHold (q : Req)
  /-- LOGIC_STEP (R275). -/
  | logicStep (q : Req)
  /-- VAR_READ (R308). -/
  | varRead (q : Req)
  /-- VAR_FORCE (R281). -/
  | varForce (q : Req)
  /-- VAR_FORCE_RELEASE (R281). -/
  | varForceRelease (q : Req)
  /-- JRN_READ (R393). -/
  | jrnRead (q : Req)
  /-- JRN_STATS (R309). -/
  | jrnStats (q : Req)
  /-- JRN_SEAL (R394). -/
  | jrnSeal (q : Req)
  /-- JRN_STREAM_OPEN (R310). -/
  | jrnStreamOpen (q : Req)
  /-- JRN_STREAM_CREDIT (R310). -/
  | jrnStreamCredit (q : Req)
  /-- JRN_STREAM_CLOSE (R310). -/
  | jrnStreamClose (q : Req)
  /-- STREAM_PACKET (R310). -/
  | streamPacket
  /-- TIME_STATUS (R311). -/
  | timeStatus (q : Req)
  /-- TIME_ACCEPT_STEP (R345). -/
  | timeAcceptStep (q : Req)
  /-- HERD_STATUS (R312). -/
  | herdStatus (q : Req)
  /-- HERD_MODE_PREPARE (R374). -/
  | herdModePrepare (q : Req)
  /-- HERD_MODE_ABORT (R374). -/
  | herdModeAbort (q : Req)
  /-- GRAZE_NOW (R472). -/
  | grazeNow (q : Req)
  /-- GRAZE_REPORT (R313). -/
  | grazeReport (q : Req)
  /-- FW_BEGIN (R314). -/
  | fwBegin (q : Req)
  /-- FW_CHUNK (R314). -/
  | fwChunk (q : Req)
  /-- FW_VERIFY (R314). -/
  | fwVerify (q : Req)
  /-- FW_VERIFY_DONE (R291). -/
  | fwVerifyDone
  /-- FW_ACTIVATE_AT_POWER_UP (R422). -/
  | fwActivateAtPowerUp (q : Req)
  /-- FW_ACTIVATE_NOW (R314). -/
  | fwActivateNow (q : Req)
  /-- KCP_FORWARD_REPLY (R315). -/
  | kcpForwardReply (member : Nat) (seq : Nat) (status : Nat) (detail : Nat) (body : FwdBody)
  /-- KCP_FORWARD_TIMEOUT (R315). -/
  | kcpForwardTimeout (member : Nat) (seq : Nat)
  /-- SESSION_KEEPALIVE_EXPIRY (R296). -/
  | sessionKeepaliveExpiry (session : Nat)
  /-- LOGIN_LOCKOUT_END (R297). -/
  | loginLockoutEnd (src : Nat)
  /-- JOG_REFRESH_TIMEOUT (R307). -/
  | jogRefreshTimeout (a : Fin 24)
  /-- TEACH (R164). -/
  | teach (d : Fin 8) (w : RegWrite)
  /-- RESTART (R403). -/
  | restart (w : RegWrite)
  /-- RECHECK (R399). -/
  | recheck (w : RegWrite)
  /-- CNT_CLEAR (R352). -/
  | cntClear (w : RegWrite)
  /-- STAGE_FAULT_CLEAR (R121). -/
  | stageFaultClear (a : Fin 24) (w : RegWrite)
  /-- SO_STATUS_CLEAR (R205). -/
  | soStatusClear (o : Fin 4) (w : RegWrite)
  /-- SO_CLEAR_TEST (R205). -/
  | soClearTest (o : Fin 4) (passed : Bool)
  /-- IO_STATUS_CLEAR (R243). -/
  | ioStatusClear (n : Fin 112) (w : RegWrite)
  /-- IO_MODE_WRITE (R231). -/
  | ioModeWrite (n : Fin 112) (w : RegWrite)
  /-- IO_OUT_WRITE (R238). -/
  | ioOutWrite (n : Fin 112) (w : RegWrite)
  /-- POWER_MODE_RUN (R446). -/
  | powerModeRun (q : Req)
  /-- POWER_MODE_STANDBY (R446). -/
  | powerModeStandby (q : Req)
  /-- POWER_MODE_SLEEP (R446). -/
  | powerModeSleep (q : Req)
  /-- GRAZE_FAST_WRITE (R472). -/
  | grazeFastWrite (w : RegWrite)
  /-- HERD_CONFIG_WRITE (R356). -/
  | herdConfigWrite (r : HerdReg) (w : RegWrite)
  /-- HERD_ELIGIBLE_WRITE (R372). -/
  | herdEligibleWrite (w : RegWrite)
  /-- NET_PORT_WRITE (R352). -/
  | netPortWrite (r : NetReg) (w : RegWrite)
  /-- FS_ENABLE_WRITE (R253). -/
  | fsEnableWrite (f : Fin 16) (w : RegWrite)
  /-- LATCH_CFG_WRITE (R144). -/
  | latchCfgWrite (a : Fin 24) (l : Fin 2) (w : RegWrite)
  /-- CMP_WRITE (R146). -/
  | cmpWrite (a : Fin 24) (u : Fin 4) (q : Req) (data : Bytes)
  /-- LC_TABLE_WRITE (R55). -/
  | lcTableWrite (a : Fin 24) (q : Req) (data : Bytes)
  /-- CAM_WRITE (R91). -/
  | camWrite (t : Fin 8) (q : Req) (data : Bytes)
  /-- SINE_WRITE (R104). -/
  | sineWrite (t : Fin 4) (q : Req) (data : Bytes)
  /-- KEY_WRITE (R298). -/
  | keyWrite (r : Fin 4) (q : Req) (data : Bytes)
  /-- LANE_SLOT (R191). -/
  | laneSlot (lane : Lane) (m : SlotIn)
  /-- CROSS_LANE_EXCHANGE (R24). -/
  | crossLaneExchange
  /-- LANE_DISAGREEMENT (R26). -/
  | laneDisagreement
  /-- LANE_TICK_WINDOW (R16). -/
  | laneTickWindow (lane : Lane) (cycles : Nat)
  /-- LANE_TICK_MISSING (R16). -/
  | laneTickMissing (lane : Lane)
  /-- LOCKSTEP_MISMATCH (R27). -/
  | lockstepMismatch
  /-- IBEX_WATCHDOG (R420). -/
  | ibexWatchdog
  /-- CHAMOIS_WATCHDOG (R420). -/
  | chamoisWatchdog
  /-- SAFE_CONTACT_CHANGE (R190). -/
  | safeContactChange (p : Fin 32) (second : Bool) (lane : Lane) (closed : Bool)
  /-- CONTACT_FILTER_EXPIRY (R190). -/
  | contactFilterExpiry (p : Fin 32) (second : Bool) (lane : Lane)
  /-- DISCREPANCY_EXPIRY (R191). -/
  | discrepancyExpiry (p : Fin 32) (lane : Lane)
  /-- RESET_STUCK (R212). -/
  | resetStuck (lane : Lane)
  /-- DL_ON_DELAY_EXPIRY (R198). -/
  | dlOnDelayExpiry (lane : Lane)
  /-- SO_TEST_PULSE (R202). -/
  | soTestPulse
  /-- SO_TEST_PULSE_END (R203). -/
  | soTestPulseEnd (during : Bool) (after : Bool)
  /-- SO_SWITCH_FAIL (R201). -/
  | soSwitchFail (o : Fin 4) (high : Bool) (conducting : Bool)
  /-- SO_OVERLOAD (R201). -/
  | soOverload (o : Fin 4) (mA : Nat)
  /-- SO_OPEN_LOAD (R201). -/
  | soOpenLoad (o : Fin 4) (mA : Nat)
  /-- CLOSING_CURRENT_TRIP (R209). -/
  | closingCurrentTrip (a : Fin 24)
  /-- SAFE_STOP_TIMEOUT (R208). -/
  | safeStopTimeout (a : Fin 24)
  /-- KSC_COPY_RX (R222). -/
  | kscCopyRx (lane : Lane) (netB : Bool) (src : Nat) (data : Bytes)
  /-- KSC_PAIR_WINDOW_END (R222). -/
  | kscPairWindowEnd (lane : Lane)
  /-- KSC_WATCHDOG_EXPIRY (R223). -/
  | kscWatchdogExpiry (lane : Lane)
  /-- KSC_TX_CYCLE (R221). -/
  | kscTxCycle
  /-- FABRIC_TICK (R137). -/
  | fabricTick (m : TickIn)
  /-- ENCODER_EDGE (R128). -/
  | encoderEdge (a : Fin 24) (e : EncEdge)
  /-- WIRE_DISAGREEMENT (R131). -/
  | wireDisagreement (a : Fin 24) (pair : WirePair)
  /-- INDEX_EDGE (R140). -/
  | indexEdge (a : Fin 24) (rising : Bool)
  /-- LATCH_EDGE_CAPTURE (R145). -/
  | latchEdgeCapture (a : Fin 24) (l : Fin 2) (rising : Bool) (ageNs : Nat)
  /-- SSI_FRAME_START (R133). -/
  | ssiFrameStart (d : Fin 8) (dataLow : Bool)
  /-- SSI_FRAME_END (R134). -/
  | ssiFrameEnd (d : Fin 8) (value : Nat) (status : Nat) (wireBad : Bool)
  /-- ENVELOPE_BREACH (R169). -/
  | envelopeBreach (a : Fin 24)
  /-- DEVIATION (R170). -/
  | deviation (a : Fin 24)
  /-- ENERGY_CAP_HIT (R80). -/
  | energyCapHit (d : Fin 8)
  /-- LOAD_ANGLE_MEASUREMENT (R118). -/
  | loadAngleMeasurement (a : Fin 24) (samples : List Int)
  /-- HOME_STOP_REACHED (R153). -/
  | homeStopReached (a : Fin 24)
  /-- HOME_SWITCH_EDGE (R152). -/
  | homeSwitchEdge (a : Fin 24) (active : Bool)
  /-- HOME_MAX_DIST_EXCEEDED (R151). -/
  | homeMaxDistExceeded (a : Fin 24)
  /-- HOME_SETTLE_END (R154). -/
  | homeSettleEnd (a : Fin 24)
  /-- HOME_RETRY_DELAY_END (R155). -/
  | homeRetryDelayEnd (a : Fin 24)
  /-- PROFILE_END (R170). -/
  | profileEnd (a : Fin 24)
  /-- STOP_RAMP_END (R111). -/
  | stopRampEnd (a : Fin 24)
  /-- HOLD_DELAY_EXPIRY (R106). -/
  | holdDelayExpiry (a : Fin 24)
  /-- ENABLE_RAMP_END (R115). -/
  | enableRampEnd (a : Fin 24)
  /-- PARK_RAMP_END (R115). -/
  | parkRampEnd (a : Fin 24)
  /-- PARK_WRITE_CONFIRMED (R115). -/
  | parkWriteConfirmed (a : Fin 24)
  /-- DISABLE_RAMP_END (R111). -/
  | disableRampEnd (a : Fin 24)
  /-- STO_READBACK (R112). -/
  | stoReadback (a : Fin 24) (ibexOff : Bool) (chamoisOff : Bool)
  /-- STO_DWELL_END (R112). -/
  | stoDwellEnd (a : Fin 24)
  /-- DERATING_RECOMPUTE (R107). -/
  | deratingRecompute (temp : Int)
  /-- OVERCURRENT (R120). -/
  | overcurrent (a : Fin 24)
  /-- SHORT_TO_GROUND (R120). -/
  | shortToGround (a : Fin 24) (phaseB : Bool)
  /-- SHORT_TO_DRIVE (R120). -/
  | shortToDrive (a : Fin 24) (phaseB : Bool)
  /-- OPEN_PHASE (R120). -/
  | openPhase (a : Fin 24) (phaseB : Bool)
  /-- OVERTEMPERATURE_WARNING (R120). -/
  | overtemperatureWarning (a : Fin 24) (temp : Int)
  /-- OVERTEMPERATURE (R120). -/
  | overtemperature (a : Fin 24) (temp : Int)
  /-- DRIVE_UNDERVOLTAGE (R120). -/
  | driveUndervoltage (mV : Nat)
  /-- DRIVE_OVERVOLTAGE (R120). -/
  | driveOvervoltage (mV : Nat)
  /-- SEQUENCER_PASS (R42). -/
  | sequencerPass
  /-- DWELL_END (R42). -/
  | dwellEnd (d : Fin 8)
  /-- WARN_END (R42). -/
  | warnEnd (d : Fin 8)
  /-- SEQUENCER_TIMEOUT (R46). -/
  | sequencerTimeout (d : Fin 8)
  /-- STAGGER_MAX_EXPIRY (R58). -/
  | staggerMaxExpiry (d : Fin 8)
  /-- LOCK_TIME_EXPIRY (R42). -/
  | lockTimeExpiry (d : Fin 8)
  /-- COIL_PULSE_END (R241). -/
  | coilPulseEnd (n : Fin 112)
  /-- DWELL_OVERRUN (R46). -/
  | dwellOverrun (d : Fin 8)
  /-- OBST_PAUSE_END (R42). -/
  | obstPauseEnd (d : Fin 8)
  /-- PARK_DELAY_END (R44). -/
  | parkDelayEnd (d : Fin 8)
  /-- SEAL_CONTACT_CHECK (R178). -/
  | sealContactCheck (d : Fin 8)
  /-- SEAL_STEP_END (R178). -/
  | sealStepEnd (d : Fin 8)
  /-- FIELD_INPUT_FILTERED (R235). -/
  | fieldInputFiltered (n : Fin 112) (level : Bool)
  /-- COUNT_EDGE (R236). -/
  | countEdge (n : Fin 112) (rising : Bool)
  /-- OUTPUT_OVERLOAD (R239). -/
  | outputOverload (n : Fin 112)
  /-- OUTPUT_OVERTEMP (R239). -/
  | outputOvertemp (p : PinHeat)
  /-- OUTPUT_FAIL_ON (R239). -/
  | outputFailOn (n : Fin 112)
  /-- OUTPUT_OPEN_LOAD (R239). -/
  | outputOpenLoad (p : PinLoad)
  /-- DEMAG_END (R241). -/
  | demagEnd (n : Fin 112)
  /-- DEMAG_OVER (R240). -/
  | demagOver (n : Fin 112)
  /-- SHORT_CANDIDATE (R242). -/
  | shortCandidate (n : Fin 112)
  /-- REVERSE_CURRENT (R242). -/
  | reverseCurrent (n : Fin 112)
  /-- PROBE_PULSE (R242). -/
  | probePulse (n : Fin 112) (candidateLow : Bool)
  /-- FIELD_SUPPLY_MISSING (R245). -/
  | fieldSupplyMissing (g : Fin 9) (mV : Nat)
  /-- FIELD_SUPPLY_LOW (R245). -/
  | fieldSupplyLow (g : Fin 9) (mV : Nat)
  /-- FIELD_SUPPLY_RECOVERED (R246). -/
  | fieldSupplyRecovered (g : Fin 9) (mV : Nat)
  /-- FG_CURRENT_WARNING (R442). -/
  | fgCurrentWarning (g : Fin 9) (mA : Nat)
  /-- FIELD_CYCLE (R247). -/
  | fieldCycle
  /-- FRAME_RETURN (R253). -/
  | frameReturn (f : FrameBack)
  /-- FRAME_RETURN_TIMEOUT (R251). -/
  | frameReturnTimeout
  /-- LOGIC_SLOT (R258). -/
  | logicSlot
  /-- TASK_RUN_END (R260). -/
  | taskRunEnd (task : Fin 24) (us : Nat)
  /-- TASK_OVERRUN (R276). -/
  | taskOverrun (task : Fin 24) (byRelease : Bool)
  /-- JOURNAL_WRITE_DONE (R395). -/
  | journalWriteDone (r : WriteResult)
  /-- STORE_NO_RESPONSE (R396). -/
  | storeNoResponse
  /-- STORE_RECHECK (R399). -/
  | storeRecheck (ok : Bool)
  /-- SEAL_PERIOD_EXPIRY (R394). -/
  | sealPeriodExpiry
  /-- OP_TIME_STORE (R382). -/
  | opTimeStore
  /-- NET_FRAME_RX (R335). -/
  | netFrameRx (f : Frame)
  /-- LINK_LOSS (R334). -/
  | linkLoss (p : Port)
  /-- LINK_UP (R334). -/
  | linkUp (p : Port) (gigabit : Bool)
  /-- PRP_SUPERVISION_TX (R337). -/
  | prpSupervisionTx
  /-- SINGLE_LAN_TIMEOUT (R338). -/
  | singleLanTimeout (heardA : Bool) (heardB : Bool)
  /-- PTP_SYNC_RX (R344). -/
  | ptpSyncRx (n : Fin 2) (m : SyncMsg)
  /-- PTP_FOLLOW_UP_RX (R339). -/
  | ptpFollowUpRx (n : Fin 2) (m : SyncMsg)
  /-- PTP_DELAY_RESP_RX (R344). -/
  | ptpDelayRespRx (n : Fin 2) (rawNs : Nat)
  /-- PTP_ANNOUNCE_RX (R339). -/
  | ptpAnnounceRx (n : Fin 2) (m : AnnounceMsg)
  /-- ANNOUNCE_TIMEOUT (R339). -/
  | announceTimeout (n : Fin 2)
  /-- PTP_SYNC_TX (R339). -/
  | ptpSyncTx (n : Fin 2)
  /-- PTP_DELAY_REQ_TX (R339). -/
  | ptpDelayReqTx (n : Fin 2)
  /-- AB_DECISION (R348). -/
  | abDecision
  /-- STEP_CONFIRM_EXPIRY (R345). -/
  | stepConfirmExpiry
  /-- AB_RECOVER_EXPIRY (R349). -/
  | abRecoverExpiry
  /-- HERD_CYCLE_BOUNDARY (R350). -/
  | herdCycleBoundary
  /-- BLEAT_TX (R360). -/
  | bleatTx
  /-- BLEAT_RX (R360). -/
  | bleatRx (netB : Bool) (src : Nat) (data : Bytes)
  /-- BLEAT_WINDOW_CLOSE (R364). -/
  | bleatWindowClose
  /-- HOLD_EXPIRY (R364). -/
  | holdExpiry
  /-- JOIN_CYCLES_EXPIRY (R356). -/
  | joinCyclesExpiry
  /-- VOTE_REQ_RX (R367). -/
  | voteReqRx (netB : Bool) (src : Nat) (data : Bytes)
  /-- VOTE_RX (R366). -/
  | voteRx (netB : Bool) (src : Nat) (data : Bytes)
  /-- VOTE_DEADLINE (R366). -/
  | voteDeadline
  /-- MASTER_STEP_DOWN (R368). -/
  | masterStepDown
  /-- MIRROR_TX (R370). -/
  | mirrorTx
  /-- MIRROR_RX (R371). -/
  | mirrorRx (netB : Bool) (src : Nat) (data : Bytes)
  /-- SHADOW_FAULT (R372). -/
  | shadowFault
  /-- POWER_ON (R405). -/
  | powerOn
  /-- WAKE (R446). -/
  | wake
  /-- LOGIC_INTERRUPTION (R434). -/
  | logicInterruption
  /-- LOGIC_BRIDGED (R434). -/
  | logicBridged (ms : Nat)
  /-- POWER_FAIL_WARNING (R434). -/
  | powerFailWarning
  /-- HOLDUP_RELEASE (R434). -/
  | holdupRelease
  /-- LOW_LOGIC (R433). -/
  | lowLogic (mV : Nat)
  /-- PRECHARGE_COMPLETE (R414). -/
  | prechargeComplete (mV : Nat) (ms : Nat)
  /-- PRECHARGE_TIMEOUT (R414). -/
  | prechargeTimeout
  /-- PRECHARGE_RETRY (R414). -/
  | prechargeRetry
  /-- DRIVE_INPUT_LOSS (R437). -/
  | driveInputLoss (dischargeMs : Nat)
  /-- DRIVE_INPUT_RETURN (R414). -/
  | driveInputReturn
  /-- DRIVE_BREAKER_TRIP (R435). -/
  | driveBreakerTrip (dischargeMs : Nat)
  /-- REGEN_EPISODE_END (R436). -/
  | regenEpisodeEnd (mJ : Nat)
  /-- REGEN_LOCK_EXPIRY (R436). -/
  | regenLockExpiry
  /-- INSULATION_MEASUREMENT (R438). -/
  | insulationMeasurement (kOhm : Nat)
  /-- CONTACT_FEED_DARK_PULSE (R443). -/
  | contactFeedDarkPulse (feed : Fin 18) (readClosed : List ContactRef)
  /-- CONTACT_FEED_OVERLOAD (R443). -/
  | contactFeedOverload (feed : Fin 18)
  /-- CONTACT_FEED_RETRY (R443). -/
  | contactFeedRetry (feed : Fin 18)
  /-- ENCODER_SUPPLY_OVERLOAD (R443). -/
  | encoderSupplyOverload (d : Fin 8)
  /-- BASE_TEMP_WARN (R448). -/
  | baseTempWarn (temp : Int)
  /-- BASE_TEMP_LIMIT (R448). -/
  | baseTempLimit (temp : Int)
  /-- LOGIC_TEMP_HOT (R448). -/
  | logicTempHot (temp : Int)
  /-- LANE_BOOT_DONE (R407). -/
  | laneBootDone (ok : Bool)
  /-- STORE_CHECK_DONE (R408). -/
  | storeCheckDone (r : StoreReport)
  /-- STORE_CHECK_TIMEOUT (R408). -/
  | storeCheckTimeout
  /-- CONTACT_DARK_TEST_END (R415). -/
  | contactDarkTestEnd (readClosed : List ContactRef)
  /-- START_STEP7 (R418). -/
  | startStep7
  /-- TRIAL_CONFIRMATION (R423). -/
  | trialConfirmation
  /-- LANE_RESTART_DONE (R420). -/
  | laneRestartDone (lane : Lane)
  /-- GRAZE_ITEM_RUN (R465). -/
  | grazeItemRun (item : Fin 13) (inst : Nat) (pass : Bool)
  /-- GRAZE_STO_TEST_STEP (R466). -/
  | grazeStoTestStep (a : Fin 24) (checkOk : Bool)
  /-- GRAZE_OVERDUE (R470). -/
  | grazeOverdue (item : Fin 13)
  /-- ENCODER_SUPPLY_RETRY (R443). -/
  | encoderSupplyRetry (d : Fin 8)
  /-- STORE_MONITOR_FAULT (R396). -/
  | storeMonitorFault
  /-- PARK_RECORD_TIMEOUT (R398). -/
  | parkRecordTimeout (a : Fin 24)
  /-- BASE_LIMIT_CLEARED (R448). -/
  | baseLimitCleared (temp : Int)
  /-- OT_WARN_CLEARED (R120). -/
  | otWarnCleared (a : Fin 24) (temp : Int)
  deriving DecidableEq, Repr

end Sys2Proof
end

