-- ==== Sys2Proof/Config.lean ====
section
/-! DEFINITION. What the spec leaves open, as constants without a body: nothing can be proved of a value of them, so a
claim holds whatever it is. Each is named in a row of the assumption log. -/

namespace Sys2Proof

/-- The eight bytes of the n-th nonce that HELLO hands out (R293 fixes no generator). -/
opaque Config.nonce : Nat → Nat
/-- Verdict of the Ed25519 check of a firmware image (R314): the keys are not in the spec. -/
opaque Config.signatureOk : Bytes → Bool
/-- Version and security version that a firmware image of these bytes carries (the image format is not in the spec). -/
opaque Config.imageVersion : Bytes → Nat
opaque Config.imageSecVersion : Bytes → Nat
/-- The measured analogue values that a status field shows and no command reports: by field number and time. -/
opaque Config.measured : Nat → Nat → Int
/-- Whether the load wired to a pin is inductive (R240): the installation's, given by no register and no command. -/
opaque Config.inductive : Nat → Bool
/-- The value of a result that the spec does not state, by place number and operands. -/
opaque Config.open_ : Nat → List Int → Int

end Sys2Proof
end

