-- ==== Sys2Proof/Machine/State.lean ====
section
/-! DEFINITION. The state of the block as plain data: every register, table, buffer, queue, counter, mode and pin the
spec names, and the queue of waiting commands. The values of writable scalar parameters stand in three sparse maps
(active, ordinary shadow, safety shadow) keyed by the 32-bit key of R11; everything the module itself changes has a
field of its own. -/

namespace Sys2Proof.Machine

/-! ## Closed sets of names -/

/-- Doorway states (R33). -/
inductive DState where
  | unconfigured | homing | lockedClosed | released | unlocking | stepDeploying | opening | openDwell
  | closeWarning | closing | obstacleStop | reopening | sealTest | locking | stepRetracting | closedNotLocked
  | egress | isolated | faultHold | manual
  deriving DecidableEq, Repr

/-- The step path's own state: at rest retracted, moving out, at rest deployed, moving in (R33, R48). -/
inductive StepPath where
  | retracted | deploying | deployed | retracting
  deriving DecidableEq, Repr

/-- Drive states (R99). -/
inductive DriveState where
  | disabled | sto | parked | standstill | moving | stopping | safeStopping | homing | fault
  deriving DecidableEq, Repr

/-- The KIND of a profile (R72). -/
inductive MoveKind where
  | none | opening | closing | reopening | step | point | jog | homing | stopRamp
  deriving DecidableEq, Repr

/-- The four stop ramps of R96; `rank` is their rank there. -/
inductive RampKind where
  | safeStop | obstacle | quick | own
  deriving DecidableEq, Repr

/-- Current ramps of the drive stage (R106, R111, R115). -/
inductive CurRamp where
  | enable | park | disable | hold
  deriving DecidableEq, Repr

/-- Module modes (R293); also `MOD.MODE`'s codes in order. -/
inductive Mode where
  | service | depot | wash | maintenance | test
  deriving DecidableEq, Repr

/-- Herd roles (R293, R355). -/
inductive Role where
  | master | standby | referee | member | solo
  deriving DecidableEq, Repr

/-- A lane's result for a safe input pair (R191, R193). -/
inductive PairResult where
  | none | inactive | active | discrepancy
  deriving DecidableEq, Repr

/-- The KSC inbound connection (R223). -/
inductive KscState where
  | off | lost | resync | run
  deriving DecidableEq, Repr

/-- Logic control state (R275). -/
inductive LogicState where
  | stop | run | hold
  deriving DecidableEq, Repr

/-- Field station states (R253). -/
inductive StationState where
  | off | joining | run | missing | lost
  deriving DecidableEq, Repr

/-- The field link ring (R251). -/
inductive Ring where
  | off | closed | broken | down
  deriving DecidableEq, Repr

/-- Journal region state (R385). -/
inductive RegState where
  | normal | degraded | failed
  deriving DecidableEq, Repr

/-- Power condition of the whole module: no LOGIC supply, running, shut down after the power-fail warning, in SLEEP
(R446), or halted after a fourth lane restart (R421). -/
inductive Power where
  | off | on | shutdown | sleep | halted
  deriving DecidableEq, Repr

/-! ## Motion -/

/-- One phase of a profile (R69, R72): duration in µs and the velocity, acceleration and jerk at its start, exact. -/
structure Phase where
  dur : Rat
  jerk : Rat
  v0 : Rat
  a0 : Rat
  deriving DecidableEq, Repr

/-- The profile of the present or last move (R72): header fields and phases in order. -/
structure Plan where
  seq : Nat
  kind : MoveKind
  /-- the kind of the move whose profile a stop ramp replaced (R168) -/
  base : MoveKind
  limit : Nat
  leader : Bool
  camSlave : Bool
  fromQueue : Bool
  byPoint : Bool
  startPos : Rat
  endPos : Int
  phases : List Phase
  deriving DecidableEq, Repr

def Plan.empty : Plan := ⟨0, .none, .none, 0, false, false, false, false, 0, 0, []⟩

/-- The parameters a move runs with from its start to its end (R94), already in the units of this model. -/
structure Snap where
  v : Int
  acc : Int
  jerk : Int
  decQuick : Int
  jerkQuick : Int
  decObst : Int
  jerkObst : Int
  kf : Int
  mass : Int
  devWin : Int
  closing : Bool
  iF : Option Nat
  derate : Nat
  ecap : Int
  /-- the envelope limits of the move's direction, one for each bin (R162) -/
  envLim : List Rat
  deriving DecidableEq, Repr

def Snap.empty : Snap := ⟨0, 0, 0, 0, 0, 0, 0, 0, 0, 0, false, none, 10000, 0, []⟩

/-- Who asked for the move in progress (R168, R174). -/
inductive MoveBy where
  | nobody | sequencer | host | homing | graze
  deriving DecidableEq, Repr

/-- A requested target of one axis (R92, R306, R307). -/
structure MoveReq where
  /-- false: absolute target; true: relative distance -/
  rel : Bool
  target : Int
  v : Int
  acc : Int
  jerk : Int
  kind : MoveKind
  by_ : MoveBy
  /-- slots that move together under R87, as a mask; 0 for one axis -/
  slots : Nat
  deriving DecidableEq, Repr

/-- A path of one or several axes that starts together (R87), with a cam slave (R88): targets, and the speed, acceleration
and jerk given with the request, 0 where the parameters of the move kind apply (R65). -/
structure PathReq where
  moves : List (Nat × Int)
  kind : MoveKind
  by_ : MoveBy
  given : List (Nat × Int × Int × Int)
  slave : Option (Nat × Nat)
  fromQueue : Bool
  byPoint : Bool
  deriving DecidableEq, Repr

/-- The stored phase record of R115 and the position context of R416 that goes with it. -/
structure PhaseRec where
  /-- the 16 bytes of R115: USTEP_POS, ENC_COUNT, PHASE, CAUSE, reserved, CRC -/
  raw : Bytes
  /-- POS_VALID when the record was written -/
  valid : Bool
  posOfs : Rat
  indexPos : Int
  indexRef : Bool
  commOffset : Nat
  commValid : Bool
  deriving DecidableEq, Repr

/-- What a bridge does now (R99, R108, R118): all four transistors open, driving the winding, fast decay, slow decay, held
in slow decay by a target of zero, fast decay before a back-EMF measurement, both legs open for the measurement. -/
inductive BridgeMode where
  | off | drive | fast | slow | zero | release | opened
  deriving DecidableEq, Repr

/-- The chopper of one bridge (R108 to R110). -/
structure Chopper where
  mode : BridgeMode
  /-- 25 ns samples since the start of the cycle while it drives, since the start of the off phase while it decays -/
  n : Nat
  /-- samples of fast decay in the present off phase -/
  fast : Nat
  /-- sign of the last target that was not zero -/
  neg : Bool
  /-- the last microstep lowered the magnitude of the target -/
  falling : Bool
  deriving DecidableEq, Repr

def Chopper.off : Chopper := ⟨.off, 0, 0, false, false⟩

/-- The drive stage of one axis (R99 to R123). -/
structure Drive where
  state : DriveState
  /-- a current ramp in progress and its end -/
  ramp : Option (CurRamp × Nat)
  /-- the move that starts when the enable ramp completes (R111) -/
  afterEnable : Option MoveReq
  /-- an ENABLE queued behind a shutdown (R113) -/
  enableQueued : Bool
  enableStatus : Nat
  /-- STO demands of the two lanes and the Graze hold of R466 -/
  demandIbex : Bool
  demandChamois : Bool
  grazeHold : Bool
  /-- the two enables in series (R30): the fabric's and Chamois's -/
  enIbex : Bool
  enChamois : Bool
  /-- the last readback of R112 step 3 found an enable on -/
  enBad : Bool
  /-- start of the STO sequence; none when no sequence runs -/
  stoSince : Option Nat
  stoAtRest : Bool
  stoDone : Bool
  phaseOfs : Nat
  phaseValid : Bool
  /-- the phase record in the stored state -/
  record : Option PhaseRec
  /-- the phase record handed to the journal engine, and when it was due -/
  recordDue : Option (PhaseRec × Nat)
  commOffset : Nat
  commValid : Bool
  commPrev : Option Nat
  /-- `AX.STAGE_FAULT` (R122) without bits ANY, which is computed -/
  stageFault : BitVec 16
  /-- times of overcurrent or short latches that still count toward OC_LOCK (R121) -/
  ocTimes : List Nat
  /-- an injected stage fault holds the axis in FAULT with no bit latched (R456) -/
  injFault : Bool
  /-- the bridges open and the axis enters FAULT when the quick stop ends (R120) -/
  faultAtRest : Bool
  /-- the axis ramps its current off and is disabled when the stop ends, or is disabled when its park ends (R111, R113) -/
  disableAtRest : Bool
  stageTemp : Int
  /-- 0.1 degree electrical, and the time it was measured -/
  loadAngle : Int
  laAt : Option Nat
  laLeft : Nat
  laPrev : Option Int
  /-- the measurements of a recovery move after ENCODER realignment (R117): sum and number -/
  recovery : Option (Int × Nat)
  /-- the count when the enable ramp of an ENCODER realignment began (R117) -/
  realignFrom : Option Int
  /-- selected current in mA (R106) and applied current in units of 31.25 mA (R105, R107) -/
  iSel : Nat
  iApplied : Nat
  holdAt : Option Nat
  /-- the derating factor k of R107 in ten-thousandths -/
  derate : Nat
  /-- the sine table contents in force for the axis: the table it selects, or that table before a pending swap (R104) -/
  sineOld : Bool
  /-- the choppers of the two bridges (R108) -/
  chopA : Chopper
  chopB : Chopper
  /-- a bridge was open for a back-EMF measurement in the present tick (R159) -/
  bridgeOpen : Bool
  deriving DecidableEq, Repr

def Drive.reset : Drive :=
  { state := .sto, ramp := none, afterEnable := none, enableQueued := false, enableStatus := 0,
    demandIbex := true, demandChamois := true, grazeHold := false, enIbex := false, enChamois := false, enBad := false,
    stoSince := none, stoAtRest := true, stoDone := true, phaseOfs := 0, phaseValid := false,
    record := none, recordDue := none, commOffset := 0, commValid := false, commPrev := none, stageFault := 0,
    ocTimes := [], injFault := false, faultAtRest := false, disableAtRest := false, stageTemp := 0, loadAngle := 0,
    laAt := none, laLeft := 8, laPrev := none, recovery := none, realignFrom := none, iSel := 0, iApplied := 0,
    holdAt := none, derate := 10000, sineOld := false, chopA := Chopper.off, chopB := Chopper.off, bridgeOpen := false }

/-- The drive stage of an axis whose slot is not configured: DISABLED under no demand (R19, R406). -/
def Drive.unused : Drive := { Drive.reset with state := .disabled, demandIbex := false, demandChamois := false }

/-- A latch unit (R144, R145): its configuration word and its last record. -/
structure Latch where
  cfg : BitVec 16
  seq : Nat
  pos : Int
  speed : Int
  accel : Int
  timeS : Nat
  timeNs : Nat
  flags : BitVec 8
  source : Nat
  obsAge : Nat
  /-- a record whose SEQ no BLOCK_READ has yet returned -/
  unread : Bool
  deriving DecidableEq, Repr

def Latch.reset : Latch := ⟨0, 0, 0, 0, 0, 0, 0, 0, 0, 0, false⟩

/-- A compare unit (R146 to R150). -/
structure Cmp where
  pos : Int
  step : Nat
  cfg : BitVec 32
  status : BitVec 16
  /-- a block written by the host that is applied at the start of the next tick -/
  next : Option (Int × Nat × BitVec 32)
  deriving DecidableEq, Repr

def Cmp.reset : Cmp := ⟨0, 0, 0, 0, none⟩

/-- The homing of one axis (R151 to R156). -/
inductive HomePhase where
  | idle | search | halted | settle | creepBack | creep | backOff | retryWait | toEnd | ssiWait | openSwitch
  deriving DecidableEq, Repr

structure Homing where
  phase : HomePhase
  status : Nat
  /-- the homing was started by the host (no retry, R155) -/
  byHost : Bool
  until_ : Option Nat
  /-- the switch edge at the end of a clearing move has been seen -/
  cleared : Bool
  refCount : Option Int
  /-- a first failure has already raised the axis event in this HOMING (R155) -/
  failRaised : Bool
  /-- the axis has completed in the present HOMING of its doorway -/
  done : Bool
  deriving DecidableEq, Repr

def Homing.reset : Homing := ⟨.idle, 0, false, none, false, none, false, false⟩

/-- Position feedback of one axis (R124 to R143). -/
structure Feedback where
  /-- raw counts r, filtered counts f and their directions for the primary and the duplicate counter -/
  raw : Int
  /-- direction of the last raw count -/
  rawUp : Bool
  count : Int
  dirUp : Bool
  dupRaw : Int
  dup : Int
  dupDirUp : Bool
  overflow : Int
  posOfs : Rat
  /-- `AX.FB_STATUS` (R125); SATURATED and SSI_OK are computed from `overflow` and `ssiGood` -/
  status : BitVec 16
  /-- pairs in standing wire disagreement, by their bits of the status: A 0, B 1, Z 2, SSI data 6 (R125, R131) -/
  wires : BitVec 16
  /-- a quadrature or wire event has been raised in the present POS_VALID episode -/
  episodeRaised : Bool
  /-- the SSI_OK bit and the runs of good and bad frames and of mismatches (R134, R135) -/
  ssiOk : Bool
  ssiGoodRun : Nat
  ssiBadRun : Nat
  ssiMisRun : Nat
  ssiCapture : Option (Int × Bool)
  ssiLast : List Int
  /-- the count snapshot of the last tick and of the tick before (R137) -/
  snap : Int
  prevSnap : Int
  /-- counts frozen at the strobe of R25 -/
  frozen : Int
  dupFrozen : Int
  dupPrev : Int
  xEst : Rat
  vEst : Rat
  aEst : Rat
  indexPos : Int
  indexErr : Int
  /-- the raw count of the last recognised index while still within its tolerance -/
  indexSeen : Option Int
  corrPending : Option Int
  latches : Vector Latch 2
  cmps : Vector Cmp 4
  deriving DecidableEq, Repr

def Feedback.reset : Feedback :=
  { raw := 0, rawUp := true, count := 0, dirUp := true, dupRaw := 0, dup := 0, dupDirUp := true, overflow := 0, posOfs := 0,
    status := 0, wires := 0, episodeRaised := false, ssiOk := false, ssiGoodRun := 0,
    ssiBadRun := 0, ssiMisRun := 0, ssiCapture := none, ssiLast := [], snap := 0, prevSnap := 0, frozen := 0,
    dupFrozen := 0, dupPrev := 0, xEst := 0, vEst := 0, aEst := 0, indexPos := 0, indexErr := 0, indexSeen := none,
    corrPending := none, latches := .replicate 2 Latch.reset, cmps := .replicate 4 Cmp.reset }

/-- One leaf-clock point (R51). -/
structure LcPoint where
  pos : Int
  action : Nat
  flags : BitVec 8
  operand : Nat
  deriving DecidableEq, Repr

def LcPoint.empty : LcPoint := ⟨0, 0, 0, 0⟩
/-- An unused point of the sequencer: SEQ reads 1 (R51). -/
def LcPoint.blank : LcPoint := ⟨0, 0, 8, 0⟩
/-- A table in which no point is used. -/
def lcUnused : Vector LcPoint 32 := Vector.ofFn fun i : Fin 32 => if i.val < 8 then LcPoint.blank else LcPoint.empty

/-- One direction of one envelope bin (R162, R165, R166); forces in 0.1 N. -/
structure EnvBin where
  window : List Rat
  ref : Rat
  baseline : Option Rat
  lastPeak : Rat
  held : Bool
  deriving DecidableEq, Repr

def EnvBin.empty : EnvBin := ⟨[], 0, none, 0, false⟩

/-- What the axis learns and stores at each PARK: masses, friction profiles, envelopes (R86, R163). -/
structure Learned where
  mass : Int
  massValid : Bool
  fricOpen : Vector (Option Rat) 128
  fricClose : Vector (Option Rat) 128
  envClose : Vector EnvBin 128
  envOpen : Vector EnvBin 128
  envCycles : Nat
  deriving DecidableEq, Repr

def Learned.empty : Learned :=
  { mass := 0, massValid := false, fricOpen := .replicate 128 none, fricClose := .replicate 128 none,
    envClose := .replicate 128 EnvBin.empty, envOpen := .replicate 128 EnvBin.empty, envCycles := 0 }

/-- The samples of one bin in the present move (R161, R85). -/
structure BinRun where
  bin : Nat
  peak : Rat
  sum : Rat
  n : Nat
  /-- friction samples at constant speed or under deceleration: force and commanded acceleration along travel, number -/
  fricSum : Rat
  fricAcc : Rat
  fricN : Nat
  deriving DecidableEq, Repr

/-- The running sums of the mass regression (R82). -/
structure Regr where
  n : Nat
  sa : Rat
  sf : Rat
  saa : Rat
  saf : Rat
  sff : Rat
  /-- duration of the acceleration phase in µs -/
  accUs : Nat
  /-- the ticks gathered of the present millisecond: number, acceleration, force -/
  pn : Nat
  pa : Rat
  pf : Rat
  deriving DecidableEq, Repr

def Regr.empty : Regr := ⟨0, 0, 0, 0, 0, 0, 0, 0, 0, 0⟩

/-- Force estimate and detection of one axis (R159 to R171). -/
structure Detect where
  lag0 : Rat
  /-- the lag of the last ticks at rest, newest first -/
  lags : List Rat
  force : Rat
  forceF : Rat
  along : List Rat
  curBin : Option BinRun
  /-- bins left in the present or last move, newest first -/
  bins : List BinRun
  regr : Regr
  /-- consecutive ticks above the envelope limit and outside the deviation window, and whether the detection that they form
  has acted (R169, R170) -/
  envTicks : Nat
  envDone : Bool
  devTicks : Nat
  devDone : Bool
  massRaw : Int
  idStatus : Nat
  current : Int × Int
  /-- ticks in the 5 slots of the closing current monitor, its lowest commanded position and side (R209) -/
  iSlots : Nat
  lowest : Int
  openSide : Bool
  roseAt : Option Nat
  /-- microstep position and drive state in the last slot of Chamois, and how the position has moved since STANDSTILL -/
  slotPos : Int
  slotState : DriveState
  rose : Bool
  fell : Bool
  deriving DecidableEq, Repr

def Detect.reset : Detect :=
  { lag0 := 0, lags := [], force := 0, forceF := 0, along := [], curBin := none, bins := [],
    regr := Regr.empty, envTicks := 0, envDone := false, devTicks := 0, devDone := false, massRaw := 0, idStatus := 0, current := (0, 0), iSlots := 0, lowest := 0,
    openSide := false, roseAt := none, slotPos := 0, slotState := .sto, rose := false, fell := false }

/-- One axis. -/
structure Axis where
  drive : Drive
  fb : Feedback
  det : Detect
  home : Homing
  learned : Learned
  saved : Learned
  /-- commanded position in µm and in microsteps, and its value one tick before -/
  cmd : Rat
  cmdPrev : Rat
  cmdV : Rat
  cmdA : Rat
  plan : Plan
  snap : Snap
  /-- µs run of the profile; none at rest -/
  elapsed : Option Rat
  /-- the 100 ms after the end of the profile in which the deviation window still runs (R170) -/
  devUntil : Option Nat
  by_ : MoveBy
  ramp : Option RampKind
  /-- move armed for a leaf-clock point or for staggering (R54) -/
  armed : Option MoveReq
  queued : Option MoveReq
  queueStatus : Nat
  lcTable : Vector LcPoint 32
  lcShadow : Option (Vector LcPoint 32)
  lcFired : BitVec 32
  /-- cam table that couples this axis to a master, and that master -/
  camOf : Option (Nat × Nat)
  /-- the axes of a common path (R87), their ratio to the leader as a fraction -/
  path : List Nat
  ratio : Rat
  /-- session and end of refresh of a running jog, and its payload (R307) -/
  jog : Option (Nat × Nat × Bytes)
  /-- session and payload of a jog that is held in the queue (R93) -/
  jogQueued : Option (Nat × Bytes)
  /-- peaks and means of the bins passed in the present cycle, opening and last closing (R161, R165) -/
  cycOpen : List BinRun
  cycClose : List BinRun
  /-- bin limits and planning mass of the axis in the last closing (R162, R389, R391) -/
  closeLims : List Rat
  closeMass : Int
  /-- RWS values replaced by a commit while the axis moved: they stay in force for it until it rests (R94, R229) -/
  held : List (Nat × Int)
  /-- injected kinds of the axis that the next sequencer pass takes (R463) -/
  injected : BitVec 4
  /-- safe stop request time and speed then (R208) -/
  safeStop : Option (Nat × Rat × Rat)
  /-- lifetime counters (R333): moves, distance in metres with remainder, hours energised, STOs, stage faults, homings -/
  ltMoves : Nat
  ltDist : Nat
  ltDistRem : Rat
  ltEnergUs : Nat
  ltSto : Nat
  ltStage : Nat
  ltHomings : Nat
  deriving DecidableEq, Repr

def Axis.reset : Axis :=
  { drive := Drive.reset, fb := Feedback.reset, det := Detect.reset, home := Homing.reset, learned := Learned.empty,
    saved := Learned.empty, cmd := 0, cmdPrev := 0, cmdV := 0, cmdA := 0, plan := Plan.empty, snap := Snap.empty,
    elapsed := none, devUntil := none, by_ := .nobody, ramp := none, armed := none, queued := none, queueStatus := 0,
    lcTable := lcUnused, lcShadow := none, lcFired := 0, camOf := none, path := [], ratio := 1,
    jog := none, jogQueued := none, cycOpen := [], cycClose := [], closeLims := [], closeMass := 0, held := [], injected := 0, safeStop := none, ltMoves := 0, ltDist := 0, ltDistRem := 0, ltEnergUs := 0, ltSto := 0,
    ltStage := 0, ltHomings := 0 }

/-- An axis after reset: configured or not (R19, R406). -/
def Axis.atReset (configured : Bool) : Axis :=
  if configured then Axis.reset else { Axis.reset with drive := Drive.unused }

/-! ## Doorways -/

/-- Why a dwell is suspended (R42, R39, R60, R273). -/
structure Suspend where
  byKcp : Bool
  byPlan : List Nat
  byLatch : Bool
  byDepot : Bool
  deriving DecidableEq, Repr

def Suspend.none : Suspend := ⟨false, [], false, false⟩

/-- The seal compliance test in progress or last (R177 to R183). -/
structure Seal where
  /-- 0 contact phase, 1 to 4 the force step; none when no test runs -/
  step : Option Nat
  started : Nat
  /-- last tick in which a tested axis was not below SEAL_V_SETTLE -/
  fastAt : Nat
  /-- the gap in the last 500 ticks, newest first -/
  window : List Rat
  seq : Nat
  cause : Nat
  steps : Nat
  absolute : Bool
  low : Bool
  g : List Int
  gRef : List Int
  t : List Int
  c : Int
  cRef : Int
  durationMs : Nat
  /-- the passed test leaves the leaves regulated at its last force (R181) -/
  hold : Bool
  /-- an injected verdict of fail is pending (R455) -/
  injFail : Bool
  deriving DecidableEq, Repr

def Seal.reset : Seal :=
  { step := none, started := 0, fastAt := 0, window := [], seq := 0, cause := 0, steps := 0, absolute := false,
    low := false, g := [0, 0, 0, 0], gRef := [0, 0, 0, 0], t := [0, 0, 0, 0], c := 0, cRef := 0, durationMs := 0,
    hold := false, injFail := false }

/-- What the present cycle has gathered for its cycle record (R389) and for the rule of good cycles (R165). -/
structure Cycle where
  path : BitVec 8
  obstMax : Nat
  causeOr : BitVec 8
  redrives : Nat
  unlockAt : Option Nat
  openAt : Option Nat
  dwellUs : Nat
  dwellSince : Option Nat
  closeAt : Option Nat
  staggerUs : Nat
  ePeak : Nat
  sealFirst : Option Bool
  sealCause : Nat
  sealG : List Int
  posLost : Bool
  bemf : Bool
  modeBad : Bool
  injected : Bool
  /-- kinds k of E(12d + k) raised in it, and those raised for real in the last closing (R184, R390) -/
  kinds : BitVec 12
  closingKinds : BitVec 12
  /-- those of the two that were injected (R391) -/
  injKinds : BitVec 12
  closingInj : BitVec 12
  /-- the last closing has had its seal test (R184) -/
  tested : Bool
  sigKept : Bool
  deriving DecidableEq, Repr

def Cycle.empty : Cycle :=
  { path := 0, obstMax := 0, causeOr := 0, redrives := 0, unlockAt := none, openAt := none, dwellUs := 0,
    dwellSince := none, closeAt := none, staggerUs := 0, ePeak := 0, sealFirst := none, sealCause := 0, sealG := [],
    posLost := false, bemf := false, modeBad := false, injected := false, kinds := 0, closingKinds := 0,
    injKinds := 0, closingInj := 0, tested := false, sigKept := false }

/-- A seal reference gap (R180): window, reference, baseline, held at drift. -/
structure SealRef where
  window : List Rat
  ref : Rat
  baseline : Rat
  held : Bool
  deriving DecidableEq, Repr

def SealRef.empty : SealRef := ⟨[], 0, 0, false⟩

/-- The force signature capture of a closing (R184): running, and the bins seen. -/
structure Capture where
  on : Bool
  bins0 : List (Nat × Rat)
  bins1 : List (Nat × Rat)
  deriving DecidableEq, Repr

def Capture.empty : Capture := ⟨false, [], []⟩

/-- One doorway (R33 to R59). -/
structure Doorway where
  leaf : DState
  step : StepPath
  /-- `DW.STATE`: the state most recently entered on either path -/
  shown : DState
  /-- side release as the sequencer saw it in its last pass -/
  released : Bool
  /-- dwell end; none when no dwell runs -/
  dwellEnd : Option Nat
  suspend : Suspend
  suspendSince : Option Nat
  overrunRaised : Bool
  warnEnd : Option Nat
  /-- the state's timeout of R46 on the leaf path and on the step path -/
  timeout : Option Nat
  stepTimeout : Option Nat
  /-- start of the wait under Power staggering, order number of the request, doorway this one is armed on -/
  waitSince : Option Nat
  waitNo : Nat
  armedOn : Option Nat
  staggerForce : Bool
  lockEnd : Option Nat
  /-- a lock pulse follows the unlock pulse of a re-drive (R42) -/
  relock : Bool
  /-- the step is stopped after a fault and is then retracted (R49) -/
  stepFault : Bool
  redrives : Nat
  obstPauseEnd : Option Nat
  cameFromOpening : Bool
  latch : Bool
  parkAt : Option Nat
  obstCount : Nat
  obstCause : BitVec 8
  obstAxis : Nat
  obstPos : Int
  obstForce : Int
  /-- when the detection in the four fields was made (R173) -/
  obstAt : Option Nat
  /-- a detection of the fabric that the next pass takes (R174): its cause bits; the energy hit; a step detection -/
  detected : Option (BitVec 8)
  energyHit : Bool
  /-- the closing prepared in CLOSE_WARNING has raised its energy event already (R75) -/
  slowRaised : Bool
  /-- consecutive ticks above ECAP, and whether the hit that they form has acted (R80) -/
  energyTicks : Nat
  energyDone : Bool
  stepDetected : Bool
  /-- the present reopening runs to full open; the stop under way ends in a reopening on request -/
  reopenFull : Bool
  reopenAfterStop : Bool
  /-- mass plan, planned and measured peak energy (R68, R80) -/
  massPlan : Int
  ePlan : Int
  ePeak : Int
  plannedUs : Nat
  sealTest : Seal
  sealRef : Vector SealRef 4
  savedSealRef : Vector SealRef 4
  /-- LEARN_STATE (R167): 0 UNTAUGHT, 1 TEACHING, 2 LEARNED; TEACH_LEFT; SEAL_LOW -/
  learn : Nat
  savedLearn : Nat
  teachLeft : Nat
  savedTeachLeft : Nat
  sealLow : Bool
  cycle : Cycle
  capture : Capture
  cycles : Nat
  /-- isolation stored (R36) and Chamois's copy -/
  isolated : Bool
  isolatedChamois : Bool
  /-- an axis of the doorway has moved since points 0 to 7 were last written (R51) -/
  moved : Bool
  /-- a KCP open request held as OK_QUEUED behind a Graze test (R64) -/
  heldOpen : Bool
  /-- RWS values replaced by a commit while the doorway moved (R94, R229) -/
  held : List (Nat × Int)
  /-- an injected reaction that the next pass takes: kinds k of the doorway (R463) -/
  injected : BitVec 12
  /-- pairs that a commit has restarted and that have not become ACTIVE since (R229 step 3) -/
  proofRestart : List Nat
  /-- when LOCKED_CLOSED was last entered (R465) -/
  closedAt : Nat
  ltCycles : Nat
  ltObst : Nat
  ltSealFails : Nat
  ltRedrives : Nat
  ltReopens : Nat
  ltEgress : Nat
  ltFaults : Nat
  ltIsol : Nat
  deriving DecidableEq, Repr

def Doorway.reset : Doorway :=
  { leaf := .unconfigured, step := .retracted, shown := .unconfigured, released := false, dwellEnd := none,
    suspend := .none, suspendSince := none, overrunRaised := false, warnEnd := none, timeout := none,
    stepTimeout := none, waitSince := none, waitNo := 0, armedOn := none, staggerForce := false, lockEnd := none,
    relock := false, stepFault := false, redrives := 0, obstPauseEnd := none, cameFromOpening := false, latch := false,
    parkAt := none, obstCount := 0, obstCause := 0, obstAxis := 0, obstPos := 0, obstForce := 0, obstAt := none, detected := none,
    energyHit := false, slowRaised := false, energyTicks := 0, energyDone := false, stepDetected := false, reopenFull := false, reopenAfterStop := false, massPlan := 0, ePlan := 0,
    ePeak := 0, plannedUs := 0, sealTest := Seal.reset, sealRef := .replicate 4 SealRef.empty,
    savedSealRef := .replicate 4 SealRef.empty, learn := 0, savedLearn := 0, teachLeft := 0, savedTeachLeft := 0, sealLow := false,
    cycle := Cycle.empty, capture := Capture.empty, cycles := 0, isolated := false, isolatedChamois := false, moved := true,
    heldOpen := false, held := [], injected := 0, proofRestart := [], closedAt := 0, ltCycles := 0, ltObst := 0, ltSealFails := 0,
    ltRedrives := 0, ltReopens := 0, ltEgress := 0, ltFaults := 0, ltIsol := 0 }

/-- The door and motion operations that a sequencer pass takes (R31, R299). -/
inductive DoorOp where
  | open_ | close | hold | holdLift | isolate | deisolate | moveAbs | moveRel | stop | quickStop | home | jog
  | park | enable | disable
  deriving DecidableEq, Repr

/-- Where a request to the sequencer comes from: the plan (INST_ID), `AUTO_OPEN`, or a KCP request. -/
inductive DoorSrc where
  | plan (inst : Nat) | auto | kcp (op : Nat) (q : Req)
  deriving DecidableEq, Repr

/-- A request that waits for the next sequencer pass. -/
structure DoorReq where
  src : DoorSrc
  op : DoorOp
  d : Nat
  deriving DecidableEq, Repr

/-! ## Safety -/

/-- One contact as one lane reads it (R190): raw level, filtered level, when the raw level last changed. -/
structure Contact where
  raw : Bool
  filt : Bool
  since : Nat
  deriving DecidableEq, Repr

def Contact.reset : Contact := ⟨false, false, 0⟩

/-- One pair as one lane evaluates it (R191). -/
structure PairLane where
  c1 : Contact
  c2 : Contact
  result : PairResult
  seenInactive : Bool
  timer : Option Nat
  latched : Bool
  deriving DecidableEq, Repr

def PairLane.reset : PairLane := ⟨Contact.reset, Contact.reset, .none, false, none, false⟩

/-- A safe output pair (R197 to R205). -/
structure SafeOut where
  demandIbex : Bool
  demandChamois : Bool
  hsCmd : Bool
  lsCmd : Bool
  hsSense : Bool
  lsSense : Bool
  /-- `SAF.SO_STATUS` (R205): bits 9 to 3; DEMAND, HS_ON, LS_ON and LOCK are computed -/
  status : BitVec 16
  current : Nat
  overTimes : List Nat
  changedAt : Nat
  /-- a queued clear of bits 7 to 4 and the switch tests passed for it (R205) -/
  clearMask : Option (BitVec 16)
  clearPassed : Nat
  clearAt : Nat
  /-- three overloads have come within 600 s: OVERLOAD is cleared as the switch faults are (R205) -/
  overLock : Bool
  deriving DecidableEq, Repr

def SafeOut.reset : SafeOut := ⟨false, false, false, false, false, false, 0, 0, [], 0, none, 0, 0, false⟩

/-- The reset pair in one lane (R211, R212). -/
structure ResetLane where
  activeSince : Option Nat
  /-- time of an accepted edge that the other lane has not yet matched -/
  edgeAt : Option Nat
  evaluated : Bool
  /-- when the feeds returned after the dark test of a start or a lane restart (R415) -/
  feedAt : Nat
  deriving DecidableEq, Repr

def ResetLane.reset : ResetLane := ⟨none, none, false, 0⟩

/-- The KSC inbound connection as one lane keeps it (R222, R223). -/
structure Ksc where
  state : KscState
  lastSeq : Nat
  /-- open pairing windows: SEQ, copy, whether it came on NET-B, when it opened -/
  windows : List (Nat × Bytes × Bool × Nat)
  single : Nat
  accepted : Nat
  wd : Option Nat
  release : BitVec 8
  mask : BitVec 8
  expected : Nat
  status : BitVec 16
  /-- how often this lane has seen MISMATCH, WATCHDOG and SINGLE_MAX: the lane ahead raises the event (R222, R223) -/
  nMis : Nat
  nWd : Nat
  nSgl : Nat
  deriving DecidableEq, Repr

def Ksc.reset : Ksc := ⟨.off, 0, [], 0, 0, none, 0, 0, 0, 0, 0, 0, 0⟩

/-- The lane comparison and the module safe state (R16, R24 to R27, R214, R215). -/
structure Lanes where
  /-- consecutive disagreeing exchanges per compared quantity number -/
  disagree : List (Nat × Nat)
  /-- exchanges in a row with nothing missing and nothing disagreeing -/
  goodRun : Nat
  exchangedAt : Option Nat
  /-- slots of each lane since the last exchange: a second one misses it (R27, R214) -/
  slotsI : Nat
  slotsC : Nat
  ibexUp : Bool
  chamoisUp : Bool
  badWindowsIbex : Nat
  badWindowsChamois : Nat
  safe : Bool
  /-- `SAF.SAFE_STATE` bits 7 to 2 -/
  cause : BitVec 16
  restarts : Nat
  restartTimes : List Nat
  /-- Chamois's pair results as of the last exchange (R193 STATE_B) -/
  stateB : Vector PairResult 32
  deriving DecidableEq, Repr

/-- The safety part of the state. -/
structure Safety where
  pairsI : Vector PairLane 32
  pairsC : Vector PairLane 32
  stuck : Bool
  resetI : ResetLane
  resetC : ResetLane
  /-- on-delay of the door loop demand and of SP's own condition, per lane (R198, R200): since when the condition holds -/
  dlSinceI : Option Nat
  dlSinceC : Option Nat
  spSinceI : Option Nat
  spSinceC : Option Nat
  dlReadyI : Bool
  dlReadyC : Bool
  spReadyI : Bool
  spReadyC : Bool
  outs : Vector SafeOut 4
  /-- rotation place of the next switch test, the pulse in progress, time of the last pulse (R202) -/
  testPlace : Nat
  pulse : Option (Nat × Bool × Nat × Bool)
  pulseAt : Nat
  /-- start of the present rotation of the tests (R202) -/
  testFrom : Option Nat
  kscI : Ksc
  kscC : Ksc
  txSeq : Nat
  txAt : Nat
  lanes : Lanes
  configCrc : Nat
  configCrcC : Nat
  commitCount : Nat
  /-- demands held off until the next commit after lost safety configuration (R413), or after a failed store check -/
  heldOff : Bool
  /-- the verified image (R302): the session, its entries and CRC -/
  verified : Option (Nat × List (Nat × Nat) × Nat)
  shadowOwner : Option Nat
  /-- Chamois's own safety shadow (R227 step 3) -/
  shadowC : List (Nat × Int)
  /-- an accepted SAF_COMMIT that waits for the next exchange, with the values it brings (R229 step 1) -/
  commit : Option (Req × List (Nat × Int))
  /-- Chamois's copy of MOD.MODE (R24) -/
  modeC : Mode
  deriving DecidableEq, Repr

/-! ## Field I/O -/

/-- One field pin (R230 to R244). -/
structure Pin where
  stage : Bool
  filt : Bool
  counter : Nat
  /-- `IO.STATUS` bits 12 to 2 of R244 without the computed ones; PARTNER -/
  status : BitVec 16
  partner : Nat
  cmd : Bool
  on : Bool
  onAt : Nat
  offAt : Nat
  heldOn : Bool
  /-- end of a PIN_PULSE or of a coil pulse, counted from the switch-on; width while it is held -/
  pulseEnd : Option Nat
  pulseW : Option Nat
  writer : Nat
  /-- a mode change that waits for the end of the demagnetisation (R231) -/
  modeNext : Option Nat
  demagUs : Nat
  /-- the switch sensor shows overtemperature (R239); end of an off-pulse that probes for a partner (R242) -/
  hot : Bool
  probeEnd : Option Nat
  deriving DecidableEq, Repr

def Pin.reset : Pin :=
  { stage := false, filt := false, counter := 0, status := 0, partner := 255, cmd := false, on := false, onAt := 0,
    offAt := 0, heldOn := false, pulseEnd := none, pulseW := none, writer := 0, modeNext := none, demagUs := 0, hot := false, probeEnd := none }

/-- One group supply (R245). -/
structure Group where
  mV : Nat
  status : BitVec 8
  recoverAt : Nat
  current : Nat
  deriving DecidableEq, Repr

def Group.reset : Group := ⟨0, 0, 0, 0⟩

/-- One field station (R252 to R255). -/
structure Station where
  state : StationState
  status : BitVec 16
  missed : Nat
  missedTotal : Nat
  lostTotal : Nat
  goodRun : Nat
  everRun : Bool
  inputs : Bytes
  /-- the input image as the plan last saw it (R330) -/
  seen : Bytes
  outputs : Bytes
  sent : Bytes
  subst : Bytes
  deriving DecidableEq, Repr

def zeros (n : Nat) : Bytes := List.replicate n 0

def Station.reset : Station :=
  { state := .off, status := 0, missed := 0, missedTotal := 0, lostTotal := 0, goodRun := 0, everRun := false,
    inputs := zeros 64, seen := zeros 64, outputs := zeros 64, sent := zeros 64, subst := zeros 64 }

/-- The field link (R247 to R251): ring, cycle counter, frame in flight. -/
structure Link where
  ring : Ring
  seen : BitVec 16
  cycle : Nat
  /-- a field cycle has started and its frame is not yet sent -/
  due : Bool
  sentAt : Option Nat
  closedRun : Nat
  frame : Bytes
  deriving DecidableEq, Repr

/-! ## Logic plan -/

/-- One instance of a plan (R268). -/
structure Inst where
  id : Nat
  type : Nat
  num : Nat
  nIn : Nat
  retain : Bool
  task : Nat
  dataOfs : Nat
  p0 : Nat
  p1 : Nat
  deriving DecidableEq, Repr

/-- One task (R267). -/
structure Task where
  event : Bool
  mode : Nat
  prio : Nat
  budget : Nat
  first : Nat
  n : Nat
  arg : Nat
  deriving DecidableEq, Repr

/-- One connection (R269), with the constant's value read from the pool. -/
structure Conn where
  dst : Nat
  dstPin : Nat
  const : Option (BitVec 32)
  src : Nat
  srcPin : Nat
  deriving DecidableEq, Repr

/-- A plan image as checked (R265 to R269). -/
structure PlanImg where
  id : Nat
  version : Nat
  crc : Nat
  tasks : List Task
  nCyclic : Nat
  errorTask : Option Nat
  insts : List Inst
  conns : List Conn
  safetyPins : List Bool
  dataLen : Nat
  retainLen : Nat
  deriving DecidableEq, Repr

/-- The live data of one instance: its outputs as of the task's last run, the words of its state, first-scan mark, the
slot count at its last execution, and the request status of a door block. -/
structure InstData where
  outs : List (BitVec 32)
  st : List (BitVec 32)
  first : Bool
  lastSlot : Nat
  req : Nat
  reqDone : Bool
  deriving DecidableEq, Repr

/-- A run of a task in progress: the data its instances will leave, formed from the inputs read at its start, by INST_ID. -/
structure TaskRun where
  task : Nat
  tag : Nat
  after : List (Nat × InstData)
  effects : List (Nat × Nat × BitVec 32)
  stepMode : Bool
  deriving DecidableEq, Repr

/-- Task statistics (R283). -/
structure TaskStat where
  last : Nat
  longest : Nat
  runs : Nat
  discarded : Nat
  deriving DecidableEq, Repr

def TaskStat.zero : TaskStat := ⟨0, 0, 0, 0⟩

/-- The logic engine (R257 to R283). -/
structure Logic where
  state : LogicState
  holdPending : Bool
  active : Option PlanImg
  activeBytes : Bytes
  staged : Option PlanImg
  stagedBytes : Bytes
  /-- the session whose exchange is queued (R278) -/
  exchQueued : Option Nat
  /-- LOGIC_STATUS fields: TASK, STOP_CAUSE, EXCH, WARM_LAST, RETAIN_OK -/
  overTask : Nat
  stopCause : Nat
  exch : Nat
  warmLast : Bool
  retainOk : Bool
  /-- slots begun since the start; the slot count is one less -/
  slot : Nat
  data : List InstData
  /-- tasks released and not yet started (1: by LOGIC_STEP), and cyclic tasks whose last release found them unfinished -/
  ready : List (Nat × Nat)
  late : List Nat
  running : List TaskRun
  triggers : Vector (List Nat) 16
  forces : List (Nat × Nat × BitVec 32)
  stats : Vector TaskStat 24
  marks : Nat
  marksFrom : Nat
  /-- retained data with the identity they were written under (R277) -/
  retained : Option (Nat × Nat × Nat × List (Nat × InstData))
  deriving DecidableEq, Repr

/-! ## KCP, networks, time, herd, journal -/

/-- One copy of a frame on a port (R335, R337, R352): IPv4 destination (0 in a frame without IP), VLAN tag and priority
(VLAN 0: untagged), and the sequence number of its redundancy control trailer, whose LAN is the port's. -/
structure Wire where
  port : Nat
  dst : Nat
  vlan : Nat
  pcp : Nat
  trailer : Option Nat
  deriving DecidableEq, Repr

/-- A reply that the module has sent (R285 to R287). -/
structure Reply where
  port : Port
  dst : Nat
  dstPort : Nat
  trailer : Bool
  op : Nat
  seq : Nat
  session : Nat
  target : Nat
  auth : Bool
  more : Bool
  fwd : Bool
  status : Nat
  detail : Nat
  payload : Bytes
  /-- present where `auth` is set (R294) -/
  tag : Bytes
  /-- the copies that were sent -/
  wires : List Wire
  deriving DecidableEq, Repr

/-- A multi-packet transfer being staged (R301, R308, R314). -/
structure Transfer where
  session : Nat
  key : Nat
  total : Nat
  data : Bytes
  deriving DecidableEq, Repr

/-- One session (R292 to R296). -/
structure Session where
  id : Nat
  role : Nat
  port : Port
  src : Nat
  key : Bytes
  nonce : Bytes
  h : Nat
  seen : List Nat
  cache : List (Nat × Req × Reply)
  aliveUntil : Nat
  deriving DecidableEq, Repr

/-- The force stream (R310). -/
structure Stream where
  session : Nat
  req : Req
  op : Nat
  mask : Nat
  decim : Nat
  credit : Nat
  seq : Nat
  lost : Nat
  baseS : Nat
  baseNs : Nat
  samples : List Bytes
  ticks : Nat
  deriving DecidableEq, Repr

/-- The KCP machine. -/
structure Kcp where
  sessions : List Session
  waiting : List (Nat × Req)
  progress : List (Nat × Req)
  nonces : List (Bytes × Nat)
  logins : List (Nat × Nat)
  lockouts : List (Nat × Nat)
  transfers : List Transfer
  /-- forwarded requests: member, SEQ, request, opcode, when it was sent (R315) -/
  forwards : List (Nat × Nat × Req × Nat × Nat)
  stream : Option Stream
  outbox : List Reply
  deriving DecidableEq, Repr

/-- One port (R334 to R338, R352). -/
structure NetPort where
  link : Nat
  lostSince : Option Nat
  macHi : Nat
  macLo : Nat
  frames : Nat
  framesSec : Nat
  counters : Vector Nat 11
  heardAt : Nat
  deriving DecidableEq, Repr

def NetPort.reset : NetPort := ⟨0, none, 0, 0, 0, 0, .replicate 11 0, 0⟩

/-- A frame that the module has sent of its own accord: supervision, PTP, KSC, bleats, herd messages, field frames. -/
inductive Sent where
  | supervision | sync (n : Nat) (ns : Int) | delayReq (n : Nat) | delayResp (n : Nat)
  | ksc (data : Bytes) | herd (data : Bytes) | fieldFrame (data : Bytes) (both : Bool) | forward (member : Nat) (q : Req)
  deriving DecidableEq, Repr

/-- One network clock and its servo (R341 to R349). -/
structure Clock where
  /-- ns since the epoch -/
  ns : Rat
  set : Bool
  rate : Rat
  integ : Int
  /-- last offset from the master, and when it was measured -/
  offset : Int
  offsetAt : Option Nat
  good : Nat
  bad : Nat
  locked : Bool
  /-- 1 listening, 2 slave, 3 master -/
  state : Nat
  /-- filtered mean path delay in ns, and when it last changed by a step -/
  pathDelay : Option Rat
  pdChangedAt : Option Nat
  /-- a refused step and whether it was found at a change of the source (1) or in a sample (0) -/
  refused : Option (Int × Nat)
  distrusted : Bool
  /-- master time against module time when DECIDING began -/
  gAtDeciding : Option Rat
  gm : Nat
  best : Option AnnounceMsg
  announceAt : Nat
  syncRx : Nat
  pendingSync : Option (SyncMsg × Nat)
  deriving DecidableEq, Repr

def Clock.reset : Clock :=
  { ns := 0, set := false, rate := 0, integ := 0, offset := 0, offsetAt := none, good := 0, bad := 0, locked := false,
    state := 1, pathDelay := none, pdChangedAt := none, refused := none, distrusted := false,
    gAtDeciding := none, gm := 0, best := none, announceAt := 0, syncRx := 0, pendingSync := none }

/-- Module time (R341 to R351). -/
structure Time where
  clocks : Vector Clock 2
  ns : Rat
  rate : Rat
  valid : Bool
  trusted : Nat
  deciding : Option Nat
  confirmSince : Option Nat
  recoverSince : Option Nat
  pendingStep : Option (Int × Nat)
  abDiff : Int
  abBase : Rat
  seen : BitVec 16
  stepsAccepted : Nat
  stepsRefused : Nat
  cycleOfs : Nat
  holdoverSince : Nat
  utcOffset : Int
  deriving DecidableEq, Repr

/-- The networks. -/
structure Net where
  ports : Vector NetPort 3
  prpStatus : Nat
  /-- duplicate table (R337): source, sequence number, time of the first copy, its port, whether the second copy came -/
  dups : List (Nat × Nat × Nat × Nat × Bool)
  keys : Vector (Option Bytes) 4
  sent : List (Sent × List Wire)
  supAt : Nat
  /-- sequence number of the next redundancy control trailer (R337) -/
  prpTx : Nat
  deriving DecidableEq, Repr

/-- A bleat as counted (R359). -/
structure Bleat where
  member : Nat
  role : Nat
  flags : Nat
  term : Nat
  cycle : Nat
  epoch : Nat
  mode : Nat
  pendMode : Nat
  standby : Nat
  masterSeen : Nat
  pendEpoch : Nat
  applyAt : Nat
  ackEpoch : Nat
  seen : Nat
  mirrorSeq : Nat
  car : Bytes
  grant : Nat
  conflict : Nat
  loopsClosed : Nat
  doorsOpen : Nat
  faults : Nat
  deriving DecidableEq, Repr

/-- A mirror snapshot being gathered or active (R370, R371). -/
structure Mirror where
  seq : Nat
  term : Nat
  frags : Nat
  parts : List (Nat × Bytes)
  data : Bytes
  deriving DecidableEq, Repr

/-- The herd (R354 to R377). -/
structure Herd where
  role : Role
  master : Nat
  standby : Nat
  term : Nat
  /-- candidate to which the present term was granted -/
  grantedTo : Option Nat
  epoch : Nat
  /-- highest epoch number ever assigned: numbers of aborted changes are not reused -/
  lastEpoch : Nat
  mode : Mode
  cycle : Nat
  boundaryAt : Nat
  joinLeft : Nat
  noMaster : Nat
  counted : List Bleat
  prev : List Bleat
  present : Nat
  stale : Nat
  status : BitVec 16
  pendMode : Option Mode
  pendEpoch : Nat
  applyAt : Nat
  committed : Bool
  ackEpoch : Nat
  ackMask : Nat
  oldMode : Option Mode
  appliedAt : Nat
  grant : BitVec 8
  conflict : Bool
  holdUntil : Option Nat
  masterBleat : Bool
  lastMaster : Option Bleat
  train : Nat × Nat × Nat
  votes : List Nat
  candidate : Option (Nat × Nat × Nat)
  noQuorum : Nat
  mirrorSeq : Nat
  fragment : Nat
  active : Option Mirror
  activeAt : Nat
  partialM : Option Mirror
  shadowRun : Nat
  shadowCmp : Nat
  shadowSkip : Nat
  shadowMis : Nat
  switchovers : Nat
  votesGranted : Nat
  aborts : Nat
  rollbacks : Nat
  lastSwitchMs : Nat
  missFrom : Option Nat
  missed : Vector Nat 32
  /-- bleats missed in the present term, and the last bleat counted, by member (R370) -/
  missedTerm : Vector Nat 32
  lastOf : Vector (Option Bleat) 32
  /-- herd messages discarded for their MAGIC, VERSION, TRAIN_ID or CRC (R358) -/
  discarded : Nat
  conflicts : Nat
  noQuorumCycles : Nat
  bleatRx : Vector Nat 2
  /-- the bleat window of the present cycle has closed -/
  windowClosed : Bool
  /-- out-of-step senders of the present cycle -/
  staleNow : Nat
  /-- the train grant that this module, as master, publishes -/
  pubGrant : BitVec 8
  /-- the standby's own commit decision: pending epoch and verdict (R372) -/
  decision : Option (Nat × Bool)
  /-- the snapshot that the master is sending (R370) -/
  snapshot : Bytes
  /-- writes of herd parameters that act from the next cycle boundary (R377) -/
  writes : List (Nat × Int)
  deriving DecidableEq, Repr

/-- One journal region (R378, R379): state, next number, the records held from the oldest number kept in this model,
fault counters, seal digests. -/
structure Region where
  state : RegState
  next : Nat
  recs : List (Nat × Bytes)
  lineErrs : Nat
  eccFixed : Nat
  digest : Bytes
  sealed : Option Nat
  lastTime : Nat
  deriving DecidableEq, Repr

def Region.reset : Region := ⟨.normal, 0, [], 0, 0, zeros 32, none, 0⟩

/-- A write handed to the journal engine (R388, R395). -/
inductive JWrite where
  | record (region num : Nat)
  | phase (axis : Nat)
  | stored
  deriving DecidableEq, Repr

/-- The journal (R378 to R401). -/
structure Journal where
  regions : Vector Region 5
  queue : List JWrite
  queuePeak : Nat
  queueDrops : Nat
  suppressed : Nat
  /-- suppressed raises per source since its last record, and records written per source in the present second -/
  supBy : List (Nat × Nat)
  rateBy : List (Nat × Nat)
  status : BitVec 16
  spare : Nat
  failRun : Nat
  held : List Bytes
  sealCount : Nat
  lastSeal : Nat
  sealAt : Nat
  recheckAt : Nat
  caddySince : Option Nat
  scrubPassH : Nat
  scrubAt : Option Nat
  priorStates : List RegState
  opTime : Nat
  opTimeUs : Nat
  powerCycle : Nat
  storedOpTime : Nat
  /-- newest valid NET_TIME of any region (R383) -/
  newestTime : Nat
  deriving DecidableEq, Repr

/-- What folding needs of the newest record of a store (R387): its number, source, origin, detail, the injected mark, the
operating time in ms of its first and last raise, and the raises it represents. -/
structure Fold where
  num : Nat
  source : Nat
  origin : Nat
  detail : Nat
  injected : Bool
  firstAt : Nat
  lastAt : Nat
  repeats : Nat
  deriving DecidableEq, Repr

/-- Events (R458, R459, R462). -/
structure Events where
  raiseSeq : Nat
  pending : Vector Bool 256
  sticky : Vector Bool 256
  injVec : Vector Bool 256
  lastRaise : List (Nat × Nat)
  injCount : List (Nat × Nat)
  injections : Nat
  raises : Nat
  /-- the newest record of the event journal and of Caddy, where it may still be folded into -/
  foldMain : Option Fold
  foldCaddy : Option Fold
  deriving DecidableEq, Repr

/-- The lifetime counters of an axis (R333). -/
structure AxisLife where
  moves : Nat
  dist : Nat
  distRem : Rat
  energUs : Nat
  sto : Nat
  stage : Nat
  homings : Nat
  deriving DecidableEq, Repr

/-- The stored isolation and the lifetime counters of a doorway (R36, R333). -/
structure DoorLife where
  isolated : Bool
  cycles : Nat
  obst : Nat
  sealFails : Nat
  redrives : Nat
  reopens : Nat
  egress : Nat
  faults : Nat
  isol : Nat
  deriving DecidableEq, Repr

def Axis.life (x : Axis) : AxisLife :=
  ⟨x.ltMoves, x.ltDist, x.ltDistRem, x.ltEnergUs, x.ltSto, x.ltStage, x.ltHomings⟩
def Axis.withLife (x : Axis) (l : AxisLife) : Axis :=
  { x with ltMoves := l.moves, ltDist := l.dist, ltDistRem := l.distRem, ltEnergUs := l.energUs, ltSto := l.sto,
           ltStage := l.stage, ltHomings := l.homings }
def Doorway.life (x : Doorway) : DoorLife :=
  ⟨x.isolated, x.ltCycles, x.ltObst, x.ltSealFails, x.ltRedrives, x.ltReopens, x.ltEgress, x.ltFaults, x.ltIsol⟩
def Doorway.withLife (x : Doorway) (l : DoorLife) : Doorway :=
  { x with isolated := l.isolated, isolatedChamois := l.isolated, ltCycles := l.cycles, ltObst := l.obst,
           ltSealFails := l.sealFails, ltRedrives := l.redrives, ltReopens := l.reopens, ltEgress := l.egress,
           ltFaults := l.faults, ltIsol := l.isol }

/-- Supplies, power and temperatures (R433 to R453). -/
structure Supply where
  status : BitVec 16
  tempStatus : BitVec 8
  logicVolt : Nat
  logicNom : Nat
  /-- no measurement has been taken since the LOGIC supply was applied (R433) -/
  nomDue : Bool
  logicPower : Nat
  driveVolt : Nat
  driveCurr : Int
  drivePower : Nat
  driveAvg : Nat
  driveNom : Nat
  precharged : Bool
  precharging : Option Nat
  retryAt : Option Nat
  regenMj : Nat
  regenEpisodes : Nat
  regenTemp : Int
  regenLockEnd : Option Nat
  dischargeMs : Nat
  holdupMj : Nat
  holdupSince : Option Nat
  pfWarnings : Nat
  bridged : Nat
  longestBridge : Nat
  encOff : BitVec 8
  encRetry : List (Nat × Nat)
  cfOff : BitVec 18
  cfRetry : List (Nat × Nat)
  powerMode : Nat
  wakeSrc : Nat
  logicTemp : Int
  baseTemp : Int
  basePeak : Int
  dissipation : Nat
  base105Us : Nat
  base125Us : Nat
  energyDrive : Nat
  energyLogic : Nat
  busCap : Nat
  soSupply : Vector Nat 4
  insul : Nat
  insulLow : Nat
  deriving DecidableEq, Repr

/-- The lifetime counters of the supplies (R333, R448, R452). -/
structure PowerLife where
  pfWarnings : Nat
  bridged : Nat
  base105Us : Nat
  base125Us : Nat
  energyDrive : Nat
  energyLogic : Nat
  deriving DecidableEq, Repr

def Supply.life (u : Supply) : PowerLife :=
  ⟨u.pfWarnings, u.bridged, u.base105Us, u.base125Us, u.energyDrive, u.energyLogic⟩
def Supply.withLife (u : Supply) (l : PowerLife) : Supply :=
  { u with pfWarnings := l.pfWarnings, bridged := l.bridged, base105Us := l.base105Us, base125Us := l.base125Us,
           energyDrive := l.energyDrive, energyLogic := l.energyLogic }

/-- Stored state as the main store held it when it became FAILED (R380, R398): parameter values, the plan, the sine tables, the
mode, isolations and lifetime counters. -/
structure Kept where
  par : List (Nat × Int)
  plan : Option PlanImg
  planBytes : Bytes
  sines : Vector (List Nat) 4
  mode : Mode
  axes : Vector AxisLife 24
  doors : Vector DoorLife 8
  power : PowerLife
  deriving DecidableEq, Repr

/-- Start, restart and firmware banks (R402 to R424). -/
structure Boot where
  power : Power
  cause : Nat
  warm : Bool
  info : BitVec 8
  step : Nat
  stepUs : Nat
  startMs : Nat
  activeBank : Nat
  bankState : Vector Nat 2
  fwVersion : Vector Nat 2
  secVersion : Vector Nat 2
  minSec : Nat
  bootTries : Nat
  fallbacks : Nat
  prechargeMs : Nat
  storeCheckMs : Nat
  feedsOnAt : Nat
  confirmFrom : Option Nat
  restartPending : Option Nat
  /-- lanes that restart, each with its cause (R420) -/
  laneDown : List (Lane × Nat)
  /-- what the two banks of the firmware store hold (R32, R314) -/
  bankImage : Vector Bytes 2
  fwImage : Bytes
  fwSize : Option (Nat × Nat)
  fwVerified : Bool
  fwVerifying : Bool
  hwRevision : Nat
  serial : Bytes
  orderCode : Nat
  defaultSet : Nat
  revertSet : Option Nat
  /-- what the main store holds while it is FAILED and the module goes on in SRAM (R398, R409) -/
  kept : Option Kept
  deriving DecidableEq, Repr

/-- One Graze item (R469). -/
structure GrazeItem where
  passed : List Nat
  failed : List Nat
  result : Nat
  lastRun : Nat
  cycleFrom : Nat
  fails : Nat
  overdue : Bool
  deriving DecidableEq, Repr

def GrazeItem.reset : GrazeItem := ⟨[], [], 0, 0, 0, 0, false⟩

/-- Graze (R464 to R473). -/
structure Graze where
  items : Vector GrazeItem 13
  head : List Nat
  status : BitVec 16
  fast : Bool
  idlePct : Nat
  cycleH : Nat
  overdue : BitVec 16
  lastFail : Nat
  runs : Nat
  /-- an STO path test in progress: axis, step of R466, when that step is due -/
  sto : Option (Nat × Nat × Nat)
  /-- a step drive check in progress: its axis, and the verdict it ends with (R467) -/
  stepCheck : Option Nat
  stepVerdict : Option Bool
  /-- load-angle measurements of the check, on the way out and back -/
  stepOut : Nat
  stepBack : Nat
  /-- SHADOW_MISMATCH at the start of the coverage cycle of item 12 -/
  shadowBase : Nat
  deriving DecidableEq, Repr

/-- Tables shared by the axes: cam tables (R88) and sine tables 1 to 3 with their shadows (R104). -/
structure CamTable where
  start : Int
  stop : Int
  flags : Nat
  slave : List Int
  deriving DecidableEq, Repr

structure Tables where
  cams : Vector (Option CamTable) 8
  camShadow : Vector (Option CamTable) 8
  sines : Vector (List Nat) 4
  sineShadow : Vector (Option (List Nat)) 4
  deriving DecidableEq, Repr

/-- A move that begins with the next fabric tick, with the parameters and cam tables it was formed with: the tick forms it
anew where they have changed by then (R29). -/
structure Start where
  door : Nat
  req : PathReq
  par : List (Nat × Int)
  cams : Vector (Option CamTable) 8
  /-- E_PLAN before this plan, and whether the plan raised the energy event (R75) -/
  ePrev : Int
  slow : Bool
  deriving DecidableEq, Repr

/-- The whole state. -/
structure State where
  /-- commands that are waiting, first in, first out -/
  pending : List Instr
  /-- µs since the power supply came up, advanced by the fabric tick -/
  us : Nat
  /-- the model's own counter for free values (not the spec's) -/
  fresh : Nat
  /-- active values of writable scalars, as differences from their defaults -/
  par : List (Nat × Int)
  /-- ordinary shadow (R323) and safety shadow (R328) -/
  shadow : List (Nat × Int)
  safShadow : List (Nat × Int)
  ax : Vector Axis 24
  dw : Vector Doorway 8
  saf : Safety
  io : Vector Pin 112
  groups : Vector Group 9
  stations : Vector Station 16
  link : Link
  logic : Logic
  kcp : Kcp
  net : Net
  time : Time
  herd : Herd
  jrn : Journal
  ev : Events
  boot : Boot
  sup : Supply
  graze : Graze
  tab : Tables
  /-- requests that wait for the sequencer pass, and the running number of waiting doorways -/
  reqs : List DoorReq
  waitNo : Nat
  /-- moves that begin with the next fabric tick (R29) -/
  starts : List Start
  /-- field pins under resolution (R242): candidate pin, pins still to probe, first in first -/
  probe : List (Nat × List Nat)
  /-- earliest time of the next off-pulse: one per 1 ms (R242) -/
  probeNext : Nat
  deriving DecidableEq, Repr

/-! ## Reset -/

def Safety.reset : Safety :=
  { pairsI := .replicate 32 PairLane.reset, pairsC := .replicate 32 PairLane.reset, stuck := false,
    resetI := ResetLane.reset, resetC := ResetLane.reset, dlSinceI := none, dlSinceC := none,
    spSinceI := none, spSinceC := none, dlReadyI := false, dlReadyC := false, spReadyI := false, spReadyC := false,
    outs := .replicate 4 SafeOut.reset, testPlace := 0, pulse := none, pulseAt := 0, testFrom := none,
    kscI := Ksc.reset, kscC := Ksc.reset, txSeq := 0, txAt := 0,
    lanes := { disagree := [], goodRun := 0, exchangedAt := none, slotsI := 0, slotsC := 0, ibexUp := true, chamoisUp := true,
               badWindowsIbex := 0, badWindowsChamois := 0, safe := false, cause := 0, restarts := 0,
               restartTimes := [], stateB := .replicate 32 .none },
    configCrc := 0, configCrcC := 0, commitCount := 0, heldOff := false, verified := none, shadowOwner := none,
    shadowC := [], commit := none, modeC := .service }

def Logic.reset : Logic :=
  { state := .stop, holdPending := false, active := none, activeBytes := [], staged := none,
    stagedBytes := [], exchQueued := none, overTask := 0, stopCause := 0, exch := 0, warmLast := false,
    retainOk := false, slot := 0, data := [], ready := [], late := [], running := [], triggers := .replicate 16 [],
    forces := [], stats := .replicate 24 TaskStat.zero, marks := 0, marksFrom := 0, retained := none }

def Kcp.reset : Kcp :=
  { sessions := [], waiting := [], progress := [], nonces := [], logins := [], lockouts := [],
    transfers := [], forwards := [], stream := none, outbox := [] }

def Net.reset : Net :=
  { ports := .replicate 3 NetPort.reset, prpStatus := 0, dups := [], keys := .replicate 4 none,
    sent := [], supAt := 0, prpTx := 0 }

def Time.reset : Time :=
  { clocks := .replicate 2 Clock.reset, ns := 0, rate := 0, valid := false, trusted := 0, deciding := none,
    confirmSince := none, recoverSince := none, pendingStep := none, abDiff := 0, abBase := 0, seen := 0,
    stepsAccepted := 0, stepsRefused := 0, cycleOfs := 0, holdoverSince := 0, utcOffset := 0 }

def Herd.reset : Herd :=
  { role := .solo, master := 255, standby := 255, term := 0, grantedTo := none, epoch := 0, lastEpoch := 0,
    mode := .service, cycle := 0, boundaryAt := 0, joinLeft := 0, noMaster := 0, counted := [], prev := [],
    present := 0, stale := 0, status := 0, pendMode := none, pendEpoch := 0, applyAt := 0, committed := false,
    ackEpoch := 0, ackMask := 0, oldMode := none, appliedAt := 0, grant := 0, conflict := false, holdUntil := none,
    masterBleat := false, lastMaster := none, train := (0, 0, 0), votes := [], candidate := none, noQuorum := 0,
    mirrorSeq := 0, fragment := 0, active := none, activeAt := 0, partialM := none, shadowRun := 0, shadowCmp := 0,
    shadowSkip := 0, shadowMis := 0, switchovers := 0, votesGranted := 0, aborts := 0, rollbacks := 0,
    lastSwitchMs := 0, missFrom := none, missed := .replicate 32 0, missedTerm := .replicate 32 0, lastOf := .replicate 32 none, discarded := 0, conflicts := 0, noQuorumCycles := 0,
    bleatRx := .replicate 2 0, windowClosed := false, staleNow := 0, pubGrant := 0, decision := none,
    snapshot := [], writes := [] }

def Journal.reset : Journal :=
  { regions := .replicate 5 Region.reset, queue := [], queuePeak := 0, queueDrops := 0, suppressed := 0, supBy := [],
    rateBy := [], status := 0, spare := 65536, failRun := 0, held := [], sealCount := 0, lastSeal := 0,
    sealAt := 0, recheckAt := 0, caddySince := none, scrubPassH := 0, scrubAt := none, priorStates := [], opTime := 0,
    opTimeUs := 0, powerCycle := 0, storedOpTime := 0, newestTime := 0 }

def Events.reset : Events :=
  { raiseSeq := 0, pending := .replicate 256 false, sticky := .replicate 256 false, injVec := .replicate 256 false,
    lastRaise := [], injCount := [], injections := 0, raises := 0, foldMain := none, foldCaddy := none }

def Boot.reset : Boot :=
  { power := .on, cause := 0, warm := false, info := 0, step := 1, stepUs := 0, startMs := 0,
    activeBank := 0, bankState := #v[3, 0], fwVersion := .replicate 2 0, secVersion := .replicate 2 0, minSec := 0,
    bootTries := 0, fallbacks := 0, prechargeMs := 0, storeCheckMs := 0, feedsOnAt := 0, confirmFrom := none,
    restartPending := none, laneDown := [], bankImage := .replicate 2 [], fwImage := [], fwSize := none, fwVerified := false,
    fwVerifying := false, hwRevision := 0, serial := zeros 8, orderCode := 1, defaultSet := 1, revertSet := none,
    kept := none }

def Supply.reset : Supply :=
  { status := 0, tempStatus := 0, logicVolt := 0, logicNom := 24, nomDue := true, logicPower := 0, driveVolt := 0, driveCurr := 0,
    drivePower := 0, driveAvg := 0, driveNom := 72, precharged := false, precharging := none, retryAt := none,
    regenMj := 0, regenEpisodes := 0, regenTemp := 0, regenLockEnd := none, dischargeMs := 0, holdupMj := 0,
    holdupSince := none, pfWarnings := 0, bridged := 0, longestBridge := 0, encOff := 0, encRetry := [], cfOff := 0,
    cfRetry := [], powerMode := 0, wakeSrc := 0, logicTemp := 0, baseTemp := 0, basePeak := 0,
    dissipation := 0, base105Us := 0, base125Us := 0, energyDrive := 0, energyLogic := 0, busCap := 0,
    soSupply := .replicate 4 0, insul := 0, insulLow := 0 }

def Graze.reset : Graze :=
  { items := .replicate 13 GrazeItem.reset, head := [], status := 0, fast := false, idlePct := 0, cycleH := 0,
    overdue := 0, lastFail := 0, runs := 0, sto := none, stepCheck := none, stepVerdict := none, stepOut := 0, stepBack := 0, shadowBase := 0 }

def Link.reset : Link :=
  { ring := .off, seen := 0, cycle := 0, due := false, sentAt := none, closedRun := 0, frame := [] }

/-- The tables at delivery: no cam table, the factory sine in tables 1 to 3 (held as the empty list: the factory sine is
computed where it is read). -/
def Tables.reset : Tables :=
  { cams := .replicate 8 none, camShadow := .replicate 8 none, sines := .replicate 4 [],
    sineShadow := .replicate 4 none }

/-- The module as a full start of cause POWER_ON finds it, in the first step of R405: both lanes in reset, every safe
output open, every enable dropped, configured axes in STO under the start demand of both lanes (R406), nothing stored
but the values of delivery. -/
def State.reset : State :=
  { pending := [], us := 0, fresh := 0, par := [], shadow := [], safShadow := [],
    -- by the defaults every doorway is BIPARTING without a step: slots 0 and 1 are configured (R20, R41)
    ax := Vector.ofFn fun a => Axis.atReset (a.val % 3 != 2),
    dw := .replicate 8 Doorway.reset, saf := Safety.reset, io := .replicate 112 Pin.reset,
    groups := .replicate 9 Group.reset, stations := .replicate 16 Station.reset, link := Link.reset,
    logic := Logic.reset, kcp := Kcp.reset, net := Net.reset, time := Time.reset, herd := Herd.reset,
    jrn := Journal.reset, ev := Events.reset, boot := Boot.reset, sup := Supply.reset, graze := Graze.reset,
    tab := Tables.reset, reqs := [], waitNo := 0, starts := [], probe := [], probeNext := 0 }

/-! ## Stops -/

/-- Reasons for which the machine could stop with a fault. No command of this block raises one: the spec gives every
command an effect, and a command that finds no condition for its effect leaves the state as it is (safe: nothing is
stopped). The type has one constructor so that it is inhabited; no meaning answers it. -/
inductive Fault where
  | unused
  deriving DecidableEq, Repr

/-- Reasons for which a command has no meaning here. -/
inductive Refusal where
  /-- the command has no meaning in this model yet; raised only by the dispatch table, under the row's mnemonic (safe:
  nothing can be proved of it) -/
  | notModelled (mnemonic : String)
  deriving DecidableEq, Repr

end Sys2Proof.Machine
end

