-- ==== Sys2Proof/Machine/Ops.lean ====
section
/-! DEFINITION. Shared operations: reading and replacing one numbered part of the state, byte strings, saturation, the CRCs
of R289 and R219, SHA-256 and HMAC (R294, R394), exact square roots, and how a command answers. -/

namespace Sys2Proof.Machine

/-! ## Numbered parts -/

def State.axis (s : State) (a : Nat) : Axis := s.ax[a]?.getD Axis.reset
def State.setAxis (s : State) (a : Nat) (x : Axis) : State := { s with ax := s.ax.setIfInBounds a x }
def State.modAxis (s : State) (a : Nat) (f : Axis → Axis) : State := s.setAxis a (f (s.axis a))

def State.door (s : State) (d : Nat) : Doorway := s.dw[d]?.getD Doorway.reset
def State.setDoor (s : State) (d : Nat) (x : Doorway) : State := { s with dw := s.dw.setIfInBounds d x }
def State.modDoor (s : State) (d : Nat) (f : Doorway → Doorway) : State := s.setDoor d (f (s.door d))

def State.pin (s : State) (n : Nat) : Pin := s.io[n]?.getD Pin.reset
def State.setPin (s : State) (n : Nat) (x : Pin) : State := { s with io := s.io.setIfInBounds n x }
def State.modPin (s : State) (n : Nat) (f : Pin → Pin) : State := s.setPin n (f (s.pin n))

def State.group (s : State) (g : Nat) : Group := s.groups[g]?.getD Group.reset
def State.modGroup (s : State) (g : Nat) (f : Group → Group) : State :=
  { s with groups := s.groups.setIfInBounds g (f (s.group g)) }

def State.station (s : State) (k : Nat) : Station := s.stations[k]?.getD Station.reset
def State.modStation (s : State) (k : Nat) (f : Station → Station) : State :=
  { s with stations := s.stations.setIfInBounds k (f (s.station k)) }

def State.modDrive (s : State) (a : Nat) (f : Drive → Drive) : State :=
  s.modAxis a fun x => { x with drive := f x.drive }
def State.modFb (s : State) (a : Nat) (f : Feedback → Feedback) : State :=
  s.modAxis a fun x => { x with fb := f x.fb }
def State.modDet (s : State) (a : Nat) (f : Detect → Detect) : State :=
  s.modAxis a fun x => { x with det := f x.det }
def State.modHome (s : State) (a : Nat) (f : Homing → Homing) : State :=
  s.modAxis a fun x => { x with home := f x.home }

def State.out (s : State) (o : Nat) : SafeOut := s.saf.outs[o]?.getD SafeOut.reset
def State.modSaf (s : State) (f : Safety → Safety) : State := { s with saf := f s.saf }
def State.modOut (s : State) (o : Nat) (f : SafeOut → SafeOut) : State :=
  { s with saf := { s.saf with outs := s.saf.outs.setIfInBounds o (f (s.out o)) } }
def State.modLanes (s : State) (f : Lanes → Lanes) : State := { s with saf := { s.saf with lanes := f s.saf.lanes } }

/-- A pair as a lane evaluates it. -/
def State.pair (s : State) (lane : Lane) (p : Nat) : PairLane :=
  match lane with
  | .ibex => s.saf.pairsI[p]?.getD PairLane.reset
  | .chamois => s.saf.pairsC[p]?.getD PairLane.reset
def State.modPair (s : State) (lane : Lane) (p : Nat) (f : PairLane → PairLane) : State :=
  match lane with
  | .ibex => { s with saf := { s.saf with pairsI := s.saf.pairsI.setIfInBounds p (f (s.pair .ibex p)) } }
  | .chamois => { s with saf := { s.saf with pairsC := s.saf.pairsC.setIfInBounds p (f (s.pair .chamois p)) } }

def State.region (s : State) (r : Nat) : Region := s.jrn.regions[r]?.getD Region.reset
def State.modJrn (s : State) (f : Journal → Journal) : State := { s with jrn := f s.jrn }
def State.modRegion (s : State) (r : Nat) (f : Region → Region) : State :=
  { s with jrn := { s.jrn with regions := s.jrn.regions.setIfInBounds r (f (s.region r)) } }

def Port.index : Port → Nat
  | .netA => 0 | .netB => 1 | .svc => 2
def State.port (s : State) (p : Nat) : NetPort := s.net.ports[p]?.getD NetPort.reset
def State.modPort (s : State) (p : Nat) (f : NetPort → NetPort) : State :=
  { s with net := { s.net with ports := s.net.ports.setIfInBounds p (f (s.port p)) } }
def State.modNet (s : State) (f : Net → Net) : State := { s with net := f s.net }
def State.clock (s : State) (n : Nat) : Clock := s.time.clocks[n]?.getD Clock.reset
def State.modTime (s : State) (f : Time → Time) : State := { s with time := f s.time }
def State.modClock (s : State) (n : Nat) (f : Clock → Clock) : State :=
  { s with time := { s.time with clocks := s.time.clocks.setIfInBounds n (f (s.clock n)) } }

def State.modKcp (s : State) (f : Kcp → Kcp) : State := { s with kcp := f s.kcp }
def State.modHerd (s : State) (f : Herd → Herd) : State := { s with herd := f s.herd }
def State.modLogic (s : State) (f : Logic → Logic) : State := { s with logic := f s.logic }
def State.modLink (s : State) (f : Link → Link) : State := { s with link := f s.link }
def State.modBoot (s : State) (f : Boot → Boot) : State := { s with boot := f s.boot }
def State.modSup (s : State) (f : Supply → Supply) : State := { s with sup := f s.sup }
def State.modGraze (s : State) (f : Graze → Graze) : State := { s with graze := f s.graze }
def State.modEv (s : State) (f : Events → Events) : State := { s with ev := f s.ev }

/-- An element of a vector, with a value for an index beyond it, and its replacement. -/
def vget {α : Type} {n : Nat} (v : Vector α n) (i : Nat) (d : α) : α := v[i]?.getD d
def vset {α : Type} {n : Nat} (v : Vector α n) (i : Nat) (x : α) : Vector α n := v.setIfInBounds i x
def lget {α : Type} (l : List α) (i : Nat) (d : α) : α := l[i]?.getD d

/-- Run a step for each number below n, in ascending order. -/
def each (n : Nat) (f : State → Nat → State) (s : State) : State := (List.range n).foldl f s


/-! ## Association lists with one entry per key -/

def put {α : Type} (l : List (Nat × α)) (k : Nat) (x : α) : List (Nat × α) := (k, x) :: l.filter (fun e => e.1 ≠ k)
def drop_ {α : Type} (l : List (Nat × α)) (k : Nat) : List (Nat × α) := l.filter (fun e => e.1 ≠ k)
def get {α : Type} (l : List (Nat × α)) (k : Nat) : Option α := (l.find? (fun e => e.1 = k)).map Prod.snd
def getD {α : Type} (l : List (Nat × α)) (k : Nat) (d : α) : α := (get l k).getD d

/-! ## Numbers -/

/-- Unsigned saturation at 8, 16 and 32 bits; wrapping at 32 bits. -/
def sat8 (x : Nat) : Nat := min x 0xFF
def sat16 (x : Nat) : Nat := min x 0xFFFF
def sat32 (x : Nat) : Nat := min x 0xFFFFFFFF
def inc32 (x : Nat) : Nat := sat32 (x + 1)
def wrap32 (x : Nat) : Nat := x % 0x100000000

def clampI (lo hi x : Int) : Int := max lo (min x hi)

/-- A signed quantity of n bits held to the symmetric range of R5. -/
def satI (bits : Nat) (x : Int) : Int := clampI (1 - 2 ^ (bits - 1) : Int) (2 ^ (bits - 1) - 1 : Int) x

/-- A signed number of n bits read from its two's complement word. -/
def toSigned (bits x : Nat) : Int :=
  if x % 2 ^ bits < 2 ^ (bits - 1) then ((x % 2 ^ bits : Nat) : Int) else ((x % 2 ^ bits : Nat) : Int) - (2 ^ bits : Nat)

/-- The two's complement word of n bits of an integer. -/
def toWord (bits : Nat) (x : Int) : Nat := (x % ((2 ^ bits : Nat) : Int)).toNat

/-- Rounding of a computed quantity to its unit: to the nearest integer, halves away from zero. DESIGN CHOICE (log 68):
R5, R159 and R160 give the units and no rounding. -/
def rnd (x : Rat) : Int := if 0 ≤ x then (x + 1 / 2).floor else -((-x + 1 / 2).floor)

def absR (x : Rat) : Rat := if x < 0 then -x else x
def absI (x : Int) : Int := if x < 0 then -x else x
def maxR (x y : Rat) : Rat := if x < y then y else x
def minR (x y : Rat) : Rat := if y < x then y else x

/-- The square root of a non-negative rational to within 2^-20 below it. -/
def sqrtR (x : Rat) : Rat :=
  if x ≤ 0 then 0 else
  let n := (x * (1099511627776 : Rat)).floor.toNat
  (Nat.sqrt n : Rat) / 1048576

def bit (x : Nat) (i : Nat) : Bool := x.testBit i
def b2n (b : Bool) : Nat := if b then 1 else 0
def b2i (b : Bool) : Int := if b then 1 else 0
/-- The word whose bit i is the i-th Boolean. -/
def ofBits (l : List Bool) : Nat := l.foldr (fun b acc => 2 * acc + b2n b) 0

/-! ## Byte strings (R9: little-endian) -/

def le : Nat → Nat → Bytes
  | 0, _ => []
  | n + 1, x => BitVec.ofNat 8 x :: le n (x / 256)
def leI (n : Nat) (x : Int) : Bytes := le n (toWord (8 * n) x)
def rdAll : Bytes → Nat
  | [] => 0
  | b :: r => b.toNat + 256 * rdAll r
/-- n bytes from an offset, as a number; bytes beyond the end read as 0. -/
def rd (b : Bytes) (o n : Nat) : Nat := rdAll ((b.drop o).take n)
def rdI (b : Bytes) (o n : Nat) : Int := toSigned (8 * n) (rd b o n)
/-- Exactly n bytes: cut, or filled with zeros. -/
def fix (n : Nat) (b : Bytes) : Bytes := (b ++ zeros (n - b.length)).take n
/-- Replace bytes from an offset. -/
def splice (b : Bytes) (o : Nat) (x : Bytes) : Bytes := b.take o ++ x ++ b.drop (o + x.length)

/-! ## Checks -/

def crcBit (poly : BitVec 32) (c : BitVec 32) : BitVec 32 :=
  if c.getLsbD 0 then (c >>> 1) ^^^ poly else c >>> 1
def crcByte (poly : BitVec 32) (c : BitVec 32) (b : Byte) : BitVec 32 :=
  let x := c ^^^ b.setWidth 32
  crcBit poly (crcBit poly (crcBit poly (crcBit poly (crcBit poly (crcBit poly (crcBit poly (crcBit poly x)))))))
/-- CRC-32C of R289: polynomial 0x1EDC6F41 reflected, initial value and final XOR all ones. -/
def crc32c (b : Bytes) : Nat := ((b.foldl (crcByte 0x82F63B78) 0xFFFFFFFF) ^^^ 0xFFFFFFFF).toNat

/-- The integer k-th root of x below 2^b, bit by bit from the top. -/
def rootBits (k x : Nat) : Nat → Nat → Nat
  | 0, r => r
  | b + 1, r => rootBits k x b (if (r + 2 ^ b) ^ k ≤ x then r + 2 ^ b else r)
/-- The first 32 bits of the fraction of the k-th root of p. -/
def rootFraction (k p : Nat) : BitVec 32 := BitVec.ofNat 32 (rootBits k (p * 2 ^ (32 * k)) 38 0)
/-- The first n primes, all below 361, so that a composite has a divisor below 19. -/
def firstPrimes (n : Nat) : List Nat :=
  (((List.range 361).drop 2).filter fun p => [2, 3, 5, 7, 11, 13, 17].all fun q => p ≤ q || p % q ≠ 0).take n

/-- Round constants of SHA-256: fractions of the cube roots of the first 64 primes (PRESUMED: the public standard
FIPS 180-4; the spec names the function only). -/
def shaK : List (BitVec 32) := (firstPrimes 64).map (rootFraction 3)
/-- The initial hash: fractions of the square roots of the first 8 primes. -/
def shaInit : List (BitVec 32) := (firstPrimes 8).map (rootFraction 2)

/-- Expand the sixteen words of a block to the sixty-four of the message schedule; the list holds the newest first. -/
def shaExpand : Nat → List (BitVec 32) → List (BitVec 32)
  | 0, w => w
  | n + 1, w =>
    let g (i : Nat) : BitVec 32 := lget w i 0
    let s0 := (g 14).rotateRight 7 ^^^ (g 14).rotateRight 18 ^^^ (g 14) >>> 3
    let s1 := (g 1).rotateRight 17 ^^^ (g 1).rotateRight 19 ^^^ (g 1) >>> 10
    shaExpand n ((g 15 + s0 + g 6 + s1) :: w)

def shaRound (v : List (BitVec 32)) (kw : BitVec 32) : List (BitVec 32) :=
  let g (i : Nat) : BitVec 32 := lget v i 0
  let s1 := (g 4).rotateRight 6 ^^^ (g 4).rotateRight 11 ^^^ (g 4).rotateRight 25
  let ch := (g 4 &&& g 5) ^^^ (~~~ (g 4) &&& g 6)
  let t1 := g 7 + s1 + ch + kw
  let s0 := (g 0).rotateRight 2 ^^^ (g 0).rotateRight 13 ^^^ (g 0).rotateRight 22
  let maj := (g 0 &&& g 1) ^^^ (g 0 &&& g 2) ^^^ (g 1 &&& g 2)
  [t1 + s0 + maj, g 0, g 1, g 2, g 3 + t1, g 4, g 5, g 6]

def shaWords : Bytes → List (BitVec 32)
  | a :: b :: c :: d :: r => (a ++ b ++ c ++ d) :: shaWords r
  | _ => []

def shaBlock (k h : List (BitVec 32)) (blk : Bytes) : List (BitVec 32) :=
  let w := (shaExpand 48 (shaWords blk).reverse).reverse
  let v := (List.zipWith (· + ·) k w).foldl shaRound h
  List.zipWith (· + ·) h v

def shaBlocks (k : List (BitVec 32)) : Nat → List (BitVec 32) → Bytes → List (BitVec 32)
  | 0, h, _ => h
  | n + 1, h, b => shaBlocks k n (shaBlock k h (b.take 64)) (b.drop 64)

def beBytes (n x : Nat) : Bytes := (le n x).reverse

def sha256 (m : Bytes) : Bytes :=
  let padded := m ++ [0x80] ++ zeros ((119 - m.length % 64) % 64) ++ beBytes 8 (8 * m.length)
  let h := shaBlocks shaK (padded.length / 64) shaInit padded
  h.flatMap fun x => beBytes 4 x.toNat

/-- HMAC-SHA-256 with a key of 32 bytes (R294). -/
def hmac (key m : Bytes) : Bytes :=
  let k := fix 64 key
  sha256 (k.map (· ^^^ 0x5c) ++ sha256 (k.map (· ^^^ 0x36) ++ m))

/-! ## Time of the model -/

/-- Whether a deadline has come. -/
def due (s : State) (t : Option Nat) : Bool :=
  match t with
  | some x => x ≤ s.us
  | none => false
/-- Milliseconds since a moment. -/
def msSince (s : State) (t : Nat) : Nat := (s.us - t) / 1000

/-- One more use of the counter that free values are drawn with. -/
def State.draw (s : State) : State := { s with fresh := s.fresh + 1 }

/-! ## Answers -/

/-- What holds in hardware after every command, whatever it did: while the module safe state stands, the high-side and
low-side switches of all four safe output pairs are off (R26); and the queue of waiting commands is not the command's
to change. -/
def gateOut (o : SafeOut) : SafeOut := { o with hsCmd := false, lsCmd := false }
def settle (q : List Instr) (t : State) : State :=
  { t with
    pending := q
    saf := if t.saf.lanes.safe then
        { t.saf with outs := #v[gateOut (vget t.saf.outs 0 SafeOut.reset), gateOut (vget t.saf.outs 1 SafeOut.reset),
                                gateOut (vget t.saf.outs 2 SafeOut.reset), gateOut (vget t.saf.outs 3 SafeOut.reset)] }
      else t.saf }

/-- The answer of a command whose effect on s is t. -/
def answer (s t : State) : Host.Outcome State Fault Refusal := .next (settle s.pending t)

end Sys2Proof.Machine
end

