-- ==== Sys2Proof/Machine/Params.lean ====
section
/-! DEFINITION. The parameter space (R318 to R332 and the tables R41, R67, R68, R123, R157, R185, R194, R206, R210, R225, R256, R283,
R352, R353, R377, R401, R424, R452, R473): names, indices, access classes, ranges, defaults of the two sets, keys. -/

namespace Sys2Proof.Machine

/-- Access classes of scalars (R12). -/
inductive Acc where
  | ro | rw | rwr | rwm | rws | w1c | sc
  deriving DecidableEq, Repr

/-- What the tables fix of one scalar: class, fixed bounds, step (R320). A negative lower bound makes it signed. -/
structure PInfo where
  acc : Acc
  lo : Int
  hi : Int
  step : Int
  deriving DecidableEq, Repr

/-- The scalars of group MOD (R331). -/
inductive ModP where
  | orderCode
  | defaultSet
  | mode
  | driveNom
  | driveBudgetW
  | staggerMaxMs
  | baseTemp
  | ioProbe
  | logicState
  | logicStatus
  | logicAutostart
  | planId
  | planVersion
  | planCrc
  | stagedCrc
  | flCycleMs
  | flStatus
  | fgVolt (i : Nat)
  | fgStatus (i : Nat)
  | sineCrc (i : Nat)
  | logicVolt
  | logicNom
  | logicPowerMw
  | supplyStatus
  | driveVolt
  | driveCurr
  | drivePowerW
  | driveAvgW
  | regenMj
  | regenEpisodes
  | regenTemp
  | dischargeMs
  | holdupMj
  | pfWarnings
  | bridged
  | longestBridgeMs
  | fgCurr (i : Nat)
  | encSupply (i : Nat)
  | encSupplyStatus
  | powerMode
  | wakeSrc
  | tempStatus
  | logicTemp
  | baseTempPeak
  | deratePct
  | baseTempWarn
  | dissipationW
  | base105H
  | base125H
  | energyDriveWh
  | energyLogicWh
  | busCapUf
  | soSupply (i : Nat)
  | cfStatus
  | fgCurrLimit (i : Nat)
  | insulKohm
  | insulLimitKohm
  | hwRevision
  | resetCause
  | startKind
  | startInfo
  | coldReq
  | restart
  | startHome
  | powerCycles
  | opTimeLo
  | opTimeHi
  | startStep
  | startTimeMs
  | activeBank
  | bankState (i : Nat)
  | fwVersion (i : Nat)
  | secVersion (i : Nat)
  | bootTries
  | fallbacks
  | prechargeMs
  | prechargeTimeoutMs
  | storeCheckMs
  | laneRestarts
  | evRaiseSeq
  | evPending (i : Nat)
  | evSticky (i : Nat)
  | evInjVec (i : Nat)
  | evInjections
  | evRaises
  | grazeStatus
  | grazeIdlePct
  | grazeFast
  | grazeCycleH
  | grazeOverdue
  | grazeCfg (i : Nat)
  | grazeCover (i : Nat)
  | grazeLastFail
  | grazeRuns
  deriving DecidableEq, Repr

/-- The scalars of group AX (R331). -/
inductive AxP where
  | umPerUstep
  | travel
  | vmax
  | amax
  | jmax
  | softMin
  | softMax
  | vOpen
  | accOpen
  | jerkOpen
  | accClose
  | jerkClose
  | decelQuick
  | jerkQuick
  | decelObst
  | jerkObst
  | vJog
  | kf
  | vForce0
  | fUsablePct
  | mMin
  | mMax
  | mStepPct
  | idResidMax
  | pAccW
  | pRunW
  | pHoldW
  | mass
  | massRaw
  | massValid
  | idStatus
  | queued
  | queueStatus
  | lcFired
  | sineSel
  | motorInv
  | iLevel (i : Nat)
  | iHold
  | holdDelayMs
  | holdRampMs
  | toff
  | tblank
  | decay
  | fastRisePct
  | fastFallPct
  | enableRampMs
  | parkRampMs
  | parkTol
  | realign
  | ke
  | bemfMinSps
  | driveState
  | iApplied
  | phase
  | phaseOfs
  | phaseValid
  | commOffset
  | commValid
  | loadAngle
  | laValid
  | stageTemp
  | stageFault
  | enableStatus
  | encMode
  | encInv
  | umPerCount
  | encFiltNs
  | indexUse
  | hyst
  | obsBwHz
  | indexPolicy
  | indexPeriod
  | indexTol
  | indexCorrMax
  | pos
  | speed
  | accel
  | posOfs
  | overflow
  | indexPos
  | indexErr
  | fbStatus
  | latchCfg (i : Nat)
  | homeType
  | homeDir
  | homePin
  | homeVSearch
  | homeVCreep
  | homeAcc
  | homeI
  | homePos
  | homeEndPos
  | homeClear
  | homeStopDev
  | homeLaStop
  | homeSettleMs
  | homeMaxDist
  | homeRetryDist
  | homeStatus
  | force
  | forceF
  | lag0
  | envTicks
  | envMargin
  | envK
  | envRate
  | envDriftMax
  | envTeachLimit
  | devWin
  | devTicks
  | laStall
  | ltMoves
  | ltDistM
  | ltEnergisedH
  | ltSto
  | ltStageFaults
  | ltHomings
  deriving DecidableEq, Repr

/-- The scalars of group DW (R331). -/
inductive DwP where
  | state
  | leafState
  | stepState
  | type
  | side
  | stepMode
  | stepSafePos
  | autoOpen
  | reopenOnReq
  | dwellMs
  | warnMs
  | dwellOverrunS
  | unlockPin
  | lockPin
  | warnPin
  | lockPulseMs
  | unlockTimeMs
  | lockTimeMs
  | lockRetries
  | obstRetries
  | reopenDist
  | obstPauseMs
  | sealEntry
  | closedCheckPos
  | stepOverlapPos
  | stepRetractPos
  | parkDelayMs
  | obstCount
  | homeTimeoutS
  | vClose
  | vCloseMin
  | ecap
  | ePlanPct
  | fcap
  | approachPos
  | vApproach
  | massPlan
  | ePlan
  | ePeak
  | ssiAxis
  | ssiBits
  | ssiStatBits
  | ssiCode
  | ssiClockKhz
  | ssiDelayNs
  | ssiPauseUs
  | ssiPeriodUs
  | ssiUmPerLsb
  | ssiOffset
  | ssiTol
  | edgeMode
  | edgePin
  | edgeMutePos
  | curtainMode
  | curtainPin
  | sealF (i : Nat)
  | sealV
  | sealVSettle
  | sealContactMs
  | sealStepMs
  | sealGapTol
  | sealAbortGap
  | sealCompTolPct
  | sealGapMax
  | sealRate
  | sealDriftMax
  | teach
  | teachCycles
  | learnState
  | obstCause
  | obstAxis
  | obstPos
  | obstForce
  | ltCycles
  | ltObstacles
  | ltSealFails
  | ltLockRedrives
  | ltReopens
  | ltEgress
  | ltFaultHolds
  | ltIsolations
  deriving DecidableEq, Repr

/-- The scalars of group IO (R331). -/
inductive IoP where
  | mode
  | owner
  | filtUs
  | inv
  | safeVal
  | out
  | value
  | status
  deriving DecidableEq, Repr

/-- The scalars of group FS (R331). -/
inductive FsP where
  | enable
  | typeId
  | substMode
  | status
  | missedTotal
  | lostTotal
  | input (i : Nat)
  deriving DecidableEq, Repr

/-- The scalars of group EV (R331). -/
inductive EvP where
  | cfg
  | inj
  deriving DecidableEq, Repr

/-- The scalars of group SAF (R331). -/
inductive SafP where
  | configCrc
  | commitCount
  | safeState
  | releaseSrc
  | pairType (i : Nat)
  | disc (i : Nat)
  | inFiltMs (i : Nat)
  | pairStatus (i : Nat)
  | dlOnDelayMs
  | rlSide
  | spFunc
  | soTestPeriodS
  | soPulseUs
  | soStatus (i : Nat)
  | soCurrent (i : Nat)
  | ssDecel (i : Nat)
  | ssJerk (i : Nat)
  | ssVTol (i : Nat)
  | ssMonPct
  | ssDelayMs
  | ssTmaxMs
  | iTolMa
  | kscConnId
  | kscCode
  | kscPeerA
  | kscPeerB
  | kscCycleMs
  | kscWdMs
  | kscPolicy
  | kscSingleMax
  | kscPairUs
  | kscSeqGap
  | kscStatus
  deriving DecidableEq, Repr

/-- The scalars of group NET (R331). -/
inductive NetP where
  | ipAddr (i : Nat)
  | ipMask (i : Nat)
  | gateway (i : Nat)
  | macHi (i : Nat)
  | macLo (i : Nat)
  | portEnable
  | speedCfg (i : Nat)
  | linkStatus (i : Nat)
  | linkDebounceMs
  | vlanId (i : Nat)
  | pcp (i : Nat)
  | prpMode
  | prpWindow
  | prpAgeMs
  | prpSupMs
  | prpStatus
  | singleLanS
  | herdMcast
  | herdPort
  | kcpPorts
  | svcL2Kcp
  | rateLimit (i : Nat)
  | cnt (i : Nat)
  | cntClear
  | ptpEnable
  | domain (i : Nat)
  | transport (i : Nat)
  | priority1
  | priority2
  | slaveOnly
  | logSync
  | logAnnounce
  | logDelayReq
  | announceTimeout
  | asymNs (i : Nat)
  | timePref
  | timeStepMaxUs
  | timeStepConfirmS
  | abTolUs
  | abDecideMs
  | abWindowS
  | abRecoverS
  | pdStepNs
  | slewPpm
  | servoKp
  | servoKi
  | lockNs
  | timeStatus
  | ptpState (i : Nat)
  | offsetNs (i : Nat)
  | pathDelayNs (i : Nat)
  | pdChangeS (i : Nat)
  | refusedNs (i : Nat)
  | abDiffNs
  | abBaseNs
  | freqPpb
  | gmIdHi (i : Nat)
  | gmIdLo (i : Nat)
  | utcOffsetS
  | holdoverS
  | stepsAccepted
  | stepsRefused
  | herdCycleOfs
  | syncRx (i : Nat)
  | kcpKeepaliveS
  | jogRefreshMs
  deriving DecidableEq, Repr

/-- The scalars of group HERD (R331). -/
inductive HerdP where
  | member
  | carOrient
  | role
  | master
  | standby
  | term
  | epoch
  | configMask
  | eligible
  | prio
  | trainId
  | extRefId
  | extRefAddr
  | joinCycles
  | bothSides
  | shadowMissMax
  | present
  | quorum
  | status
  | pendMode
  | pendEpoch
  | applyAtLo
  | applyAtHi
  | grant
  | mirrorSeq
  | mirrorAge
  | shadowCmp
  | shadowSkip
  | shadowMismatch
  | switchovers
  | votesGranted
  | modeAborts
  | rollbacks
  | lastSwitchMs
  | missed (i : Nat)
  | ackMask
  | staleMask
  | conflicts
  | noQuorumCycles
  | bleatRx (i : Nat)
  deriving DecidableEq, Repr

/-- The scalars of group JRN (R331). -/
inductive JrnP where
  | state (i : Nat)
  | capacity (i : Nat)
  | oldestLo (i : Nat)
  | oldestHi (i : Nat)
  | newestLo (i : Nat)
  | newestHi (i : Nat)
  | lineErrs (i : Nat)
  | eccFixed (i : Nat)
  | status
  | sealPeriodH
  | sealCount
  | lastSealLo
  | lastSealHi
  | foldWindowS
  | eventRate
  | suppressed
  | failLimit
  | recheck
  | queuePeak
  | queueDrops
  | cyclePend
  | scrubPassH
  | scrubAgeH
  | caddySince
  deriving DecidableEq, Repr

/-- Factory mode and owner of a pin (R234). -/
def pinDefault (n : Nat) : Int × Int :=
  if n < 96 then
    if n % 12 = 0 ∨ n % 12 = 1 ∨ n % 12 = 5 then (2, 1) else if n % 12 = 2 ∨ n % 12 = 3 then (2, 0) else (1, 0)
  else (1, 0)

/-- Reset value of `EV[e].CFG` (R459). -/
def evDefault (e : Nat) : Int :=
  if e = 194 then 0xC000 else if e = 206 then 0xD000 else if e = 195 ∨ e = 201 then 0xA000 else 0xB000

/-- Index of a scalar of group MOD (R331). -/
def ModP.idx : ModP → Nat
  | .orderCode => 0x0
  | .defaultSet => 0x1
  | .mode => 0x2
  | .driveNom => 0x3
  | .driveBudgetW => 0x4
  | .staggerMaxMs => 0x5
  | .baseTemp => 0x6
  | .ioProbe => 0x7
  | .logicState => 0x100
  | .logicStatus => 0x101
  | .logicAutostart => 0x102
  | .planId => 0x103
  | .planVersion => 0x104
  | .planCrc => 0x105
  | .stagedCrc => 0x106
  | .flCycleMs => 0x200
  | .flStatus => 0x201
  | .fgVolt i => 0x210 + i
  | .fgStatus i => 0x220 + i
  | .sineCrc i => 0x300 + i
  | .logicVolt => 0x400
  | .logicNom => 0x401
  | .logicPowerMw => 0x402
  | .supplyStatus => 0x403
  | .driveVolt => 0x404
  | .driveCurr => 0x405
  | .drivePowerW => 0x406
  | .driveAvgW => 0x407
  | .regenMj => 0x408
  | .regenEpisodes => 0x409
  | .regenTemp => 0x40a
  | .dischargeMs => 0x40b
  | .holdupMj => 0x40c
  | .pfWarnings => 0x40d
  | .bridged => 0x40e
  | .longestBridgeMs => 0x40f
  | .fgCurr i => 0x410 + i
  | .encSupply i => 0x419 + i
  | .encSupplyStatus => 0x421
  | .powerMode => 0x422
  | .wakeSrc => 0x423
  | .tempStatus => 0x424
  | .logicTemp => 0x425
  | .baseTempPeak => 0x426
  | .deratePct => 0x427
  | .baseTempWarn => 0x428
  | .dissipationW => 0x429
  | .base105H => 0x42a
  | .base125H => 0x42b
  | .energyDriveWh => 0x42c
  | .energyLogicWh => 0x42d
  | .busCapUf => 0x42e
  | .soSupply i => 0x42f + i
  | .cfStatus => 0x433
  | .fgCurrLimit i => 0x434 + i
  | .insulKohm => 0x43d
  | .insulLimitKohm => 0x43e
  | .hwRevision => 0x43f
  | .resetCause => 0x500
  | .startKind => 0x501
  | .startInfo => 0x502
  | .coldReq => 0x503
  | .restart => 0x504
  | .startHome => 0x505
  | .powerCycles => 0x506
  | .opTimeLo => 0x507
  | .opTimeHi => 0x508
  | .startStep => 0x509
  | .startTimeMs => 0x50a
  | .activeBank => 0x50b
  | .bankState i => 0x50c + i
  | .fwVersion i => 0x50e + i
  | .secVersion i => 0x510 + i
  | .bootTries => 0x512
  | .fallbacks => 0x513
  | .prechargeMs => 0x514
  | .prechargeTimeoutMs => 0x515
  | .storeCheckMs => 0x516
  | .laneRestarts => 0x517
  | .evRaiseSeq => 0x600
  | .evPending i => 0x601 + i
  | .evSticky i => 0x609 + i
  | .evInjVec i => 0x611 + i
  | .evInjections => 0x619
  | .evRaises => 0x61a
  | .grazeStatus => 0x61b
  | .grazeIdlePct => 0x61c
  | .grazeFast => 0x61d
  | .grazeCycleH => 0x61e
  | .grazeOverdue => 0x61f
  | .grazeCfg i => 0x620 + i
  | .grazeCover i => 0x62c + i
  | .grazeLastFail => 0x638
  | .grazeRuns => 0x639

/-- Runs of indices of group MOD, part 0: first index, length, the scalar at an offset (R319, R331). -/
def ModP.segs0 : List (Nat × Nat × (Nat → ModP)) :=
  [(0x0, 1, fun _ => .orderCode), (0x1, 1, fun _ => .defaultSet), (0x2, 1, fun _ => .mode), (0x3, 1, fun _ => .driveNom), (0x4, 1, fun _ => .driveBudgetW), (0x5, 1, fun _ => .staggerMaxMs)]

/-- Runs of indices of group MOD, part 1: first index, length, the scalar at an offset (R319, R331). -/
def ModP.segs1 : List (Nat × Nat × (Nat → ModP)) :=
  [(0x6, 1, fun _ => .baseTemp), (0x7, 1, fun _ => .ioProbe), (0x100, 1, fun _ => .logicState), (0x101, 1, fun _ => .logicStatus), (0x102, 1, fun _ => .logicAutostart), (0x103, 1, fun _ => .planId)]

/-- Runs of indices of group MOD, part 2: first index, length, the scalar at an offset (R319, R331). -/
def ModP.segs2 : List (Nat × Nat × (Nat → ModP)) :=
  [(0x104, 1, fun _ => .planVersion), (0x105, 1, fun _ => .planCrc), (0x106, 1, fun _ => .stagedCrc), (0x200, 1, fun _ => .flCycleMs), (0x201, 1, fun _ => .flStatus), (0x210, 9, .fgVolt)]

/-- Runs of indices of group MOD, part 3: first index, length, the scalar at an offset (R319, R331). -/
def ModP.segs3 : List (Nat × Nat × (Nat → ModP)) :=
  [(0x220, 9, .fgStatus), (0x300, 4, .sineCrc), (0x400, 1, fun _ => .logicVolt), (0x401, 1, fun _ => .logicNom), (0x402, 1, fun _ => .logicPowerMw), (0x403, 1, fun _ => .supplyStatus)]

/-- Runs of indices of group MOD, part 4: first index, length, the scalar at an offset (R319, R331). -/
def ModP.segs4 : List (Nat × Nat × (Nat → ModP)) :=
  [(0x404, 1, fun _ => .driveVolt), (0x405, 1, fun _ => .driveCurr), (0x406, 1, fun _ => .drivePowerW), (0x407, 1, fun _ => .driveAvgW), (0x408, 1, fun _ => .regenMj), (0x409, 1, fun _ => .regenEpisodes)]

/-- Runs of indices of group MOD, part 5: first index, length, the scalar at an offset (R319, R331). -/
def ModP.segs5 : List (Nat × Nat × (Nat → ModP)) :=
  [(0x40a, 1, fun _ => .regenTemp), (0x40b, 1, fun _ => .dischargeMs), (0x40c, 1, fun _ => .holdupMj), (0x40d, 1, fun _ => .pfWarnings), (0x40e, 1, fun _ => .bridged), (0x40f, 1, fun _ => .longestBridgeMs)]

/-- Runs of indices of group MOD, part 6: first index, length, the scalar at an offset (R319, R331). -/
def ModP.segs6 : List (Nat × Nat × (Nat → ModP)) :=
  [(0x410, 9, .fgCurr), (0x419, 8, .encSupply), (0x421, 1, fun _ => .encSupplyStatus), (0x422, 1, fun _ => .powerMode), (0x423, 1, fun _ => .wakeSrc), (0x424, 1, fun _ => .tempStatus)]

/-- Runs of indices of group MOD, part 7: first index, length, the scalar at an offset (R319, R331). -/
def ModP.segs7 : List (Nat × Nat × (Nat → ModP)) :=
  [(0x425, 1, fun _ => .logicTemp), (0x426, 1, fun _ => .baseTempPeak), (0x427, 1, fun _ => .deratePct), (0x428, 1, fun _ => .baseTempWarn), (0x429, 1, fun _ => .dissipationW), (0x42a, 1, fun _ => .base105H)]

/-- Runs of indices of group MOD, part 8: first index, length, the scalar at an offset (R319, R331). -/
def ModP.segs8 : List (Nat × Nat × (Nat → ModP)) :=
  [(0x42b, 1, fun _ => .base125H), (0x42c, 1, fun _ => .energyDriveWh), (0x42d, 1, fun _ => .energyLogicWh), (0x42e, 1, fun _ => .busCapUf), (0x42f, 4, .soSupply), (0x433, 1, fun _ => .cfStatus)]

/-- Runs of indices of group MOD, part 9: first index, length, the scalar at an offset (R319, R331). -/
def ModP.segs9 : List (Nat × Nat × (Nat → ModP)) :=
  [(0x434, 9, .fgCurrLimit), (0x43d, 1, fun _ => .insulKohm), (0x43e, 1, fun _ => .insulLimitKohm), (0x43f, 1, fun _ => .hwRevision), (0x500, 1, fun _ => .resetCause), (0x501, 1, fun _ => .startKind)]

/-- Runs of indices of group MOD, part 10: first index, length, the scalar at an offset (R319, R331). -/
def ModP.segs10 : List (Nat × Nat × (Nat → ModP)) :=
  [(0x502, 1, fun _ => .startInfo), (0x503, 1, fun _ => .coldReq), (0x504, 1, fun _ => .restart), (0x505, 1, fun _ => .startHome), (0x506, 1, fun _ => .powerCycles), (0x507, 1, fun _ => .opTimeLo)]

/-- Runs of indices of group MOD, part 11: first index, length, the scalar at an offset (R319, R331). -/
def ModP.segs11 : List (Nat × Nat × (Nat → ModP)) :=
  [(0x508, 1, fun _ => .opTimeHi), (0x509, 1, fun _ => .startStep), (0x50a, 1, fun _ => .startTimeMs), (0x50b, 1, fun _ => .activeBank), (0x50c, 2, .bankState), (0x50e, 2, .fwVersion)]

/-- Runs of indices of group MOD, part 12: first index, length, the scalar at an offset (R319, R331). -/
def ModP.segs12 : List (Nat × Nat × (Nat → ModP)) :=
  [(0x510, 2, .secVersion), (0x512, 1, fun _ => .bootTries), (0x513, 1, fun _ => .fallbacks), (0x514, 1, fun _ => .prechargeMs), (0x515, 1, fun _ => .prechargeTimeoutMs), (0x516, 1, fun _ => .storeCheckMs)]

/-- Runs of indices of group MOD, part 13: first index, length, the scalar at an offset (R319, R331). -/
def ModP.segs13 : List (Nat × Nat × (Nat → ModP)) :=
  [(0x517, 1, fun _ => .laneRestarts), (0x600, 1, fun _ => .evRaiseSeq), (0x601, 8, .evPending), (0x609, 8, .evSticky), (0x611, 8, .evInjVec), (0x619, 1, fun _ => .evInjections)]

/-- Runs of indices of group MOD, part 14: first index, length, the scalar at an offset (R319, R331). -/
def ModP.segs14 : List (Nat × Nat × (Nat → ModP)) :=
  [(0x61a, 1, fun _ => .evRaises), (0x61b, 1, fun _ => .grazeStatus), (0x61c, 1, fun _ => .grazeIdlePct), (0x61d, 1, fun _ => .grazeFast), (0x61e, 1, fun _ => .grazeCycleH), (0x61f, 1, fun _ => .grazeOverdue)]

/-- Runs of indices of group MOD, part 15: first index, length, the scalar at an offset (R319, R331). -/
def ModP.segs15 : List (Nat × Nat × (Nat → ModP)) :=
  [(0x620, 12, .grazeCfg), (0x62c, 12, .grazeCover), (0x638, 1, fun _ => .grazeLastFail), (0x639, 1, fun _ => .grazeRuns)]

/-- The runs of indices of group MOD (R319, R331). -/
def ModP.segs : List (Nat × Nat × (Nat → ModP)) :=
  List.flatten [ModP.segs0, ModP.segs1, ModP.segs2, ModP.segs3, ModP.segs4, ModP.segs5, ModP.segs6, ModP.segs7, ModP.segs8, ModP.segs9, ModP.segs10, ModP.segs11, ModP.segs12, ModP.segs13, ModP.segs14, ModP.segs15]

/-- The scalar of group MOD at an index (R319). -/
def ModP.ofIdx (x : Nat) : Option ModP :=
  ModP.segs.findSome? fun r => if r.1 ≤ x ∧ x < r.1 + r.2.1 then some (r.2.2 (x - r.1)) else none

/-- Class and fixed range of a scalar of group MOD. -/
def ModP.info : ModP → PInfo
  | .orderCode => ⟨.ro, 0, 4294967295, 1⟩
  | .defaultSet => ⟨.ro, 0, 4294967295, 1⟩
  | .mode => ⟨.ro, 0, 4294967295, 1⟩
  | .driveNom => ⟨.rws, 0, 110, 1⟩
  | .driveBudgetW => ⟨.rw, 0, 2200, 1⟩
  | .staggerMaxMs => ⟨.rw, 100, 5000, 1⟩
  | .baseTemp => ⟨.ro, 0, 4294967295, 1⟩
  | .ioProbe => ⟨.rw, 0, 1, 1⟩
  | .logicState => ⟨.ro, 0, 4294967295, 1⟩
  | .logicStatus => ⟨.ro, 0, 4294967295, 1⟩
  | .logicAutostart => ⟨.rw, 0, 2, 1⟩
  | .planId => ⟨.ro, 0, 4294967295, 1⟩
  | .planVersion => ⟨.ro, 0, 4294967295, 1⟩
  | .planCrc => ⟨.ro, 0, 4294967295, 1⟩
  | .stagedCrc => ⟨.ro, 0, 4294967295, 1⟩
  | .flCycleMs => ⟨.rwm, 1, 10, 1⟩
  | .flStatus => ⟨.w1c, 0, 65535, 1⟩
  | .fgVolt _ => ⟨.ro, 0, 4294967295, 1⟩
  | .fgStatus _ => ⟨.w1c, 0, 255, 1⟩
  | .sineCrc _ => ⟨.ro, 0, 4294967295, 1⟩
  | .logicVolt => ⟨.ro, 0, 4294967295, 1⟩
  | .logicNom => ⟨.ro, 0, 4294967295, 1⟩
  | .logicPowerMw => ⟨.ro, 0, 4294967295, 1⟩
  | .supplyStatus => ⟨.w1c, 0, 65535, 1⟩
  | .driveVolt => ⟨.ro, 0, 4294967295, 1⟩
  | .driveCurr => ⟨.ro, 0, 4294967295, 1⟩
  | .drivePowerW => ⟨.ro, 0, 4294967295, 1⟩
  | .driveAvgW => ⟨.ro, 0, 4294967295, 1⟩
  | .regenMj => ⟨.ro, 0, 4294967295, 1⟩
  | .regenEpisodes => ⟨.ro, 0, 4294967295, 1⟩
  | .regenTemp => ⟨.ro, 0, 4294967295, 1⟩
  | .dischargeMs => ⟨.ro, 0, 4294967295, 1⟩
  | .holdupMj => ⟨.ro, 0, 4294967295, 1⟩
  | .pfWarnings => ⟨.ro, 0, 4294967295, 1⟩
  | .bridged => ⟨.ro, 0, 4294967295, 1⟩
  | .longestBridgeMs => ⟨.ro, 0, 4294967295, 1⟩
  | .fgCurr _ => ⟨.ro, 0, 4294967295, 1⟩
  | .encSupply _ => ⟨.rwm, 0, 2, 1⟩
  | .encSupplyStatus => ⟨.ro, 0, 4294967295, 1⟩
  | .powerMode => ⟨.rw, 0, 2, 1⟩
  | .wakeSrc => ⟨.ro, 0, 4294967295, 1⟩
  | .tempStatus => ⟨.w1c, 0, 255, 1⟩
  | .logicTemp => ⟨.ro, 0, 4294967295, 1⟩
  | .baseTempPeak => ⟨.ro, 0, 4294967295, 1⟩
  | .deratePct => ⟨.ro, 0, 4294967295, 1⟩
  | .baseTempWarn => ⟨.rw, 600, 1300, 1⟩
  | .dissipationW => ⟨.ro, 0, 4294967295, 1⟩
  | .base105H => ⟨.ro, 0, 4294967295, 1⟩
  | .base125H => ⟨.ro, 0, 4294967295, 1⟩
  | .energyDriveWh => ⟨.ro, 0, 4294967295, 1⟩
  | .energyLogicWh => ⟨.ro, 0, 4294967295, 1⟩
  | .busCapUf => ⟨.ro, 0, 4294967295, 1⟩
  | .soSupply _ => ⟨.ro, 0, 4294967295, 1⟩
  | .cfStatus => ⟨.ro, 0, 4294967295, 1⟩
  | .fgCurrLimit _ => ⟨.rwm, 500, 6000, 1⟩
  | .insulKohm => ⟨.ro, 0, 4294967295, 1⟩
  | .insulLimitKohm => ⟨.rwm, 10, 10000, 1⟩
  | .hwRevision => ⟨.ro, 0, 4294967295, 1⟩
  | .resetCause => ⟨.ro, 0, 4294967295, 1⟩
  | .startKind => ⟨.ro, 0, 4294967295, 1⟩
  | .startInfo => ⟨.ro, 0, 4294967295, 1⟩
  | .coldReq => ⟨.rwm, 0, 1, 1⟩
  | .restart => ⟨.rwm, 0, 1, 1⟩
  | .startHome => ⟨.rw, 0, 255, 1⟩
  | .powerCycles => ⟨.ro, 0, 4294967295, 1⟩
  | .opTimeLo => ⟨.ro, 0, 4294967295, 1⟩
  | .opTimeHi => ⟨.ro, 0, 4294967295, 1⟩
  | .startStep => ⟨.ro, 0, 4294967295, 1⟩
  | .startTimeMs => ⟨.ro, 0, 4294967295, 1⟩
  | .activeBank => ⟨.ro, 0, 4294967295, 1⟩
  | .bankState _ => ⟨.ro, 0, 4294967295, 1⟩
  | .fwVersion _ => ⟨.ro, 0, 4294967295, 1⟩
  | .secVersion _ => ⟨.ro, 0, 4294967295, 1⟩
  | .bootTries => ⟨.ro, 0, 4294967295, 1⟩
  | .fallbacks => ⟨.ro, 0, 4294967295, 1⟩
  | .prechargeMs => ⟨.ro, 0, 4294967295, 1⟩
  | .prechargeTimeoutMs => ⟨.rw, 100, 5000, 1⟩
  | .storeCheckMs => ⟨.ro, 0, 4294967295, 1⟩
  | .laneRestarts => ⟨.ro, 0, 4294967295, 1⟩
  | .evRaiseSeq => ⟨.ro, 0, 4294967295, 1⟩
  | .evPending _ => ⟨.ro, 0, 4294967295, 1⟩
  | .evSticky _ => ⟨.ro, 0, 4294967295, 1⟩
  | .evInjVec _ => ⟨.ro, 0, 4294967295, 1⟩
  | .evInjections => ⟨.ro, 0, 4294967295, 1⟩
  | .evRaises => ⟨.ro, 0, 4294967295, 1⟩
  | .grazeStatus => ⟨.w1c, 0, 65535, 1⟩
  | .grazeIdlePct => ⟨.ro, 0, 4294967295, 1⟩
  | .grazeFast => ⟨.rw, 0, 1, 1⟩
  | .grazeCycleH => ⟨.ro, 0, 4294967295, 1⟩
  | .grazeOverdue => ⟨.ro, 0, 4294967295, 1⟩
  | .grazeCfg _ => ⟨.rwm, 0, 65535, 1⟩
  | .grazeCover _ => ⟨.ro, 0, 4294967295, 1⟩
  | .grazeLastFail => ⟨.ro, 0, 4294967295, 1⟩
  | .grazeRuns => ⟨.ro, 0, 4294967295, 1⟩

/-- Default of a writable scalar of group MOD in default set `set`, instance `s`. -/
def ModP.dflt (_set _s : Nat) : ModP → Int
  | .driveNom => 0
  | .driveBudgetW => 0
  | .staggerMaxMs => 1500
  | .ioProbe => 1
  | .logicAutostart => 1
  | .flCycleMs => 2
  | .encSupply _ => 1
  | .powerMode => 0
  | .baseTempWarn => 1150
  | .fgCurrLimit i => (if i=8 then 4000 else 6000)
  | .insulLimitKohm => 250
  | .coldReq => 0
  | .restart => 0
  | .startHome => 0
  | .prechargeTimeoutMs => 500
  | .grazeFast => 0
  | .grazeCfg _ => 0x8018
  | _ => 0

/-- Writable scalars of group MOD, part 0. -/
def ModP.writable0 : List ModP :=
  [.driveNom, .driveBudgetW, .staggerMaxMs, .ioProbe, .logicAutostart, .flCycleMs]

/-- Writable scalars of group MOD, part 1. -/
def ModP.writable1 : List ModP :=
  (List.range 8).map .encSupply

/-- Writable scalars of group MOD, part 2. -/
def ModP.writable2 : List ModP :=
  [.powerMode, .baseTempWarn]

/-- Writable scalars of group MOD, part 3. -/
def ModP.writable3 : List ModP :=
  (List.range 9).map .fgCurrLimit

/-- Writable scalars of group MOD, part 4. -/
def ModP.writable4 : List ModP :=
  [.insulLimitKohm, .coldReq, .restart, .startHome, .prechargeTimeoutMs, .grazeFast]

/-- Writable scalars of group MOD, part 5. -/
def ModP.writable5 : List ModP :=
  (List.range 12).map .grazeCfg

/-- The writable scalars of group MOD in index order. -/
def ModP.writable : List ModP :=
  List.flatten [ModP.writable0, ModP.writable1, ModP.writable2, ModP.writable3, ModP.writable4, ModP.writable5]

/-- Index of a scalar of group AX (R331). -/
def AxP.idx : AxP → Nat
  | .umPerUstep => 0x0
  | .travel => 0x1
  | .vmax => 0x2
  | .amax => 0x3
  | .jmax => 0x4
  | .softMin => 0x5
  | .softMax => 0x6
  | .vOpen => 0x100
  | .accOpen => 0x101
  | .jerkOpen => 0x102
  | .accClose => 0x103
  | .jerkClose => 0x104
  | .decelQuick => 0x105
  | .jerkQuick => 0x106
  | .decelObst => 0x107
  | .jerkObst => 0x108
  | .vJog => 0x109
  | .kf => 0x10a
  | .vForce0 => 0x10b
  | .fUsablePct => 0x10c
  | .mMin => 0x10d
  | .mMax => 0x10e
  | .mStepPct => 0x10f
  | .idResidMax => 0x110
  | .pAccW => 0x111
  | .pRunW => 0x112
  | .pHoldW => 0x113
  | .mass => 0x114
  | .massRaw => 0x115
  | .massValid => 0x116
  | .idStatus => 0x117
  | .queued => 0x118
  | .queueStatus => 0x119
  | .lcFired => 0x11a
  | .sineSel => 0x200
  | .motorInv => 0x201
  | .iLevel i => 0x202 + i
  | .iHold => 0x206
  | .holdDelayMs => 0x207
  | .holdRampMs => 0x208
  | .toff => 0x209
  | .tblank => 0x20a
  | .decay => 0x20b
  | .fastRisePct => 0x20c
  | .fastFallPct => 0x20d
  | .enableRampMs => 0x20e
  | .parkRampMs => 0x20f
  | .parkTol => 0x210
  | .realign => 0x211
  | .ke => 0x212
  | .bemfMinSps => 0x213
  | .driveState => 0x214
  | .iApplied => 0x215
  | .phase => 0x216
  | .phaseOfs => 0x217
  | .phaseValid => 0x218
  | .commOffset => 0x219
  | .commValid => 0x21a
  | .loadAngle => 0x21b
  | .laValid => 0x21c
  | .stageTemp => 0x21d
  | .stageFault => 0x21e
  | .enableStatus => 0x21f
  | .encMode => 0x300
  | .encInv => 0x301
  | .umPerCount => 0x302
  | .encFiltNs => 0x303
  | .indexUse => 0x304
  | .hyst => 0x305
  | .obsBwHz => 0x306
  | .indexPolicy => 0x307
  | .indexPeriod => 0x308
  | .indexTol => 0x309
  | .indexCorrMax => 0x30a
  | .pos => 0x30b
  | .speed => 0x30c
  | .accel => 0x30d
  | .posOfs => 0x30e
  | .overflow => 0x30f
  | .indexPos => 0x310
  | .indexErr => 0x311
  | .fbStatus => 0x312
  | .latchCfg i => 0x313 + i
  | .homeType => 0x380
  | .homeDir => 0x381
  | .homePin => 0x382
  | .homeVSearch => 0x383
  | .homeVCreep => 0x384
  | .homeAcc => 0x385
  | .homeI => 0x386
  | .homePos => 0x387
  | .homeEndPos => 0x388
  | .homeClear => 0x389
  | .homeStopDev => 0x38a
  | .homeLaStop => 0x38b
  | .homeSettleMs => 0x38c
  | .homeMaxDist => 0x38d
  | .homeRetryDist => 0x38e
  | .homeStatus => 0x38f
  | .force => 0x400
  | .forceF => 0x401
  | .lag0 => 0x402
  | .envTicks => 0x403
  | .envMargin => 0x404
  | .envK => 0x405
  | .envRate => 0x406
  | .envDriftMax => 0x407
  | .envTeachLimit => 0x408
  | .devWin => 0x409
  | .devTicks => 0x40a
  | .laStall => 0x40b
  | .ltMoves => 0x500
  | .ltDistM => 0x501
  | .ltEnergisedH => 0x502
  | .ltSto => 0x503
  | .ltStageFaults => 0x504
  | .ltHomings => 0x505

/-- Runs of indices of group AX, part 0: first index, length, the scalar at an offset (R319, R331). -/
def AxP.segs0 : List (Nat × Nat × (Nat → AxP)) :=
  [(0x0, 1, fun _ => .umPerUstep), (0x1, 1, fun _ => .travel), (0x2, 1, fun _ => .vmax), (0x3, 1, fun _ => .amax), (0x4, 1, fun _ => .jmax), (0x5, 1, fun _ => .softMin)]

/-- Runs of indices of group AX, part 1: first index, length, the scalar at an offset (R319, R331). -/
def AxP.segs1 : List (Nat × Nat × (Nat → AxP)) :=
  [(0x6, 1, fun _ => .softMax), (0x100, 1, fun _ => .vOpen), (0x101, 1, fun _ => .accOpen), (0x102, 1, fun _ => .jerkOpen), (0x103, 1, fun _ => .accClose), (0x104, 1, fun _ => .jerkClose)]

/-- Runs of indices of group AX, part 2: first index, length, the scalar at an offset (R319, R331). -/
def AxP.segs2 : List (Nat × Nat × (Nat → AxP)) :=
  [(0x105, 1, fun _ => .decelQuick), (0x106, 1, fun _ => .jerkQuick), (0x107, 1, fun _ => .decelObst), (0x108, 1, fun _ => .jerkObst), (0x109, 1, fun _ => .vJog), (0x10a, 1, fun _ => .kf)]

/-- Runs of indices of group AX, part 3: first index, length, the scalar at an offset (R319, R331). -/
def AxP.segs3 : List (Nat × Nat × (Nat → AxP)) :=
  [(0x10b, 1, fun _ => .vForce0), (0x10c, 1, fun _ => .fUsablePct), (0x10d, 1, fun _ => .mMin), (0x10e, 1, fun _ => .mMax), (0x10f, 1, fun _ => .mStepPct), (0x110, 1, fun _ => .idResidMax)]

/-- Runs of indices of group AX, part 4: first index, length, the scalar at an offset (R319, R331). -/
def AxP.segs4 : List (Nat × Nat × (Nat → AxP)) :=
  [(0x111, 1, fun _ => .pAccW), (0x112, 1, fun _ => .pRunW), (0x113, 1, fun _ => .pHoldW), (0x114, 1, fun _ => .mass), (0x115, 1, fun _ => .massRaw), (0x116, 1, fun _ => .massValid)]

/-- Runs of indices of group AX, part 5: first index, length, the scalar at an offset (R319, R331). -/
def AxP.segs5 : List (Nat × Nat × (Nat → AxP)) :=
  [(0x117, 1, fun _ => .idStatus), (0x118, 1, fun _ => .queued), (0x119, 1, fun _ => .queueStatus), (0x11a, 1, fun _ => .lcFired), (0x200, 1, fun _ => .sineSel), (0x201, 1, fun _ => .motorInv)]

/-- Runs of indices of group AX, part 6: first index, length, the scalar at an offset (R319, R331). -/
def AxP.segs6 : List (Nat × Nat × (Nat → AxP)) :=
  [(0x202, 4, .iLevel), (0x206, 1, fun _ => .iHold), (0x207, 1, fun _ => .holdDelayMs), (0x208, 1, fun _ => .holdRampMs), (0x209, 1, fun _ => .toff), (0x20a, 1, fun _ => .tblank)]

/-- Runs of indices of group AX, part 7: first index, length, the scalar at an offset (R319, R331). -/
def AxP.segs7 : List (Nat × Nat × (Nat → AxP)) :=
  [(0x20b, 1, fun _ => .decay), (0x20c, 1, fun _ => .fastRisePct), (0x20d, 1, fun _ => .fastFallPct), (0x20e, 1, fun _ => .enableRampMs), (0x20f, 1, fun _ => .parkRampMs), (0x210, 1, fun _ => .parkTol)]

/-- Runs of indices of group AX, part 8: first index, length, the scalar at an offset (R319, R331). -/
def AxP.segs8 : List (Nat × Nat × (Nat → AxP)) :=
  [(0x211, 1, fun _ => .realign), (0x212, 1, fun _ => .ke), (0x213, 1, fun _ => .bemfMinSps), (0x214, 1, fun _ => .driveState), (0x215, 1, fun _ => .iApplied), (0x216, 1, fun _ => .phase)]

/-- Runs of indices of group AX, part 9: first index, length, the scalar at an offset (R319, R331). -/
def AxP.segs9 : List (Nat × Nat × (Nat → AxP)) :=
  [(0x217, 1, fun _ => .phaseOfs), (0x218, 1, fun _ => .phaseValid), (0x219, 1, fun _ => .commOffset), (0x21a, 1, fun _ => .commValid), (0x21b, 1, fun _ => .loadAngle), (0x21c, 1, fun _ => .laValid)]

/-- Runs of indices of group AX, part 10: first index, length, the scalar at an offset (R319, R331). -/
def AxP.segs10 : List (Nat × Nat × (Nat → AxP)) :=
  [(0x21d, 1, fun _ => .stageTemp), (0x21e, 1, fun _ => .stageFault), (0x21f, 1, fun _ => .enableStatus), (0x300, 1, fun _ => .encMode), (0x301, 1, fun _ => .encInv), (0x302, 1, fun _ => .umPerCount)]

/-- Runs of indices of group AX, part 11: first index, length, the scalar at an offset (R319, R331). -/
def AxP.segs11 : List (Nat × Nat × (Nat → AxP)) :=
  [(0x303, 1, fun _ => .encFiltNs), (0x304, 1, fun _ => .indexUse), (0x305, 1, fun _ => .hyst), (0x306, 1, fun _ => .obsBwHz), (0x307, 1, fun _ => .indexPolicy), (0x308, 1, fun _ => .indexPeriod)]

/-- Runs of indices of group AX, part 12: first index, length, the scalar at an offset (R319, R331). -/
def AxP.segs12 : List (Nat × Nat × (Nat → AxP)) :=
  [(0x309, 1, fun _ => .indexTol), (0x30a, 1, fun _ => .indexCorrMax), (0x30b, 1, fun _ => .pos), (0x30c, 1, fun _ => .speed), (0x30d, 1, fun _ => .accel), (0x30e, 1, fun _ => .posOfs)]

/-- Runs of indices of group AX, part 13: first index, length, the scalar at an offset (R319, R331). -/
def AxP.segs13 : List (Nat × Nat × (Nat → AxP)) :=
  [(0x30f, 1, fun _ => .overflow), (0x310, 1, fun _ => .indexPos), (0x311, 1, fun _ => .indexErr), (0x312, 1, fun _ => .fbStatus), (0x313, 2, .latchCfg), (0x380, 1, fun _ => .homeType)]

/-- Runs of indices of group AX, part 14: first index, length, the scalar at an offset (R319, R331). -/
def AxP.segs14 : List (Nat × Nat × (Nat → AxP)) :=
  [(0x381, 1, fun _ => .homeDir), (0x382, 1, fun _ => .homePin), (0x383, 1, fun _ => .homeVSearch), (0x384, 1, fun _ => .homeVCreep), (0x385, 1, fun _ => .homeAcc), (0x386, 1, fun _ => .homeI)]

/-- Runs of indices of group AX, part 15: first index, length, the scalar at an offset (R319, R331). -/
def AxP.segs15 : List (Nat × Nat × (Nat → AxP)) :=
  [(0x387, 1, fun _ => .homePos), (0x388, 1, fun _ => .homeEndPos), (0x389, 1, fun _ => .homeClear), (0x38a, 1, fun _ => .homeStopDev), (0x38b, 1, fun _ => .homeLaStop), (0x38c, 1, fun _ => .homeSettleMs)]

/-- Runs of indices of group AX, part 16: first index, length, the scalar at an offset (R319, R331). -/
def AxP.segs16 : List (Nat × Nat × (Nat → AxP)) :=
  [(0x38d, 1, fun _ => .homeMaxDist), (0x38e, 1, fun _ => .homeRetryDist), (0x38f, 1, fun _ => .homeStatus), (0x400, 1, fun _ => .force), (0x401, 1, fun _ => .forceF), (0x402, 1, fun _ => .lag0)]

/-- Runs of indices of group AX, part 17: first index, length, the scalar at an offset (R319, R331). -/
def AxP.segs17 : List (Nat × Nat × (Nat → AxP)) :=
  [(0x403, 1, fun _ => .envTicks), (0x404, 1, fun _ => .envMargin), (0x405, 1, fun _ => .envK), (0x406, 1, fun _ => .envRate), (0x407, 1, fun _ => .envDriftMax), (0x408, 1, fun _ => .envTeachLimit)]

/-- Runs of indices of group AX, part 18: first index, length, the scalar at an offset (R319, R331). -/
def AxP.segs18 : List (Nat × Nat × (Nat → AxP)) :=
  [(0x409, 1, fun _ => .devWin), (0x40a, 1, fun _ => .devTicks), (0x40b, 1, fun _ => .laStall), (0x500, 1, fun _ => .ltMoves), (0x501, 1, fun _ => .ltDistM), (0x502, 1, fun _ => .ltEnergisedH)]

/-- Runs of indices of group AX, part 19: first index, length, the scalar at an offset (R319, R331). -/
def AxP.segs19 : List (Nat × Nat × (Nat → AxP)) :=
  [(0x503, 1, fun _ => .ltSto), (0x504, 1, fun _ => .ltStageFaults), (0x505, 1, fun _ => .ltHomings)]

/-- The runs of indices of group AX (R319, R331). -/
def AxP.segs : List (Nat × Nat × (Nat → AxP)) :=
  List.flatten [AxP.segs0, AxP.segs1, AxP.segs2, AxP.segs3, AxP.segs4, AxP.segs5, AxP.segs6, AxP.segs7, AxP.segs8, AxP.segs9, AxP.segs10, AxP.segs11, AxP.segs12, AxP.segs13, AxP.segs14, AxP.segs15, AxP.segs16, AxP.segs17, AxP.segs18, AxP.segs19]

/-- The scalar of group AX at an index (R319). -/
def AxP.ofIdx (x : Nat) : Option AxP :=
  AxP.segs.findSome? fun r => if r.1 ≤ x ∧ x < r.1 + r.2.1 then some (r.2.2 (x - r.1)) else none

/-- Class and fixed range of a scalar of group AX. -/
def AxP.info : AxP → PInfo
  | .umPerUstep => ⟨.rws, 1, 4294967295, 1⟩
  | .travel => ⟨.rws, 10000, 2000000, 1⟩
  | .vmax => ⟨.rws, 1000, 2147483647, 1⟩
  | .amax => ⟨.rws, 10000, 50000000, 1⟩
  | .jmax => ⟨.rws, 100000, 2000000000, 1⟩
  | .softMin => ⟨.rws, -2147483647, 2147483647, 1⟩
  | .softMax => ⟨.rws, -2147483647, 2147483647, 1⟩
  | .vOpen => ⟨.rwr, 1000, 2147483647, 1⟩
  | .accOpen => ⟨.rwr, 10000, 50000000, 1⟩
  | .jerkOpen => ⟨.rwr, 100000, 2000000000, 1⟩
  | .accClose => ⟨.rwr, 10000, 50000000, 1⟩
  | .jerkClose => ⟨.rwr, 100000, 2000000000, 1⟩
  | .decelQuick => ⟨.rwr, 10000, 50000000, 1⟩
  | .jerkQuick => ⟨.rwr, 100000, 2000000000, 1⟩
  | .decelObst => ⟨.rwr, 10000, 50000000, 1⟩
  | .jerkObst => ⟨.rwr, 100000, 2000000000, 1⟩
  | .vJog => ⟨.rwr, 1000, 200000, 1⟩
  | .kf => ⟨.rws, 1, 10000, 1⟩
  | .vForce0 => ⟨.rws, 100000, 10000000, 1⟩
  | .fUsablePct => ⟨.rws, 30, 90, 1⟩
  | .mMin => ⟨.rws, 0, 65535, 1⟩
  | .mMax => ⟨.rws, 0, 65535, 1⟩
  | .mStepPct => ⟨.rwr, 2, 50, 1⟩
  | .idResidMax => ⟨.rwr, 5, 1000, 1⟩
  | .pAccW => ⟨.rw, 0, 2200, 1⟩
  | .pRunW => ⟨.rw, 0, 2200, 1⟩
  | .pHoldW => ⟨.rw, 0, 2200, 1⟩
  | .mass => ⟨.ro, 0, 4294967295, 1⟩
  | .massRaw => ⟨.ro, 0, 4294967295, 1⟩
  | .massValid => ⟨.ro, 0, 4294967295, 1⟩
  | .idStatus => ⟨.ro, 0, 4294967295, 1⟩
  | .queued => ⟨.ro, 0, 4294967295, 1⟩
  | .queueStatus => ⟨.ro, 0, 4294967295, 1⟩
  | .lcFired => ⟨.ro, 0, 4294967295, 1⟩
  | .sineSel => ⟨.rwr, 0, 3, 1⟩
  | .motorInv => ⟨.rws, 0, 1, 1⟩
  | .iLevel _ => ⟨.rwr, 0, 8000, 1⟩
  | .iHold => ⟨.rwr, 0, 8000, 1⟩
  | .holdDelayMs => ⟨.rwr, 0, 10000, 1⟩
  | .holdRampMs => ⟨.rwr, 0, 1000, 1⟩
  | .toff => ⟨.rwr, 1, 80, 1⟩
  | .tblank => ⟨.rwr, 1, 8, 1⟩
  | .decay => ⟨.rwr, 0, 2, 1⟩
  | .fastRisePct => ⟨.rwr, 0, 100, 1⟩
  | .fastFallPct => ⟨.rwr, 0, 100, 1⟩
  | .enableRampMs => ⟨.rwr, 1, 500, 1⟩
  | .parkRampMs => ⟨.rwr, 1, 500, 1⟩
  | .parkTol => ⟨.rwr, 0, 16, 1⟩
  | .realign => ⟨.rws, 0, 1, 1⟩
  | .ke => ⟨.rwr, 100, 100000, 1⟩
  | .bemfMinSps => ⟨.rwr, 20, 1000, 1⟩
  | .driveState => ⟨.ro, 0, 4294967295, 1⟩
  | .iApplied => ⟨.ro, 0, 4294967295, 1⟩
  | .phase => ⟨.ro, 0, 4294967295, 1⟩
  | .phaseOfs => ⟨.ro, 0, 4294967295, 1⟩
  | .phaseValid => ⟨.ro, 0, 4294967295, 1⟩
  | .commOffset => ⟨.ro, 0, 4294967295, 1⟩
  | .commValid => ⟨.ro, 0, 4294967295, 1⟩
  | .loadAngle => ⟨.ro, 0, 4294967295, 1⟩
  | .laValid => ⟨.ro, 0, 4294967295, 1⟩
  | .stageTemp => ⟨.ro, 0, 4294967295, 1⟩
  | .stageFault => ⟨.w1c, 0, 65535, 1⟩
  | .enableStatus => ⟨.ro, 0, 4294967295, 1⟩
  | .encMode => ⟨.rws, 0, 3, 1⟩
  | .encInv => ⟨.rws, 0, 1, 1⟩
  | .umPerCount => ⟨.rws, 1, 4294967295, 1⟩
  | .encFiltNs => ⟨.rwr, 0, 80, 1⟩
  | .indexUse => ⟨.rws, 0, 1, 1⟩
  | .hyst => ⟨.rwr, 0, 1, 1⟩
  | .obsBwHz => ⟨.rwr, 10, 800, 1⟩
  | .indexPolicy => ⟨.rwr, 0, 2, 1⟩
  | .indexPeriod => ⟨.rws, 0, 1000000, 1⟩
  | .indexTol => ⟨.rwr, 1, 64, 1⟩
  | .indexCorrMax => ⟨.rwr, 1, 256, 1⟩
  | .pos => ⟨.ro, 0, 4294967295, 1⟩
  | .speed => ⟨.ro, 0, 4294967295, 1⟩
  | .accel => ⟨.ro, 0, 4294967295, 1⟩
  | .posOfs => ⟨.ro, 0, 4294967295, 1⟩
  | .overflow => ⟨.ro, 0, 4294967295, 1⟩
  | .indexPos => ⟨.ro, 0, 4294967295, 1⟩
  | .indexErr => ⟨.ro, 0, 4294967295, 1⟩
  | .fbStatus => ⟨.w1c, 0, 65535, 1⟩
  | .latchCfg _ => ⟨.rw, 0, 65535, 1⟩
  | .homeType => ⟨.rws, 0, 5, 1⟩
  | .homeDir => ⟨.rwr, 0, 1, 1⟩
  | .homePin => ⟨.rwr, 0, 111, 1⟩
  | .homeVSearch => ⟨.rwr, 1000, 100000, 1⟩
  | .homeVCreep => ⟨.rwr, 1000, 100000, 1⟩
  | .homeAcc => ⟨.rwr, 10000, 50000000, 1⟩
  | .homeI => ⟨.rwr, 0, 8000, 1⟩
  | .homePos => ⟨.rws, -2147483647, 2147483647, 1⟩
  | .homeEndPos => ⟨.rwr, -2147483647, 2147483647, 1⟩
  | .homeClear => ⟨.rwr, 100, 100000, 1⟩
  | .homeStopDev => ⟨.rwr, 2, 256, 1⟩
  | .homeLaStop => ⟨.rwr, 300, 850, 1⟩
  | .homeSettleMs => ⟨.rwr, 10, 2000, 1⟩
  | .homeMaxDist => ⟨.rwr, 1000, 4000000, 1⟩
  | .homeRetryDist => ⟨.rwr, 1000, 500000, 1⟩
  | .homeStatus => ⟨.ro, 0, 4294967295, 1⟩
  | .force => ⟨.ro, 0, 4294967295, 1⟩
  | .forceF => ⟨.ro, 0, 4294967295, 1⟩
  | .lag0 => ⟨.ro, 0, 4294967295, 1⟩
  | .envTicks => ⟨.rwr, 1, 250, 1⟩
  | .envMargin => ⟨.rws, 100, 2000, 1⟩
  | .envK => ⟨.rws, 10, 100, 1⟩
  | .envRate => ⟨.rws, 1, 100, 1⟩
  | .envDriftMax => ⟨.rws, 0, 1000, 1⟩
  | .envTeachLimit => ⟨.rws, 200, 3000, 1⟩
  | .devWin => ⟨.rwr, 50, 5000, 1⟩
  | .devTicks => ⟨.rwr, 1, 250, 1⟩
  | .laStall => ⟨.rwr, 300, 900, 1⟩
  | .ltMoves => ⟨.ro, 0, 4294967295, 1⟩
  | .ltDistM => ⟨.ro, 0, 4294967295, 1⟩
  | .ltEnergisedH => ⟨.ro, 0, 4294967295, 1⟩
  | .ltSto => ⟨.ro, 0, 4294967295, 1⟩
  | .ltStageFaults => ⟨.ro, 0, 4294967295, 1⟩
  | .ltHomings => ⟨.ro, 0, 4294967295, 1⟩

/-- Default of a writable scalar of group AX in default set `set`, instance `s`. -/
def AxP.dflt (_set s : Nat) : AxP → Int
  | .umPerUstep => 0x1F400
  | .travel => 650000
  | .vmax => 1000000
  | .amax => 5000000
  | .jmax => 200000000
  | .softMin => -20000
  | .softMax => 2000000
  | .vOpen => 500000
  | .accOpen => 1000000
  | .jerkOpen => 10000000
  | .accClose => 800000
  | .jerkClose => 8000000
  | .decelQuick => 2000000
  | .jerkQuick => 40000000
  | .decelObst => 2500000
  | .jerkObst => 100000000
  | .vJog => 50000
  | .kf => 500
  | .vForce0 => 2500000
  | .fUsablePct => 70
  | .mMin => 100
  | .mMax => 800
  | .mStepPct => 10
  | .idResidMax => 50
  | .pAccW => 90
  | .pRunW => 36
  | .pHoldW => 6
  | .sineSel => 0
  | .motorInv => 0
  | .iLevel i => (if i=0 then 4000 else (if i=1 then 3000 else (if i=2 then 4000 else 2000)))
  | .iHold => 1000
  | .holdDelayMs => 200
  | .holdRampMs => 100
  | .toff => 20
  | .tblank => 4
  | .decay => 2
  | .fastRisePct => 10
  | .fastFallPct => 40
  | .enableRampMs => 20
  | .parkRampMs => 50
  | .parkTol => 2
  | .realign => 1
  | .ke => 5000
  | .bemfMinSps => 50
  | .encMode => 0
  | .encInv => 0
  | .umPerCount => 0x190000
  | .encFiltNs => 20
  | .indexUse => 1
  | .hyst => 1
  | .obsBwHz => 200
  | .indexPolicy => 1
  | .indexPeriod => 4000
  | .indexTol => 2
  | .indexCorrMax => 8
  | .latchCfg _ => 0
  | .homeType => 1
  | .homeDir => 0
  | .homePin => (12*(s/3)+6)
  | .homeVSearch => 50000
  | .homeVCreep => 5000
  | .homeAcc => 200000
  | .homeI => 1500
  | .homePos => 0
  | .homeEndPos => 2000
  | .homeClear => 5000
  | .homeStopDev => 8
  | .homeLaStop => 600
  | .homeSettleMs => 100
  | .homeMaxDist => 1000000
  | .homeRetryDist => 50000
  | .envTicks => 10
  | .envMargin => 250
  | .envK => 40
  | .envRate => 20
  | .envDriftMax => 200
  | .envTeachLimit => 800
  | .devWin => 400
  | .devTicks => 10
  | .laStall => 750
  | _ => 0

/-- Writable scalars of group AX, part 0. -/
def AxP.writable0 : List AxP :=
  [.umPerUstep, .travel, .vmax, .amax, .jmax, .softMin, .softMax, .vOpen, .accOpen, .jerkOpen, .accClose, .jerkClose]

/-- Writable scalars of group AX, part 1. -/
def AxP.writable1 : List AxP :=
  [.decelQuick, .jerkQuick, .decelObst, .jerkObst, .vJog, .kf, .vForce0, .fUsablePct, .mMin, .mMax, .mStepPct, .idResidMax]

/-- Writable scalars of group AX, part 2. -/
def AxP.writable2 : List AxP :=
  [.pAccW, .pRunW, .pHoldW, .sineSel, .motorInv]

/-- Writable scalars of group AX, part 3. -/
def AxP.writable3 : List AxP :=
  (List.range 4).map .iLevel

/-- Writable scalars of group AX, part 4. -/
def AxP.writable4 : List AxP :=
  [.iHold, .holdDelayMs, .holdRampMs, .toff, .tblank, .decay, .fastRisePct, .fastFallPct, .enableRampMs, .parkRampMs, .parkTol, .realign]

/-- Writable scalars of group AX, part 5. -/
def AxP.writable5 : List AxP :=
  [.ke, .bemfMinSps, .encMode, .encInv, .umPerCount, .encFiltNs, .indexUse, .hyst, .obsBwHz, .indexPolicy, .indexPeriod, .indexTol]

/-- Writable scalars of group AX, part 6. -/
def AxP.writable6 : List AxP :=
  [.indexCorrMax]

/-- Writable scalars of group AX, part 7. -/
def AxP.writable7 : List AxP :=
  (List.range 2).map .latchCfg

/-- Writable scalars of group AX, part 8. -/
def AxP.writable8 : List AxP :=
  [.homeType, .homeDir, .homePin, .homeVSearch, .homeVCreep, .homeAcc, .homeI, .homePos, .homeEndPos, .homeClear, .homeStopDev, .homeLaStop]

/-- Writable scalars of group AX, part 9. -/
def AxP.writable9 : List AxP :=
  [.homeSettleMs, .homeMaxDist, .homeRetryDist, .envTicks, .envMargin, .envK, .envRate, .envDriftMax, .envTeachLimit, .devWin, .devTicks, .laStall]

/-- The writable scalars of group AX in index order. -/
def AxP.writable : List AxP :=
  List.flatten [AxP.writable0, AxP.writable1, AxP.writable2, AxP.writable3, AxP.writable4, AxP.writable5, AxP.writable6, AxP.writable7, AxP.writable8, AxP.writable9]

/-- Index of a scalar of group DW (R331). -/
def DwP.idx : DwP → Nat
  | .state => 0x0
  | .leafState => 0x1
  | .stepState => 0x2
  | .type => 0x3
  | .side => 0x4
  | .stepMode => 0x5
  | .stepSafePos => 0x6
  | .autoOpen => 0x7
  | .reopenOnReq => 0x8
  | .dwellMs => 0x100
  | .warnMs => 0x101
  | .dwellOverrunS => 0x102
  | .unlockPin => 0x103
  | .lockPin => 0x104
  | .warnPin => 0x105
  | .lockPulseMs => 0x106
  | .unlockTimeMs => 0x107
  | .lockTimeMs => 0x108
  | .lockRetries => 0x109
  | .obstRetries => 0x10a
  | .reopenDist => 0x10b
  | .obstPauseMs => 0x10c
  | .sealEntry => 0x10d
  | .closedCheckPos => 0x10e
  | .stepOverlapPos => 0x10f
  | .stepRetractPos => 0x110
  | .parkDelayMs => 0x111
  | .obstCount => 0x112
  | .homeTimeoutS => 0x113
  | .vClose => 0x200
  | .vCloseMin => 0x201
  | .ecap => 0x202
  | .ePlanPct => 0x203
  | .fcap => 0x204
  | .approachPos => 0x205
  | .vApproach => 0x206
  | .massPlan => 0x207
  | .ePlan => 0x208
  | .ePeak => 0x209
  | .ssiAxis => 0x300
  | .ssiBits => 0x301
  | .ssiStatBits => 0x302
  | .ssiCode => 0x303
  | .ssiClockKhz => 0x304
  | .ssiDelayNs => 0x305
  | .ssiPauseUs => 0x306
  | .ssiPeriodUs => 0x307
  | .ssiUmPerLsb => 0x308
  | .ssiOffset => 0x309
  | .ssiTol => 0x30a
  | .edgeMode => 0x400
  | .edgePin => 0x401
  | .edgeMutePos => 0x402
  | .curtainMode => 0x403
  | .curtainPin => 0x404
  | .sealF i => 0x405 + i
  | .sealV => 0x409
  | .sealVSettle => 0x40a
  | .sealContactMs => 0x40b
  | .sealStepMs => 0x40c
  | .sealGapTol => 0x40d
  | .sealAbortGap => 0x40e
  | .sealCompTolPct => 0x40f
  | .sealGapMax => 0x410
  | .sealRate => 0x411
  | .sealDriftMax => 0x412
  | .teach => 0x413
  | .teachCycles => 0x414
  | .learnState => 0x415
  | .obstCause => 0x416
  | .obstAxis => 0x417
  | .obstPos => 0x418
  | .obstForce => 0x419
  | .ltCycles => 0x500
  | .ltObstacles => 0x501
  | .ltSealFails => 0x502
  | .ltLockRedrives => 0x503
  | .ltReopens => 0x504
  | .ltEgress => 0x505
  | .ltFaultHolds => 0x506
  | .ltIsolations => 0x507

/-- Runs of indices of group DW, part 0: first index, length, the scalar at an offset (R319, R331). -/
def DwP.segs0 : List (Nat × Nat × (Nat → DwP)) :=
  [(0x0, 1, fun _ => .state), (0x1, 1, fun _ => .leafState), (0x2, 1, fun _ => .stepState), (0x3, 1, fun _ => .type), (0x4, 1, fun _ => .side), (0x5, 1, fun _ => .stepMode)]

/-- Runs of indices of group DW, part 1: first index, length, the scalar at an offset (R319, R331). -/
def DwP.segs1 : List (Nat × Nat × (Nat → DwP)) :=
  [(0x6, 1, fun _ => .stepSafePos), (0x7, 1, fun _ => .autoOpen), (0x8, 1, fun _ => .reopenOnReq), (0x100, 1, fun _ => .dwellMs), (0x101, 1, fun _ => .warnMs), (0x102, 1, fun _ => .dwellOverrunS)]

/-- Runs of indices of group DW, part 2: first index, length, the scalar at an offset (R319, R331). -/
def DwP.segs2 : List (Nat × Nat × (Nat → DwP)) :=
  [(0x103, 1, fun _ => .unlockPin), (0x104, 1, fun _ => .lockPin), (0x105, 1, fun _ => .warnPin), (0x106, 1, fun _ => .lockPulseMs), (0x107, 1, fun _ => .unlockTimeMs), (0x108, 1, fun _ => .lockTimeMs)]

/-- Runs of indices of group DW, part 3: first index, length, the scalar at an offset (R319, R331). -/
def DwP.segs3 : List (Nat × Nat × (Nat → DwP)) :=
  [(0x109, 1, fun _ => .lockRetries), (0x10a, 1, fun _ => .obstRetries), (0x10b, 1, fun _ => .reopenDist), (0x10c, 1, fun _ => .obstPauseMs), (0x10d, 1, fun _ => .sealEntry), (0x10e, 1, fun _ => .closedCheckPos)]

/-- Runs of indices of group DW, part 4: first index, length, the scalar at an offset (R319, R331). -/
def DwP.segs4 : List (Nat × Nat × (Nat → DwP)) :=
  [(0x10f, 1, fun _ => .stepOverlapPos), (0x110, 1, fun _ => .stepRetractPos), (0x111, 1, fun _ => .parkDelayMs), (0x112, 1, fun _ => .obstCount), (0x113, 1, fun _ => .homeTimeoutS), (0x200, 1, fun _ => .vClose)]

/-- Runs of indices of group DW, part 5: first index, length, the scalar at an offset (R319, R331). -/
def DwP.segs5 : List (Nat × Nat × (Nat → DwP)) :=
  [(0x201, 1, fun _ => .vCloseMin), (0x202, 1, fun _ => .ecap), (0x203, 1, fun _ => .ePlanPct), (0x204, 1, fun _ => .fcap), (0x205, 1, fun _ => .approachPos), (0x206, 1, fun _ => .vApproach)]

/-- Runs of indices of group DW, part 6: first index, length, the scalar at an offset (R319, R331). -/
def DwP.segs6 : List (Nat × Nat × (Nat → DwP)) :=
  [(0x207, 1, fun _ => .massPlan), (0x208, 1, fun _ => .ePlan), (0x209, 1, fun _ => .ePeak), (0x300, 1, fun _ => .ssiAxis), (0x301, 1, fun _ => .ssiBits), (0x302, 1, fun _ => .ssiStatBits)]

/-- Runs of indices of group DW, part 7: first index, length, the scalar at an offset (R319, R331). -/
def DwP.segs7 : List (Nat × Nat × (Nat → DwP)) :=
  [(0x303, 1, fun _ => .ssiCode), (0x304, 1, fun _ => .ssiClockKhz), (0x305, 1, fun _ => .ssiDelayNs), (0x306, 1, fun _ => .ssiPauseUs), (0x307, 1, fun _ => .ssiPeriodUs), (0x308, 1, fun _ => .ssiUmPerLsb)]

/-- Runs of indices of group DW, part 8: first index, length, the scalar at an offset (R319, R331). -/
def DwP.segs8 : List (Nat × Nat × (Nat → DwP)) :=
  [(0x309, 1, fun _ => .ssiOffset), (0x30a, 1, fun _ => .ssiTol), (0x400, 1, fun _ => .edgeMode), (0x401, 1, fun _ => .edgePin), (0x402, 1, fun _ => .edgeMutePos), (0x403, 1, fun _ => .curtainMode)]

/-- Runs of indices of group DW, part 9: first index, length, the scalar at an offset (R319, R331). -/
def DwP.segs9 : List (Nat × Nat × (Nat → DwP)) :=
  [(0x404, 1, fun _ => .curtainPin), (0x405, 4, .sealF), (0x409, 1, fun _ => .sealV), (0x40a, 1, fun _ => .sealVSettle), (0x40b, 1, fun _ => .sealContactMs), (0x40c, 1, fun _ => .sealStepMs)]

/-- Runs of indices of group DW, part 10: first index, length, the scalar at an offset (R319, R331). -/
def DwP.segs10 : List (Nat × Nat × (Nat → DwP)) :=
  [(0x40d, 1, fun _ => .sealGapTol), (0x40e, 1, fun _ => .sealAbortGap), (0x40f, 1, fun _ => .sealCompTolPct), (0x410, 1, fun _ => .sealGapMax), (0x411, 1, fun _ => .sealRate), (0x412, 1, fun _ => .sealDriftMax)]

/-- Runs of indices of group DW, part 11: first index, length, the scalar at an offset (R319, R331). -/
def DwP.segs11 : List (Nat × Nat × (Nat → DwP)) :=
  [(0x413, 1, fun _ => .teach), (0x414, 1, fun _ => .teachCycles), (0x415, 1, fun _ => .learnState), (0x416, 1, fun _ => .obstCause), (0x417, 1, fun _ => .obstAxis), (0x418, 1, fun _ => .obstPos)]

/-- Runs of indices of group DW, part 12: first index, length, the scalar at an offset (R319, R331). -/
def DwP.segs12 : List (Nat × Nat × (Nat → DwP)) :=
  [(0x419, 1, fun _ => .obstForce), (0x500, 1, fun _ => .ltCycles), (0x501, 1, fun _ => .ltObstacles), (0x502, 1, fun _ => .ltSealFails), (0x503, 1, fun _ => .ltLockRedrives), (0x504, 1, fun _ => .ltReopens)]

/-- Runs of indices of group DW, part 13: first index, length, the scalar at an offset (R319, R331). -/
def DwP.segs13 : List (Nat × Nat × (Nat → DwP)) :=
  [(0x505, 1, fun _ => .ltEgress), (0x506, 1, fun _ => .ltFaultHolds), (0x507, 1, fun _ => .ltIsolations)]

/-- The runs of indices of group DW (R319, R331). -/
def DwP.segs : List (Nat × Nat × (Nat → DwP)) :=
  List.flatten [DwP.segs0, DwP.segs1, DwP.segs2, DwP.segs3, DwP.segs4, DwP.segs5, DwP.segs6, DwP.segs7, DwP.segs8, DwP.segs9, DwP.segs10, DwP.segs11, DwP.segs12, DwP.segs13]

/-- The scalar of group DW at an index (R319). -/
def DwP.ofIdx (x : Nat) : Option DwP :=
  DwP.segs.findSome? fun r => if r.1 ≤ x ∧ x < r.1 + r.2.1 then some (r.2.2 (x - r.1)) else none

/-- Class and fixed range of a scalar of group DW. R41 says that STEP_OVERLAP_POS lies 'on s2' and STEP_RETRACT_POS 'on s0' and
bounds them by no number: DESIGN CHOICE (log entry 68), any signed 32-bit position. -/
def DwP.info : DwP → PInfo
  | .state => ⟨.ro, 0, 4294967295, 1⟩
  | .leafState => ⟨.ro, 0, 4294967295, 1⟩
  | .stepState => ⟨.ro, 0, 4294967295, 1⟩
  | .type => ⟨.rws, 0, 3, 1⟩
  | .side => ⟨.rws, 0, 1, 1⟩
  | .stepMode => ⟨.rws, 0, 2, 1⟩
  | .stepSafePos => ⟨.rws, 0, 20000, 1⟩
  | .autoOpen => ⟨.rw, 0, 1, 1⟩
  | .reopenOnReq => ⟨.rw, 0, 1, 1⟩
  | .dwellMs => ⟨.rwr, 500, 60000, 1⟩
  | .warnMs => ⟨.rwr, 500, 10000, 1⟩
  | .dwellOverrunS => ⟨.rw, 10, 3600, 1⟩
  | .unlockPin => ⟨.rwr, 0, 111, 1⟩
  | .lockPin => ⟨.rwr, 0, 111, 1⟩
  | .warnPin => ⟨.rwr, 0, 111, 1⟩
  | .lockPulseMs => ⟨.rwr, 20, 1000, 1⟩
  | .unlockTimeMs => ⟨.rwr, 50, 2000, 1⟩
  | .lockTimeMs => ⟨.rwr, 50, 2000, 1⟩
  | .lockRetries => ⟨.rwr, 0, 5, 1⟩
  | .obstRetries => ⟨.rwr, 0, 7, 1⟩
  | .reopenDist => ⟨.rwr, 10000, 2000000, 1⟩
  | .obstPauseMs => ⟨.rwr, 0, 10000, 1⟩
  | .sealEntry => ⟨.rwr, 1000, 30000, 1⟩
  | .closedCheckPos => ⟨.rwr, 5000, 100000, 1⟩
  | .stepOverlapPos => ⟨.rwr, -2147483647, 2147483647, 1⟩
  | .stepRetractPos => ⟨.rwr, -2147483647, 2147483647, 1⟩
  | .parkDelayMs => ⟨.rwr, 0, 10000, 1⟩
  | .obstCount => ⟨.ro, 0, 4294967295, 1⟩
  | .homeTimeoutS => ⟨.rwr, 10, 600, 1⟩
  | .vClose => ⟨.rwr, 10000, 1000000, 1⟩
  | .vCloseMin => ⟨.rwr, 10000, 300000, 1⟩
  | .ecap => ⟨.rws, 500, 20000, 1⟩
  | .ePlanPct => ⟨.rws, 50, 98, 1⟩
  | .fcap => ⟨.rws, 300, 4000, 1⟩
  | .approachPos => ⟨.rws, 2000, 200000, 1⟩
  | .vApproach => ⟨.rws, 20000, 300000, 1⟩
  | .massPlan => ⟨.ro, 0, 4294967295, 1⟩
  | .ePlan => ⟨.ro, 0, 4294967295, 1⟩
  | .ePeak => ⟨.ro, 0, 4294967295, 1⟩
  | .ssiAxis => ⟨.rws, 0, 3, 1⟩
  | .ssiBits => ⟨.rws, 8, 32, 1⟩
  | .ssiStatBits => ⟨.rws, 0, 4, 1⟩
  | .ssiCode => ⟨.rws, 0, 1, 1⟩
  | .ssiClockKhz => ⟨.rws, 100, 2000, 1⟩
  | .ssiDelayNs => ⟨.rwr, 0, 2000, 25⟩
  | .ssiPauseUs => ⟨.rws, 10, 1000, 1⟩
  | .ssiPeriodUs => ⟨.rws, 100, 10000, 1⟩
  | .ssiUmPerLsb => ⟨.rws, 1, 4294967295, 1⟩
  | .ssiOffset => ⟨.rws, -2147483647, 2147483647, 1⟩
  | .ssiTol => ⟨.rwr, 10, 50000, 1⟩
  | .edgeMode => ⟨.rws, 0, 2, 1⟩
  | .edgePin => ⟨.rws, 0, 111, 1⟩
  | .edgeMutePos => ⟨.rws, 0, 50000, 1⟩
  | .curtainMode => ⟨.rws, 0, 2, 1⟩
  | .curtainPin => ⟨.rws, 0, 111, 1⟩
  | .sealF _ => ⟨.rws, 0, 2400, 1⟩
  | .sealV => ⟨.rws, 10000, 200000, 1⟩
  | .sealVSettle => ⟨.rws, 100, 10000, 1⟩
  | .sealContactMs => ⟨.rws, 40, 500, 1⟩
  | .sealStepMs => ⟨.rws, 30, 200, 1⟩
  | .sealGapTol => ⟨.rws, 100, 10000, 1⟩
  | .sealAbortGap => ⟨.rws, 100, 20000, 1⟩
  | .sealCompTolPct => ⟨.rws, 5, 200, 1⟩
  | .sealGapMax => ⟨.rws, -2147483647, 2147483647, 1⟩
  | .sealRate => ⟨.rws, 10, 1000, 1⟩
  | .sealDriftMax => ⟨.rws, 0, 5000, 1⟩
  | .teach => ⟨.sc, 0, 1, 1⟩
  | .teachCycles => ⟨.rwm, 4, 64, 1⟩
  | .learnState => ⟨.w1c, 0, 65535, 1⟩
  | .obstCause => ⟨.ro, 0, 4294967295, 1⟩
  | .obstAxis => ⟨.ro, 0, 4294967295, 1⟩
  | .obstPos => ⟨.ro, 0, 4294967295, 1⟩
  | .obstForce => ⟨.ro, 0, 4294967295, 1⟩
  | .ltCycles => ⟨.ro, 0, 4294967295, 1⟩
  | .ltObstacles => ⟨.ro, 0, 4294967295, 1⟩
  | .ltSealFails => ⟨.ro, 0, 4294967295, 1⟩
  | .ltLockRedrives => ⟨.ro, 0, 4294967295, 1⟩
  | .ltReopens => ⟨.ro, 0, 4294967295, 1⟩
  | .ltEgress => ⟨.ro, 0, 4294967295, 1⟩
  | .ltFaultHolds => ⟨.ro, 0, 4294967295, 1⟩
  | .ltIsolations => ⟨.ro, 0, 4294967295, 1⟩

/-- Default of a writable scalar of group DW in default set `set`, instance `s`. -/
def DwP.dflt (set s : Nat) : DwP → Int
  | .type => 1
  | .side => (if set=1 then (if s<4 then 0 else 1) else 0)
  | .stepMode => 0
  | .stepSafePos => 2000
  | .autoOpen => (if set=1 then 0 else 1)
  | .reopenOnReq => (if set=1 then 1 else 0)
  | .dwellMs => (if set=1 then 4000 else 6000)
  | .warnMs => (if set=1 then 2000 else 3000)
  | .dwellOverrunS => 120
  | .unlockPin => (12*s)
  | .lockPin => (12*s+1)
  | .warnPin => (12*s+5)
  | .lockPulseMs => 150
  | .unlockTimeMs => 300
  | .lockTimeMs => 400
  | .lockRetries => 2
  | .obstRetries => 3
  | .reopenDist => 200000
  | .obstPauseMs => 1500
  | .sealEntry => 8000
  | .closedCheckPos => 30000
  | .stepOverlapPos => 120000
  | .stepRetractPos => 300000
  | .parkDelayMs => 500
  | .homeTimeoutS => 60
  | .vClose => (if set=1 then 400000 else 350000)
  | .vCloseMin => 50000
  | .ecap => 10000
  | .ePlanPct => 95
  | .fcap => 1500
  | .approachPos => 60000
  | .vApproach => 100000
  | .ssiAxis => 3
  | .ssiBits => 25
  | .ssiStatBits => 0
  | .ssiCode => 1
  | .ssiClockKhz => 1000
  | .ssiDelayNs => 0
  | .ssiPauseUs => 30
  | .ssiPeriodUs => 1000
  | .ssiUmPerLsb => 0x10000
  | .ssiOffset => 0
  | .ssiTol => 500
  | .edgeMode => 0
  | .edgePin => (12*s+8)
  | .edgeMutePos => 10000
  | .curtainMode => 0
  | .curtainPin => (12*s+9)
  | .sealF i => (150*(i+1))
  | .sealV => 100000
  | .sealVSettle => 1000
  | .sealContactMs => 80
  | .sealStepMs => 40
  | .sealGapTol => 1200
  | .sealAbortGap => 4000
  | .sealCompTolPct => 25
  | .sealGapMax => 0
  | .sealRate => 100
  | .sealDriftMax => 800
  | .teachCycles => 8
  | _ => 0

/-- Writable scalars of group DW, part 0. -/
def DwP.writable0 : List DwP :=
  [.type, .side, .stepMode, .stepSafePos, .autoOpen, .reopenOnReq, .dwellMs, .warnMs, .dwellOverrunS, .unlockPin, .lockPin, .warnPin]

/-- Writable scalars of group DW, part 1. -/
def DwP.writable1 : List DwP :=
  [.lockPulseMs, .unlockTimeMs, .lockTimeMs, .lockRetries, .obstRetries, .reopenDist, .obstPauseMs, .sealEntry, .closedCheckPos, .stepOverlapPos, .stepRetractPos, .parkDelayMs]

/-- Writable scalars of group DW, part 2. -/
def DwP.writable2 : List DwP :=
  [.homeTimeoutS, .vClose, .vCloseMin, .ecap, .ePlanPct, .fcap, .approachPos, .vApproach, .ssiAxis, .ssiBits, .ssiStatBits, .ssiCode]

/-- Writable scalars of group DW, part 3. -/
def DwP.writable3 : List DwP :=
  [.ssiClockKhz, .ssiDelayNs, .ssiPauseUs, .ssiPeriodUs, .ssiUmPerLsb, .ssiOffset, .ssiTol, .edgeMode, .edgePin, .edgeMutePos, .curtainMode, .curtainPin]

/-- Writable scalars of group DW, part 4. -/
def DwP.writable4 : List DwP :=
  (List.range 4).map .sealF

/-- Writable scalars of group DW, part 5. -/
def DwP.writable5 : List DwP :=
  [.sealV, .sealVSettle, .sealContactMs, .sealStepMs, .sealGapTol, .sealAbortGap, .sealCompTolPct, .sealGapMax, .sealRate, .sealDriftMax, .teachCycles]

/-- The writable scalars of group DW in index order. -/
def DwP.writable : List DwP :=
  List.flatten [DwP.writable0, DwP.writable1, DwP.writable2, DwP.writable3, DwP.writable4, DwP.writable5]

/-- Index of a scalar of group IO (R331). -/
def IoP.idx : IoP → Nat
  | .mode => 0x0
  | .owner => 0x1
  | .filtUs => 0x2
  | .inv => 0x3
  | .safeVal => 0x4
  | .out => 0x5
  | .value => 0x6
  | .status => 0x7

/-- Runs of indices of group IO, part 0: first index, length, the scalar at an offset (R319, R331). -/
def IoP.segs0 : List (Nat × Nat × (Nat → IoP)) :=
  [(0x0, 1, fun _ => .mode), (0x1, 1, fun _ => .owner), (0x2, 1, fun _ => .filtUs), (0x3, 1, fun _ => .inv), (0x4, 1, fun _ => .safeVal), (0x5, 1, fun _ => .out)]

/-- Runs of indices of group IO, part 1: first index, length, the scalar at an offset (R319, R331). -/
def IoP.segs1 : List (Nat × Nat × (Nat → IoP)) :=
  [(0x6, 1, fun _ => .value), (0x7, 1, fun _ => .status)]

/-- The runs of indices of group IO (R319, R331). -/
def IoP.segs : List (Nat × Nat × (Nat → IoP)) :=
  List.flatten [IoP.segs0, IoP.segs1]

/-- The scalar of group IO at an index (R319). -/
def IoP.ofIdx (x : Nat) : Option IoP :=
  IoP.segs.findSome? fun r => if r.1 ≤ x ∧ x < r.1 + r.2.1 then some (r.2.2 (x - r.1)) else none

/-- Class and fixed range of a scalar of group IO. -/
def IoP.info : IoP → PInfo
  | .mode => ⟨.rwm, 0, 4, 1⟩
  | .owner => ⟨.rwm, 0, 3, 1⟩
  | .filtUs => ⟨.rwm, 0, 50000, 1⟩
  | .inv => ⟨.rwm, 0, 1, 1⟩
  | .safeVal => ⟨.rw, 0, 1, 1⟩
  | .out => ⟨.rw, 0, 1, 1⟩
  | .value => ⟨.ro, 0, 4294967295, 1⟩
  | .status => ⟨.w1c, 0, 4294967295, 1⟩

/-- Default of a writable scalar of group IO in default set `set`, instance `s`. -/
def IoP.dflt (_set s : Nat) : IoP → Int
  | .mode => (pinDefault s).1
  | .owner => (pinDefault s).2
  | .filtUs => 3000
  | .inv => 0
  | .safeVal => 0
  | .out => 0
  | _ => 0

/-- Writable scalars of group IO, part 0. -/
def IoP.writable0 : List IoP :=
  [.mode, .owner, .filtUs, .inv, .safeVal, .out]

/-- The writable scalars of group IO in index order. -/
def IoP.writable : List IoP :=
  List.flatten [IoP.writable0]

/-- Index of a scalar of group FS (R331). -/
def FsP.idx : FsP → Nat
  | .enable => 0x0
  | .typeId => 0x1
  | .substMode => 0x2
  | .status => 0x3
  | .missedTotal => 0x4
  | .lostTotal => 0x5
  | .input i => 0x100 + i

/-- Runs of indices of group FS, part 0: first index, length, the scalar at an offset (R319, R331). -/
def FsP.segs0 : List (Nat × Nat × (Nat → FsP)) :=
  [(0x0, 1, fun _ => .enable), (0x1, 1, fun _ => .typeId), (0x2, 1, fun _ => .substMode), (0x3, 1, fun _ => .status), (0x4, 1, fun _ => .missedTotal), (0x5, 1, fun _ => .lostTotal)]

/-- Runs of indices of group FS, part 1: first index, length, the scalar at an offset (R319, R331). -/
def FsP.segs1 : List (Nat × Nat × (Nat → FsP)) :=
  [(0x100, 16, .input)]

/-- The runs of indices of group FS (R319, R331). -/
def FsP.segs : List (Nat × Nat × (Nat → FsP)) :=
  List.flatten [FsP.segs0, FsP.segs1]

/-- The scalar of group FS at an index (R319). -/
def FsP.ofIdx (x : Nat) : Option FsP :=
  FsP.segs.findSome? fun r => if r.1 ≤ x ∧ x < r.1 + r.2.1 then some (r.2.2 (x - r.1)) else none

/-- Class and fixed range of a scalar of group FS. -/
def FsP.info : FsP → PInfo
  | .enable => ⟨.rwm, 0, 1, 1⟩
  | .typeId => ⟨.rwm, 0, 65535, 1⟩
  | .substMode => ⟨.rwm, 0, 1, 1⟩
  | .status => ⟨.w1c, 0, 65535, 1⟩
  | .missedTotal => ⟨.ro, 0, 4294967295, 1⟩
  | .lostTotal => ⟨.ro, 0, 4294967295, 1⟩
  | .input _ => ⟨.ro, 0, 4294967295, 1⟩

/-- Default of a writable scalar of group FS in default set `set`, instance `s`. -/
def FsP.dflt (_set _s : Nat) : FsP → Int
  | .enable => 0
  | .typeId => 0
  | .substMode => 0
  | _ => 0

/-- Writable scalars of group FS, part 0. -/
def FsP.writable0 : List FsP :=
  [.enable, .typeId, .substMode]

/-- The writable scalars of group FS in index order. -/
def FsP.writable : List FsP :=
  List.flatten [FsP.writable0]

/-- Index of a scalar of group EV (R331). -/
def EvP.idx : EvP → Nat
  | .cfg => 0x0
  | .inj => 0x1

/-- Runs of indices of group EV, part 0: first index, length, the scalar at an offset (R319, R331). -/
def EvP.segs0 : List (Nat × Nat × (Nat → EvP)) :=
  [(0x0, 1, fun _ => .cfg), (0x1, 1, fun _ => .inj)]

/-- The runs of indices of group EV (R319, R331). -/
def EvP.segs : List (Nat × Nat × (Nat → EvP)) :=
  List.flatten [EvP.segs0]

/-- The scalar of group EV at an index (R319). -/
def EvP.ofIdx (x : Nat) : Option EvP :=
  EvP.segs.findSome? fun r => if r.1 ≤ x ∧ x < r.1 + r.2.1 then some (r.2.2 (x - r.1)) else none

/-- Class and fixed range of a scalar of group EV. -/
def EvP.info : EvP → PInfo
  | .cfg => ⟨.rw, 0, 65535, 1⟩
  | .inj => ⟨.rw, 0, 65535, 1⟩

/-- Default of a writable scalar of group EV in default set `set`, instance `s`. -/
def EvP.dflt (_set s : Nat) : EvP → Int
  | .cfg => evDefault s
  | .inj => 0

/-- Writable scalars of group EV, part 0. -/
def EvP.writable0 : List EvP :=
  [.cfg, .inj]

/-- The writable scalars of group EV in index order. -/
def EvP.writable : List EvP :=
  List.flatten [EvP.writable0]

/-- Index of a scalar of group SAF (R331). -/
def SafP.idx : SafP → Nat
  | .configCrc => 0x0
  | .commitCount => 0x1
  | .safeState => 0x2
  | .releaseSrc => 0x3
  | .pairType i => 0x100 + i
  | .disc i => 0x120 + i
  | .inFiltMs i => 0x140 + i
  | .pairStatus i => 0x160 + i
  | .dlOnDelayMs => 0x200
  | .rlSide => 0x201
  | .spFunc => 0x202
  | .soTestPeriodS => 0x203
  | .soPulseUs => 0x204
  | .soStatus i => 0x210 + i
  | .soCurrent i => 0x214 + i
  | .ssDecel i => 0x300 + i
  | .ssJerk i => 0x303 + i
  | .ssVTol i => 0x306 + i
  | .ssMonPct => 0x309
  | .ssDelayMs => 0x30a
  | .ssTmaxMs => 0x30b
  | .iTolMa => 0x30c
  | .kscConnId => 0x400
  | .kscCode => 0x401
  | .kscPeerA => 0x402
  | .kscPeerB => 0x403
  | .kscCycleMs => 0x404
  | .kscWdMs => 0x405
  | .kscPolicy => 0x406
  | .kscSingleMax => 0x407
  | .kscPairUs => 0x408
  | .kscSeqGap => 0x409
  | .kscStatus => 0x40a

/-- Runs of indices of group SAF, part 0: first index, length, the scalar at an offset (R319, R331). -/
def SafP.segs0 : List (Nat × Nat × (Nat → SafP)) :=
  [(0x0, 1, fun _ => .configCrc), (0x1, 1, fun _ => .commitCount), (0x2, 1, fun _ => .safeState), (0x3, 1, fun _ => .releaseSrc), (0x100, 32, .pairType), (0x120, 32, .disc)]

/-- Runs of indices of group SAF, part 1: first index, length, the scalar at an offset (R319, R331). -/
def SafP.segs1 : List (Nat × Nat × (Nat → SafP)) :=
  [(0x140, 32, .inFiltMs), (0x160, 32, .pairStatus), (0x200, 1, fun _ => .dlOnDelayMs), (0x201, 1, fun _ => .rlSide), (0x202, 1, fun _ => .spFunc), (0x203, 1, fun _ => .soTestPeriodS)]

/-- Runs of indices of group SAF, part 2: first index, length, the scalar at an offset (R319, R331). -/
def SafP.segs2 : List (Nat × Nat × (Nat → SafP)) :=
  [(0x204, 1, fun _ => .soPulseUs), (0x210, 4, .soStatus), (0x214, 4, .soCurrent), (0x300, 3, .ssDecel), (0x303, 3, .ssJerk), (0x306, 3, .ssVTol)]

/-- Runs of indices of group SAF, part 3: first index, length, the scalar at an offset (R319, R331). -/
def SafP.segs3 : List (Nat × Nat × (Nat → SafP)) :=
  [(0x309, 1, fun _ => .ssMonPct), (0x30a, 1, fun _ => .ssDelayMs), (0x30b, 1, fun _ => .ssTmaxMs), (0x30c, 1, fun _ => .iTolMa), (0x400, 1, fun _ => .kscConnId), (0x401, 1, fun _ => .kscCode)]

/-- Runs of indices of group SAF, part 4: first index, length, the scalar at an offset (R319, R331). -/
def SafP.segs4 : List (Nat × Nat × (Nat → SafP)) :=
  [(0x402, 1, fun _ => .kscPeerA), (0x403, 1, fun _ => .kscPeerB), (0x404, 1, fun _ => .kscCycleMs), (0x405, 1, fun _ => .kscWdMs), (0x406, 1, fun _ => .kscPolicy), (0x407, 1, fun _ => .kscSingleMax)]

/-- Runs of indices of group SAF, part 5: first index, length, the scalar at an offset (R319, R331). -/
def SafP.segs5 : List (Nat × Nat × (Nat → SafP)) :=
  [(0x408, 1, fun _ => .kscPairUs), (0x409, 1, fun _ => .kscSeqGap), (0x40a, 1, fun _ => .kscStatus)]

/-- The runs of indices of group SAF (R319, R331). -/
def SafP.segs : List (Nat × Nat × (Nat → SafP)) :=
  List.flatten [SafP.segs0, SafP.segs1, SafP.segs2, SafP.segs3, SafP.segs4, SafP.segs5]

/-- The scalar of group SAF at an index (R319). -/
def SafP.ofIdx (x : Nat) : Option SafP :=
  SafP.segs.findSome? fun r => if r.1 ≤ x ∧ x < r.1 + r.2.1 then some (r.2.2 (x - r.1)) else none

/-- Class and fixed range of a scalar of group SAF. -/
def SafP.info : SafP → PInfo
  | .configCrc => ⟨.ro, 0, 4294967295, 1⟩
  | .commitCount => ⟨.ro, 0, 4294967295, 1⟩
  | .safeState => ⟨.ro, 0, 4294967295, 1⟩
  | .releaseSrc => ⟨.rws, 0, 2, 1⟩
  | .pairType _ => ⟨.rws, 0, 2, 1⟩
  | .disc _ => ⟨.rws, 5, 500, 1⟩
  | .inFiltMs _ => ⟨.rws, 1, 50, 1⟩
  | .pairStatus _ => ⟨.ro, 0, 4294967295, 1⟩
  | .dlOnDelayMs => ⟨.rws, 0, 1000, 1⟩
  | .rlSide => ⟨.rws, 0, 2, 1⟩
  | .spFunc => ⟨.rws, 0, 3, 1⟩
  | .soTestPeriodS => ⟨.rws, 8, 3600, 1⟩
  | .soPulseUs => ⟨.rws, 50, 300, 1⟩
  | .soStatus _ => ⟨.w1c, 0, 65535, 1⟩
  | .soCurrent _ => ⟨.ro, 0, 4294967295, 1⟩
  | .ssDecel _ => ⟨.rws, 10000, 50000000, 1⟩
  | .ssJerk _ => ⟨.rws, 100000, 2000000000, 1⟩
  | .ssVTol _ => ⟨.rws, 1000, 100000, 1⟩
  | .ssMonPct => ⟨.rws, 25, 90, 1⟩
  | .ssDelayMs => ⟨.rws, 2, 50, 1⟩
  | .ssTmaxMs => ⟨.rws, 100, 5000, 1⟩
  | .iTolMa => ⟨.rws, 100, 1000, 1⟩
  | .kscConnId => ⟨.rws, 0, 65535, 1⟩
  | .kscCode => ⟨.rws, 0, 4294967295, 1⟩
  | .kscPeerA => ⟨.rws, 0, 4294967295, 1⟩
  | .kscPeerB => ⟨.rws, 0, 4294967295, 1⟩
  | .kscCycleMs => ⟨.rws, 5, 100, 1⟩
  | .kscWdMs => ⟨.rws, 10, 1000, 1⟩
  | .kscPolicy => ⟨.rws, 0, 1, 1⟩
  | .kscSingleMax => ⟨.rws, 1, 1000, 1⟩
  | .kscPairUs => ⟨.rws, 200, 50000, 1⟩
  | .kscSeqGap => ⟨.rws, 1, 200, 1⟩
  | .kscStatus => ⟨.w1c, 0, 65535, 1⟩

/-- Default of a writable scalar of group SAF in default set `set`, instance `s`. -/
def SafP.dflt (set _s : Nat) : SafP → Int
  | .releaseSrc => (if set=1 then 0 else 1)
  | .pairType i => (if i≤28 then 1 else 0)
  | .disc _ => 100
  | .inFiltMs i => (if i≤23 then 6 else 4)
  | .dlOnDelayMs => 50
  | .rlSide => 0
  | .spFunc => (if set=1 then 0 else 3)
  | .soTestPeriodS => 10
  | .soPulseUs => 200
  | .ssDecel i => (if i=2 then 500000 else 2000000)
  | .ssJerk i => (if i=2 then 20000000 else 100000000)
  | .ssVTol i => (if i=2 then 5000 else 20000)
  | .ssMonPct => 50
  | .ssDelayMs => 10
  | .ssTmaxMs => 1000
  | .iTolMa => 250
  | .kscConnId => 0
  | .kscCode => 0
  | .kscPeerA => 0
  | .kscPeerB => 0
  | .kscCycleMs => 10
  | .kscWdMs => 40
  | .kscPolicy => 0
  | .kscSingleMax => 10
  | .kscPairUs => 2000
  | .kscSeqGap => 4
  | _ => 0

/-- Writable scalars of group SAF, part 0. -/
def SafP.writable0 : List SafP :=
  [.releaseSrc]

/-- Writable scalars of group SAF, part 1. -/
def SafP.writable1 : List SafP :=
  (List.range 32).map .pairType

/-- Writable scalars of group SAF, part 2. -/
def SafP.writable2 : List SafP :=
  (List.range 32).map .disc

/-- Writable scalars of group SAF, part 3. -/
def SafP.writable3 : List SafP :=
  (List.range 32).map .inFiltMs

/-- Writable scalars of group SAF, part 4. -/
def SafP.writable4 : List SafP :=
  [.dlOnDelayMs, .rlSide, .spFunc, .soTestPeriodS, .soPulseUs]

/-- Writable scalars of group SAF, part 5. -/
def SafP.writable5 : List SafP :=
  (List.range 3).map .ssDecel

/-- Writable scalars of group SAF, part 6. -/
def SafP.writable6 : List SafP :=
  (List.range 3).map .ssJerk

/-- Writable scalars of group SAF, part 7. -/
def SafP.writable7 : List SafP :=
  (List.range 3).map .ssVTol

/-- Writable scalars of group SAF, part 8. -/
def SafP.writable8 : List SafP :=
  [.ssMonPct, .ssDelayMs, .ssTmaxMs, .iTolMa, .kscConnId, .kscCode, .kscPeerA, .kscPeerB, .kscCycleMs, .kscWdMs, .kscPolicy, .kscSingleMax]

/-- Writable scalars of group SAF, part 9. -/
def SafP.writable9 : List SafP :=
  [.kscPairUs, .kscSeqGap]

/-- The writable scalars of group SAF in index order. -/
def SafP.writable : List SafP :=
  List.flatten [SafP.writable0, SafP.writable1, SafP.writable2, SafP.writable3, SafP.writable4, SafP.writable5, SafP.writable6, SafP.writable7, SafP.writable8, SafP.writable9]

/-- Index of a scalar of group NET (R331). -/
def NetP.idx : NetP → Nat
  | .ipAddr i => 0x0 + i
  | .ipMask i => 0x3 + i
  | .gateway i => 0x6 + i
  | .macHi i => 0x9 + i
  | .macLo i => 0xc + i
  | .portEnable => 0xf
  | .speedCfg i => 0x10 + i
  | .linkStatus i => 0x12 + i
  | .linkDebounceMs => 0x15
  | .vlanId i => 0x16 + i
  | .pcp i => 0x18 + i
  | .prpMode => 0x1c
  | .prpWindow => 0x1d
  | .prpAgeMs => 0x1e
  | .prpSupMs => 0x1f
  | .prpStatus => 0x20
  | .singleLanS => 0x21
  | .herdMcast => 0x22
  | .herdPort => 0x23
  | .kcpPorts => 0x24
  | .svcL2Kcp => 0x25
  | .rateLimit i => 0x26 + i
  | .cnt i => 0x29 + i
  | .cntClear => 0x3f
  | .ptpEnable => 0x100
  | .domain i => 0x101 + i
  | .transport i => 0x103 + i
  | .priority1 => 0x105
  | .priority2 => 0x106
  | .slaveOnly => 0x107
  | .logSync => 0x108
  | .logAnnounce => 0x109
  | .logDelayReq => 0x10a
  | .announceTimeout => 0x10b
  | .asymNs i => 0x10c + i
  | .timePref => 0x10e
  | .timeStepMaxUs => 0x10f
  | .timeStepConfirmS => 0x110
  | .abTolUs => 0x111
  | .abDecideMs => 0x112
  | .abWindowS => 0x113
  | .abRecoverS => 0x114
  | .pdStepNs => 0x115
  | .slewPpm => 0x116
  | .servoKp => 0x117
  | .servoKi => 0x118
  | .lockNs => 0x119
  | .timeStatus => 0x11a
  | .ptpState i => 0x11b + i
  | .offsetNs i => 0x11d + i
  | .pathDelayNs i => 0x11f + i
  | .pdChangeS i => 0x121 + i
  | .refusedNs i => 0x123 + i
  | .abDiffNs => 0x125
  | .abBaseNs => 0x126
  | .freqPpb => 0x127
  | .gmIdHi i => 0x128 + i
  | .gmIdLo i => 0x12a + i
  | .utcOffsetS => 0x12c
  | .holdoverS => 0x12d
  | .stepsAccepted => 0x12e
  | .stepsRefused => 0x12f
  | .herdCycleOfs => 0x130
  | .syncRx i => 0x131 + i
  | .kcpKeepaliveS => 0x200
  | .jogRefreshMs => 0x201

/-- Runs of indices of group NET, part 0: first index, length, the scalar at an offset (R319, R331). -/
def NetP.segs0 : List (Nat × Nat × (Nat → NetP)) :=
  [(0x0, 3, .ipAddr), (0x3, 3, .ipMask), (0x6, 3, .gateway), (0x9, 3, .macHi), (0xc, 3, .macLo), (0xf, 1, fun _ => .portEnable)]

/-- Runs of indices of group NET, part 1: first index, length, the scalar at an offset (R319, R331). -/
def NetP.segs1 : List (Nat × Nat × (Nat → NetP)) :=
  [(0x10, 2, .speedCfg), (0x12, 3, .linkStatus), (0x15, 1, fun _ => .linkDebounceMs), (0x16, 2, .vlanId), (0x18, 4, .pcp), (0x1c, 1, fun _ => .prpMode)]

/-- Runs of indices of group NET, part 2: first index, length, the scalar at an offset (R319, R331). -/
def NetP.segs2 : List (Nat × Nat × (Nat → NetP)) :=
  [(0x1d, 1, fun _ => .prpWindow), (0x1e, 1, fun _ => .prpAgeMs), (0x1f, 1, fun _ => .prpSupMs), (0x20, 1, fun _ => .prpStatus), (0x21, 1, fun _ => .singleLanS), (0x22, 1, fun _ => .herdMcast)]

/-- Runs of indices of group NET, part 3: first index, length, the scalar at an offset (R319, R331). -/
def NetP.segs3 : List (Nat × Nat × (Nat → NetP)) :=
  [(0x23, 1, fun _ => .herdPort), (0x24, 1, fun _ => .kcpPorts), (0x25, 1, fun _ => .svcL2Kcp), (0x26, 3, .rateLimit), (0x29, 22, .cnt), (0x3f, 1, fun _ => .cntClear)]

/-- Runs of indices of group NET, part 4: first index, length, the scalar at an offset (R319, R331). -/
def NetP.segs4 : List (Nat × Nat × (Nat → NetP)) :=
  [(0x100, 1, fun _ => .ptpEnable), (0x101, 2, .domain), (0x103, 2, .transport), (0x105, 1, fun _ => .priority1), (0x106, 1, fun _ => .priority2), (0x107, 1, fun _ => .slaveOnly)]

/-- Runs of indices of group NET, part 5: first index, length, the scalar at an offset (R319, R331). -/
def NetP.segs5 : List (Nat × Nat × (Nat → NetP)) :=
  [(0x108, 1, fun _ => .logSync), (0x109, 1, fun _ => .logAnnounce), (0x10a, 1, fun _ => .logDelayReq), (0x10b, 1, fun _ => .announceTimeout), (0x10c, 2, .asymNs), (0x10e, 1, fun _ => .timePref)]

/-- Runs of indices of group NET, part 6: first index, length, the scalar at an offset (R319, R331). -/
def NetP.segs6 : List (Nat × Nat × (Nat → NetP)) :=
  [(0x10f, 1, fun _ => .timeStepMaxUs), (0x110, 1, fun _ => .timeStepConfirmS), (0x111, 1, fun _ => .abTolUs), (0x112, 1, fun _ => .abDecideMs), (0x113, 1, fun _ => .abWindowS), (0x114, 1, fun _ => .abRecoverS)]

/-- Runs of indices of group NET, part 7: first index, length, the scalar at an offset (R319, R331). -/
def NetP.segs7 : List (Nat × Nat × (Nat → NetP)) :=
  [(0x115, 1, fun _ => .pdStepNs), (0x116, 1, fun _ => .slewPpm), (0x117, 1, fun _ => .servoKp), (0x118, 1, fun _ => .servoKi), (0x119, 1, fun _ => .lockNs), (0x11a, 1, fun _ => .timeStatus)]

/-- Runs of indices of group NET, part 8: first index, length, the scalar at an offset (R319, R331). -/
def NetP.segs8 : List (Nat × Nat × (Nat → NetP)) :=
  [(0x11b, 2, .ptpState), (0x11d, 2, .offsetNs), (0x11f, 2, .pathDelayNs), (0x121, 2, .pdChangeS), (0x123, 2, .refusedNs), (0x125, 1, fun _ => .abDiffNs)]

/-- Runs of indices of group NET, part 9: first index, length, the scalar at an offset (R319, R331). -/
def NetP.segs9 : List (Nat × Nat × (Nat → NetP)) :=
  [(0x126, 1, fun _ => .abBaseNs), (0x127, 1, fun _ => .freqPpb), (0x128, 2, .gmIdHi), (0x12a, 2, .gmIdLo), (0x12c, 1, fun _ => .utcOffsetS), (0x12d, 1, fun _ => .holdoverS)]

/-- Runs of indices of group NET, part 10: first index, length, the scalar at an offset (R319, R331). -/
def NetP.segs10 : List (Nat × Nat × (Nat → NetP)) :=
  [(0x12e, 1, fun _ => .stepsAccepted), (0x12f, 1, fun _ => .stepsRefused), (0x130, 1, fun _ => .herdCycleOfs), (0x131, 2, .syncRx), (0x200, 1, fun _ => .kcpKeepaliveS), (0x201, 1, fun _ => .jogRefreshMs)]

/-- The runs of indices of group NET (R319, R331). -/
def NetP.segs : List (Nat × Nat × (Nat → NetP)) :=
  List.flatten [NetP.segs0, NetP.segs1, NetP.segs2, NetP.segs3, NetP.segs4, NetP.segs5, NetP.segs6, NetP.segs7, NetP.segs8, NetP.segs9, NetP.segs10]

/-- The scalar of group NET at an index (R319). -/
def NetP.ofIdx (x : Nat) : Option NetP :=
  NetP.segs.findSome? fun r => if r.1 ≤ x ∧ x < r.1 + r.2.1 then some (r.2.2 (x - r.1)) else none

/-- Class and fixed range of a scalar of group NET. -/
def NetP.info : NetP → PInfo
  | .ipAddr _ => ⟨.rwm, 0, 4294967295, 1⟩
  | .ipMask _ => ⟨.rwm, 0, 4294967295, 1⟩
  | .gateway _ => ⟨.rwm, 0, 4294967295, 1⟩
  | .macHi _ => ⟨.ro, 0, 4294967295, 1⟩
  | .macLo _ => ⟨.ro, 0, 4294967295, 1⟩
  | .portEnable => ⟨.rwm, 0, 7, 1⟩
  | .speedCfg _ => ⟨.rwm, 0, 1, 1⟩
  | .linkStatus _ => ⟨.ro, 0, 4294967295, 1⟩
  | .linkDebounceMs => ⟨.rwm, 0, 1000, 1⟩
  | .vlanId _ => ⟨.rwm, 0, 4094, 1⟩
  | .pcp _ => ⟨.rwm, 0, 7, 1⟩
  | .prpMode => ⟨.rwm, 0, 1, 1⟩
  | .prpWindow => ⟨.rwm, 16, 1024, 1⟩
  | .prpAgeMs => ⟨.rwm, 100, 4000, 1⟩
  | .prpSupMs => ⟨.rwm, 500, 10000, 1⟩
  | .prpStatus => ⟨.ro, 0, 4294967295, 1⟩
  | .singleLanS => ⟨.rwm, 1, 600, 1⟩
  | .herdMcast => ⟨.rwm, 3758096384, 4026531839, 1⟩
  | .herdPort => ⟨.rwm, 1024, 65535, 1⟩
  | .kcpPorts => ⟨.rwm, 0, 7, 1⟩
  | .svcL2Kcp => ⟨.rwm, 0, 1, 1⟩
  | .rateLimit _ => ⟨.rwm, 1000, 200000, 1⟩
  | .cnt _ => ⟨.ro, 0, 4294967295, 1⟩
  | .cntClear => ⟨.sc, 0, 1, 1⟩
  | .ptpEnable => ⟨.rwm, 0, 3, 1⟩
  | .domain _ => ⟨.rwm, 0, 127, 1⟩
  | .transport _ => ⟨.rwm, 0, 1, 1⟩
  | .priority1 => ⟨.rwm, 0, 255, 1⟩
  | .priority2 => ⟨.rwm, 0, 255, 1⟩
  | .slaveOnly => ⟨.rwm, 0, 1, 1⟩
  | .logSync => ⟨.rwm, -4, 1, 1⟩
  | .logAnnounce => ⟨.rwm, 0, 3, 1⟩
  | .logDelayReq => ⟨.rwm, -3, 4, 1⟩
  | .announceTimeout => ⟨.rwm, 2, 10, 1⟩
  | .asymNs _ => ⟨.rwm, -100000, 100000, 1⟩
  | .timePref => ⟨.rwm, 0, 1, 1⟩
  | .timeStepMaxUs => ⟨.rwm, 10, 100000, 1⟩
  | .timeStepConfirmS => ⟨.rwm, 10, 3600, 1⟩
  | .abTolUs => ⟨.rwm, 2, 1000, 1⟩
  | .abDecideMs => ⟨.rwm, 500, 20000, 1⟩
  | .abWindowS => ⟨.rwm, 1, 600, 1⟩
  | .abRecoverS => ⟨.rwm, 5, 3600, 1⟩
  | .pdStepNs => ⟨.rwm, 100, 100000, 1⟩
  | .slewPpm => ⟨.rwm, 10, 1000, 1⟩
  | .servoKp => ⟨.rwm, 1, 1000, 1⟩
  | .servoKi => ⟨.rwm, 0, 1000, 1⟩
  | .lockNs => ⟨.rwm, 50, 100000, 1⟩
  | .timeStatus => ⟨.w1c, 0, 65535, 1⟩
  | .ptpState _ => ⟨.ro, 0, 4294967295, 1⟩
  | .offsetNs _ => ⟨.ro, 0, 4294967295, 1⟩
  | .pathDelayNs _ => ⟨.ro, 0, 4294967295, 1⟩
  | .pdChangeS _ => ⟨.ro, 0, 4294967295, 1⟩
  | .refusedNs _ => ⟨.ro, 0, 4294967295, 1⟩
  | .abDiffNs => ⟨.ro, 0, 4294967295, 1⟩
  | .abBaseNs => ⟨.ro, 0, 4294967295, 1⟩
  | .freqPpb => ⟨.ro, 0, 4294967295, 1⟩
  | .gmIdHi _ => ⟨.ro, 0, 4294967295, 1⟩
  | .gmIdLo _ => ⟨.ro, 0, 4294967295, 1⟩
  | .utcOffsetS => ⟨.ro, 0, 4294967295, 1⟩
  | .holdoverS => ⟨.ro, 0, 4294967295, 1⟩
  | .stepsAccepted => ⟨.ro, 0, 4294967295, 1⟩
  | .stepsRefused => ⟨.ro, 0, 4294967295, 1⟩
  | .herdCycleOfs => ⟨.ro, 0, 4294967295, 1⟩
  | .syncRx _ => ⟨.ro, 0, 4294967295, 1⟩
  | .kcpKeepaliveS => ⟨.rw, 2, 300, 1⟩
  | .jogRefreshMs => ⟨.rw, 50, 1000, 1⟩

/-- Default of a writable scalar of group NET in default set `set`, instance `s`. -/
def NetP.dflt (_set _s : Nat) : NetP → Int
  | .ipAddr i => (if i=2 then 0xC0A8C801 else 0)
  | .ipMask i => (if i=2 then 0xFFFFFF00 else 0)
  | .gateway _ => 0
  | .portEnable => 7
  | .speedCfg _ => 0
  | .linkDebounceMs => 50
  | .vlanId _ => 0
  | .pcp i => (if i=0 then 6 else (if i=1 then 7 else (if i=2 then 5 else 0)))
  | .prpMode => 1
  | .prpWindow => 128
  | .prpAgeMs => 400
  | .prpSupMs => 2000
  | .singleLanS => 10
  | .herdMcast => 0xEFC01801
  | .herdPort => 47210
  | .kcpPorts => 7
  | .svcL2Kcp => 1
  | .rateLimit i => (if i=2 then 10000 else 40000)
  | .ptpEnable => 3
  | .domain _ => 0
  | .transport _ => 0
  | .priority1 => 250
  | .priority2 => 250
  | .slaveOnly => 0
  | .logSync => -3
  | .logAnnounce => 1
  | .logDelayReq => 0
  | .announceTimeout => 3
  | .asymNs _ => 0
  | .timePref => 0
  | .timeStepMaxUs => 1000
  | .timeStepConfirmS => 60
  | .abTolUs => 20
  | .abDecideMs => 2000
  | .abWindowS => 10
  | .abRecoverS => 60
  | .pdStepNs => 1000
  | .slewPpm => 500
  | .servoKp => 700
  | .servoKi => 300
  | .lockNs => 1000
  | .kcpKeepaliveS => 10
  | .jogRefreshMs => 200
  | _ => 0

/-- Writable scalars of group NET, part 0. -/
def NetP.writable0 : List NetP :=
  (List.range 3).map .ipAddr

/-- Writable scalars of group NET, part 1. -/
def NetP.writable1 : List NetP :=
  (List.range 3).map .ipMask

/-- Writable scalars of group NET, part 2. -/
def NetP.writable2 : List NetP :=
  (List.range 3).map .gateway

/-- Writable scalars of group NET, part 3. -/
def NetP.writable3 : List NetP :=
  [.portEnable]

/-- Writable scalars of group NET, part 4. -/
def NetP.writable4 : List NetP :=
  (List.range 2).map .speedCfg

/-- Writable scalars of group NET, part 5. -/
def NetP.writable5 : List NetP :=
  [.linkDebounceMs]

/-- Writable scalars of group NET, part 6. -/
def NetP.writable6 : List NetP :=
  (List.range 2).map .vlanId

/-- Writable scalars of group NET, part 7. -/
def NetP.writable7 : List NetP :=
  (List.range 4).map .pcp

/-- Writable scalars of group NET, part 8. -/
def NetP.writable8 : List NetP :=
  [.prpMode, .prpWindow, .prpAgeMs, .prpSupMs, .singleLanS, .herdMcast, .herdPort, .kcpPorts, .svcL2Kcp]

/-- Writable scalars of group NET, part 9. -/
def NetP.writable9 : List NetP :=
  (List.range 3).map .rateLimit

/-- Writable scalars of group NET, part 10. -/
def NetP.writable10 : List NetP :=
  [.ptpEnable]

/-- Writable scalars of group NET, part 11. -/
def NetP.writable11 : List NetP :=
  (List.range 2).map .domain

/-- Writable scalars of group NET, part 12. -/
def NetP.writable12 : List NetP :=
  (List.range 2).map .transport

/-- Writable scalars of group NET, part 13. -/
def NetP.writable13 : List NetP :=
  [.priority1, .priority2, .slaveOnly, .logSync, .logAnnounce, .logDelayReq, .announceTimeout]

/-- Writable scalars of group NET, part 14. -/
def NetP.writable14 : List NetP :=
  (List.range 2).map .asymNs

/-- Writable scalars of group NET, part 15. -/
def NetP.writable15 : List NetP :=
  [.timePref, .timeStepMaxUs, .timeStepConfirmS, .abTolUs, .abDecideMs, .abWindowS, .abRecoverS, .pdStepNs, .slewPpm, .servoKp, .servoKi, .lockNs]

/-- Writable scalars of group NET, part 16. -/
def NetP.writable16 : List NetP :=
  [.kcpKeepaliveS, .jogRefreshMs]

/-- The writable scalars of group NET in index order. -/
def NetP.writable : List NetP :=
  List.flatten [NetP.writable0, NetP.writable1, NetP.writable2, NetP.writable3, NetP.writable4, NetP.writable5, NetP.writable6, NetP.writable7, NetP.writable8, NetP.writable9, NetP.writable10, NetP.writable11, NetP.writable12, NetP.writable13, NetP.writable14, NetP.writable15, NetP.writable16]

/-- Index of a scalar of group HERD (R331). -/
def HerdP.idx : HerdP → Nat
  | .member => 0x0
  | .carOrient => 0x1
  | .role => 0x2
  | .master => 0x3
  | .standby => 0x4
  | .term => 0x5
  | .epoch => 0x6
  | .configMask => 0x7
  | .eligible => 0x8
  | .prio => 0x9
  | .trainId => 0xa
  | .extRefId => 0xb
  | .extRefAddr => 0xc
  | .joinCycles => 0xd
  | .bothSides => 0xe
  | .shadowMissMax => 0xf
  | .present => 0x10
  | .quorum => 0x11
  | .status => 0x12
  | .pendMode => 0x13
  | .pendEpoch => 0x14
  | .applyAtLo => 0x15
  | .applyAtHi => 0x16
  | .grant => 0x17
  | .mirrorSeq => 0x18
  | .mirrorAge => 0x19
  | .shadowCmp => 0x1a
  | .shadowSkip => 0x1b
  | .shadowMismatch => 0x1c
  | .switchovers => 0x1d
  | .votesGranted => 0x1e
  | .modeAborts => 0x1f
  | .rollbacks => 0x20
  | .lastSwitchMs => 0x21
  | .missed i => 0x22 + i
  | .ackMask => 0x42
  | .staleMask => 0x43
  | .conflicts => 0x44
  | .noQuorumCycles => 0x45
  | .bleatRx i => 0x46 + i

/-- Runs of indices of group HERD, part 0: first index, length, the scalar at an offset (R319, R331). -/
def HerdP.segs0 : List (Nat × Nat × (Nat → HerdP)) :=
  [(0x0, 1, fun _ => .member), (0x1, 1, fun _ => .carOrient), (0x2, 1, fun _ => .role), (0x3, 1, fun _ => .master), (0x4, 1, fun _ => .standby), (0x5, 1, fun _ => .term)]

/-- Runs of indices of group HERD, part 1: first index, length, the scalar at an offset (R319, R331). -/
def HerdP.segs1 : List (Nat × Nat × (Nat → HerdP)) :=
  [(0x6, 1, fun _ => .epoch), (0x7, 1, fun _ => .configMask), (0x8, 1, fun _ => .eligible), (0x9, 1, fun _ => .prio), (0xa, 1, fun _ => .trainId), (0xb, 1, fun _ => .extRefId)]

/-- Runs of indices of group HERD, part 2: first index, length, the scalar at an offset (R319, R331). -/
def HerdP.segs2 : List (Nat × Nat × (Nat → HerdP)) :=
  [(0xc, 1, fun _ => .extRefAddr), (0xd, 1, fun _ => .joinCycles), (0xe, 1, fun _ => .bothSides), (0xf, 1, fun _ => .shadowMissMax), (0x10, 1, fun _ => .present), (0x11, 1, fun _ => .quorum)]

/-- Runs of indices of group HERD, part 3: first index, length, the scalar at an offset (R319, R331). -/
def HerdP.segs3 : List (Nat × Nat × (Nat → HerdP)) :=
  [(0x12, 1, fun _ => .status), (0x13, 1, fun _ => .pendMode), (0x14, 1, fun _ => .pendEpoch), (0x15, 1, fun _ => .applyAtLo), (0x16, 1, fun _ => .applyAtHi), (0x17, 1, fun _ => .grant)]

/-- Runs of indices of group HERD, part 4: first index, length, the scalar at an offset (R319, R331). -/
def HerdP.segs4 : List (Nat × Nat × (Nat → HerdP)) :=
  [(0x18, 1, fun _ => .mirrorSeq), (0x19, 1, fun _ => .mirrorAge), (0x1a, 1, fun _ => .shadowCmp), (0x1b, 1, fun _ => .shadowSkip), (0x1c, 1, fun _ => .shadowMismatch), (0x1d, 1, fun _ => .switchovers)]

/-- Runs of indices of group HERD, part 5: first index, length, the scalar at an offset (R319, R331). -/
def HerdP.segs5 : List (Nat × Nat × (Nat → HerdP)) :=
  [(0x1e, 1, fun _ => .votesGranted), (0x1f, 1, fun _ => .modeAborts), (0x20, 1, fun _ => .rollbacks), (0x21, 1, fun _ => .lastSwitchMs), (0x22, 32, .missed), (0x42, 1, fun _ => .ackMask)]

/-- Runs of indices of group HERD, part 6: first index, length, the scalar at an offset (R319, R331). -/
def HerdP.segs6 : List (Nat × Nat × (Nat → HerdP)) :=
  [(0x43, 1, fun _ => .staleMask), (0x44, 1, fun _ => .conflicts), (0x45, 1, fun _ => .noQuorumCycles), (0x46, 2, .bleatRx)]

/-- The runs of indices of group HERD (R319, R331). -/
def HerdP.segs : List (Nat × Nat × (Nat → HerdP)) :=
  List.flatten [HerdP.segs0, HerdP.segs1, HerdP.segs2, HerdP.segs3, HerdP.segs4, HerdP.segs5, HerdP.segs6]

/-- The scalar of group HERD at an index (R319). -/
def HerdP.ofIdx (x : Nat) : Option HerdP :=
  HerdP.segs.findSome? fun r => if r.1 ≤ x ∧ x < r.1 + r.2.1 then some (r.2.2 (x - r.1)) else none

/-- Class and fixed range of a scalar of group HERD. -/
def HerdP.info : HerdP → PInfo
  | .member => ⟨.rwm, 0, 31, 1⟩
  | .carOrient => ⟨.rwm, 0, 1, 1⟩
  | .role => ⟨.ro, 0, 4294967295, 1⟩
  | .master => ⟨.ro, 0, 4294967295, 1⟩
  | .standby => ⟨.ro, 0, 4294967295, 1⟩
  | .term => ⟨.ro, 0, 4294967295, 1⟩
  | .epoch => ⟨.ro, 0, 4294967295, 1⟩
  | .configMask => ⟨.rwm, 0, 4294967295, 1⟩
  | .eligible => ⟨.rwm, 0, 1, 1⟩
  | .prio => ⟨.rwm, 0, 255, 1⟩
  | .trainId => ⟨.rwm, 0, 4294967295, 1⟩
  | .extRefId => ⟨.rwm, 0, 255, 1⟩
  | .extRefAddr => ⟨.rwm, 0, 4294967295, 1⟩
  | .joinCycles => ⟨.rwm, 10, 1000, 1⟩
  | .bothSides => ⟨.rwm, 0, 1, 1⟩
  | .shadowMissMax => ⟨.rwm, 1, 100, 1⟩
  | .present => ⟨.ro, 0, 4294967295, 1⟩
  | .quorum => ⟨.ro, 0, 4294967295, 1⟩
  | .status => ⟨.w1c, 0, 65535, 1⟩
  | .pendMode => ⟨.ro, 0, 4294967295, 1⟩
  | .pendEpoch => ⟨.ro, 0, 4294967295, 1⟩
  | .applyAtLo => ⟨.ro, 0, 4294967295, 1⟩
  | .applyAtHi => ⟨.ro, 0, 4294967295, 1⟩
  | .grant => ⟨.ro, 0, 4294967295, 1⟩
  | .mirrorSeq => ⟨.ro, 0, 4294967295, 1⟩
  | .mirrorAge => ⟨.ro, 0, 4294967295, 1⟩
  | .shadowCmp => ⟨.ro, 0, 4294967295, 1⟩
  | .shadowSkip => ⟨.ro, 0, 4294967295, 1⟩
  | .shadowMismatch => ⟨.ro, 0, 4294967295, 1⟩
  | .switchovers => ⟨.ro, 0, 4294967295, 1⟩
  | .votesGranted => ⟨.ro, 0, 4294967295, 1⟩
  | .modeAborts => ⟨.ro, 0, 4294967295, 1⟩
  | .rollbacks => ⟨.ro, 0, 4294967295, 1⟩
  | .lastSwitchMs => ⟨.ro, 0, 4294967295, 1⟩
  | .missed _ => ⟨.ro, 0, 4294967295, 1⟩
  | .ackMask => ⟨.ro, 0, 4294967295, 1⟩
  | .staleMask => ⟨.ro, 0, 4294967295, 1⟩
  | .conflicts => ⟨.ro, 0, 4294967295, 1⟩
  | .noQuorumCycles => ⟨.ro, 0, 4294967295, 1⟩
  | .bleatRx _ => ⟨.ro, 0, 4294967295, 1⟩

/-- Default of a writable scalar of group HERD in default set `set`, instance `s`. -/
def HerdP.dflt (_set _s : Nat) : HerdP → Int
  | .member => 0
  | .carOrient => 0
  | .configMask => 1
  | .eligible => 1
  | .prio => 128
  | .trainId => 0
  | .extRefId => 255
  | .extRefAddr => 0
  | .joinCycles => 50
  | .bothSides => 0
  | .shadowMissMax => 3
  | _ => 0

/-- Writable scalars of group HERD, part 0. -/
def HerdP.writable0 : List HerdP :=
  [.member, .carOrient, .configMask, .eligible, .prio, .trainId, .extRefId, .extRefAddr, .joinCycles, .bothSides, .shadowMissMax]

/-- The writable scalars of group HERD in index order. -/
def HerdP.writable : List HerdP :=
  List.flatten [HerdP.writable0]

/-- Index of a scalar of group JRN (R331). -/
def JrnP.idx : JrnP → Nat
  | .state i => 0x0 + i
  | .capacity i => 0x5 + i
  | .oldestLo i => 0xa + i
  | .oldestHi i => 0xf + i
  | .newestLo i => 0x14 + i
  | .newestHi i => 0x19 + i
  | .lineErrs i => 0x1e + i
  | .eccFixed i => 0x23 + i
  | .status => 0x28
  | .sealPeriodH => 0x29
  | .sealCount => 0x2a
  | .lastSealLo => 0x2b
  | .lastSealHi => 0x2c
  | .foldWindowS => 0x2d
  | .eventRate => 0x2e
  | .suppressed => 0x2f
  | .failLimit => 0x30
  | .recheck => 0x31
  | .queuePeak => 0x32
  | .queueDrops => 0x33
  | .cyclePend => 0x34
  | .scrubPassH => 0x35
  | .scrubAgeH => 0x36
  | .caddySince => 0x37

/-- Runs of indices of group JRN, part 0: first index, length, the scalar at an offset (R319, R331). -/
def JrnP.segs0 : List (Nat × Nat × (Nat → JrnP)) :=
  [(0x0, 5, .state), (0x5, 5, .capacity), (0xa, 5, .oldestLo), (0xf, 5, .oldestHi), (0x14, 5, .newestLo), (0x19, 5, .newestHi)]

/-- Runs of indices of group JRN, part 1: first index, length, the scalar at an offset (R319, R331). -/
def JrnP.segs1 : List (Nat × Nat × (Nat → JrnP)) :=
  [(0x1e, 5, .lineErrs), (0x23, 5, .eccFixed), (0x28, 1, fun _ => .status), (0x29, 1, fun _ => .sealPeriodH), (0x2a, 1, fun _ => .sealCount), (0x2b, 1, fun _ => .lastSealLo)]

/-- Runs of indices of group JRN, part 2: first index, length, the scalar at an offset (R319, R331). -/
def JrnP.segs2 : List (Nat × Nat × (Nat → JrnP)) :=
  [(0x2c, 1, fun _ => .lastSealHi), (0x2d, 1, fun _ => .foldWindowS), (0x2e, 1, fun _ => .eventRate), (0x2f, 1, fun _ => .suppressed), (0x30, 1, fun _ => .failLimit), (0x31, 1, fun _ => .recheck)]

/-- Runs of indices of group JRN, part 3: first index, length, the scalar at an offset (R319, R331). -/
def JrnP.segs3 : List (Nat × Nat × (Nat → JrnP)) :=
  [(0x32, 1, fun _ => .queuePeak), (0x33, 1, fun _ => .queueDrops), (0x34, 1, fun _ => .cyclePend), (0x35, 1, fun _ => .scrubPassH), (0x36, 1, fun _ => .scrubAgeH), (0x37, 1, fun _ => .caddySince)]

/-- The runs of indices of group JRN (R319, R331). -/
def JrnP.segs : List (Nat × Nat × (Nat → JrnP)) :=
  List.flatten [JrnP.segs0, JrnP.segs1, JrnP.segs2, JrnP.segs3]

/-- The scalar of group JRN at an index (R319). -/
def JrnP.ofIdx (x : Nat) : Option JrnP :=
  JrnP.segs.findSome? fun r => if r.1 ≤ x ∧ x < r.1 + r.2.1 then some (r.2.2 (x - r.1)) else none

/-- Class and fixed range of a scalar of group JRN. -/
def JrnP.info : JrnP → PInfo
  | .state _ => ⟨.ro, 0, 4294967295, 1⟩
  | .capacity _ => ⟨.ro, 0, 4294967295, 1⟩
  | .oldestLo _ => ⟨.ro, 0, 4294967295, 1⟩
  | .oldestHi _ => ⟨.ro, 0, 4294967295, 1⟩
  | .newestLo _ => ⟨.ro, 0, 4294967295, 1⟩
  | .newestHi _ => ⟨.ro, 0, 4294967295, 1⟩
  | .lineErrs _ => ⟨.ro, 0, 4294967295, 1⟩
  | .eccFixed _ => ⟨.ro, 0, 4294967295, 1⟩
  | .status => ⟨.w1c, 0, 65535, 1⟩
  | .sealPeriodH => ⟨.rw, 0, 720, 1⟩
  | .sealCount => ⟨.ro, 0, 4294967295, 1⟩
  | .lastSealLo => ⟨.ro, 0, 4294967295, 1⟩
  | .lastSealHi => ⟨.ro, 0, 4294967295, 1⟩
  | .foldWindowS => ⟨.rw, 1, 3600, 1⟩
  | .eventRate => ⟨.rw, 1, 1000, 1⟩
  | .suppressed => ⟨.ro, 0, 4294967295, 1⟩
  | .failLimit => ⟨.rw, 2, 64, 1⟩
  | .recheck => ⟨.sc, 0, 1, 1⟩
  | .queuePeak => ⟨.ro, 0, 4294967295, 1⟩
  | .queueDrops => ⟨.ro, 0, 4294967295, 1⟩
  | .cyclePend => ⟨.ro, 0, 4294967295, 1⟩
  | .scrubPassH => ⟨.ro, 0, 4294967295, 1⟩
  | .scrubAgeH => ⟨.ro, 0, 4294967295, 1⟩
  | .caddySince => ⟨.ro, 0, 4294967295, 1⟩

/-- Default of a writable scalar of group JRN in default set `set`, instance `s`. -/
def JrnP.dflt (_set _s : Nat) : JrnP → Int
  | .sealPeriodH => 24
  | .foldWindowS => 10
  | .eventRate => 20
  | .failLimit => 8
  | _ => 0

/-- Writable scalars of group JRN, part 0. -/
def JrnP.writable0 : List JrnP :=
  [.sealPeriodH, .foldWindowS, .eventRate, .failLimit]

/-- The writable scalars of group JRN in index order. -/
def JrnP.writable : List JrnP :=
  List.flatten [JrnP.writable0]

end Sys2Proof.Machine
end

