-- ==== Sys2Proof/Machine/ParamOps.lean ====
section
/-! DEFINITION. Parameters as the commands see them: keys (R11, R319), blocks (R330), active and pending values (R323, R328),
fixed ranges (R320) and relations between parameters (R324, R66, R68, R157, R225, R233, R250, R353, R354). -/

namespace Sys2Proof.Machine

/-- A scalar of the parameter space (R318): its group, instance and index name. -/
inductive Par where
  | mod (p : ModP) | ax (a : Nat) (p : AxP) | dw (d : Nat) (p : DwP) | io (n : Nat) (p : IoP) | fs (f : Nat) (p : FsP)
  | ev (e : Nat) (p : EvP) | saf (p : SafP) | net (p : NetP) | herd (p : HerdP) | jrn (p : JrnP)
  deriving DecidableEq, Repr

/-- A block of the parameter space (R330). -/
inductive Blk where
  | lcTable (a : Nat) | plan (a : Nat) | fric (a : Nat) | env (a : Nat) | latch (a l : Nat) | cmp (a u : Nat)
  | sealRef (d : Nat) | sealResult (d : Nat) | subst (f : Nat) | fsOut (f : Nat) | verifyImage | sine (t : Nat)
  | cam (t : Nat) | taskStats | roleKey (r : Nat)
  deriving DecidableEq, Repr

def Par.group : Par → Nat
  | .mod _ => 1 | .ax _ _ => 2 | .dw _ _ => 3 | .io _ _ => 4 | .fs _ _ => 5 | .ev _ _ => 6 | .saf _ => 7 | .net _ => 8
  | .herd _ => 9 | .jrn _ => 10

def Par.inst : Par → Nat
  | .ax a _ => a | .dw d _ => d | .io n _ => n | .fs f _ => f | .ev e _ => e | _ => 0

def Par.idx : Par → Nat
  | .mod p => p.idx | .ax _ p => p.idx | .dw _ p => p.idx | .io _ p => p.idx | .fs _ p => p.idx | .ev _ p => p.idx
  | .saf p => p.idx | .net p => p.idx | .herd p => p.idx | .jrn p => p.idx

/-- The key of a scalar (R11). -/
def Par.key (p : Par) : Nat := p.group * 16777216 + p.inst * 65536 + p.idx

def Par.info : Par → PInfo
  | .mod p => p.info | .ax _ p => p.info | .dw _ p => p.info | .io _ p => p.info | .fs _ p => p.info | .ev _ p => p.info
  | .saf p => p.info | .net p => p.info | .herd p => p.info | .jrn p => p.info

/-- Default in a default set: 1 RS1, 2 PS1 (R3). -/
def Par.dflt (set : Nat) : Par → Int
  | .mod p => p.dflt set 0 | .ax a p => p.dflt set a | .dw d p => p.dflt set d | .io n p => p.dflt set n
  | .fs f p => p.dflt set f | .ev e p => p.dflt set e | .saf p => p.dflt set 0 | .net p => p.dflt set 0
  | .herd p => p.dflt set 0 | .jrn p => p.dflt set 0

def Blk.group : Blk → Nat
  | .lcTable _ | .plan _ | .fric _ | .env _ | .latch _ _ | .cmp _ _ => 2
  | .sealRef _ | .sealResult _ => 3
  | .subst _ | .fsOut _ => 5
  | .verifyImage => 7
  | .sine _ | .cam _ | .taskStats => 1
  | .roleKey _ => 8

def Blk.inst : Blk → Nat
  | .lcTable a | .plan a | .fric a | .env a | .latch a _ | .cmp a _ => a
  | .sealRef d | .sealResult d => d
  | .subst f | .fsOut f => f
  | _ => 0

/-- Index of a block (R330). -/
def Blk.idx : Blk → Nat
  | .lcTable _ => 0x8000 | .plan _ => 0x8001 | .fric _ => 0x8002 | .env _ => 0x8003 | .latch _ l => 0x8004 + l
  | .cmp _ u => 0x8006 + u | .sealRef _ => 0x8000 | .sealResult _ => 0x8001 | .subst _ => 0x8000 | .fsOut _ => 0x8001
  | .verifyImage => 0x8000 | .sine t => 0x8000 + t | .cam t => 0x8010 + t | .taskStats => 0x8020
  | .roleKey r => 0x8000 + (r - 1)

def Blk.key (b : Blk) : Nat := b.group * 16777216 + b.inst * 65536 + b.idx

/-- Access of a block (R330, R298). -/
def Blk.acc : Blk → Acc
  | .lcTable _ | .cmp _ _ | .roleKey _ => .rw
  | .subst _ | .cam _ => .rwm
  | .sine t => if t = 0 then .ro else .rwm
  | _ => .ro

/-- What a key names. -/
inductive KeyRef where
  | scalar (p : Par)
  | block (b : Blk)
  deriving DecidableEq, Repr

/-- Number of instances of a group (R318). -/
def groupInsts (g : Nat) : Nat :=
  if g = 2 then 24 else if g = 3 then 8 else if g = 4 then 112 else if g = 5 then 16 else if g = 6 then 256
  else if 1 ≤ g ∧ g ≤ 10 then 1 else 0

def blockOf (g i x : Nat) : Option Blk :=
  if g = 1 then
    if 0x8000 ≤ x ∧ x ≤ 0x8003 then some (.sine (x - 0x8000))
    else if 0x8010 ≤ x ∧ x ≤ 0x8017 then some (.cam (x - 0x8010))
    else if x = 0x8020 then some .taskStats else none
  else if g = 2 then
    if x = 0x8000 then some (.lcTable i) else if x = 0x8001 then some (.plan i) else if x = 0x8002 then some (.fric i)
    else if x = 0x8003 then some (.env i) else if x = 0x8004 ∨ x = 0x8005 then some (.latch i (x - 0x8004))
    else if 0x8006 ≤ x ∧ x ≤ 0x8009 then some (.cmp i (x - 0x8006)) else none
  else if g = 3 then
    if x = 0x8000 then some (.sealRef i) else if x = 0x8001 then some (.sealResult i) else none
  else if g = 5 then
    if x = 0x8000 then some (.subst i) else if x = 0x8001 then some (.fsOut i) else none
  else if g = 7 then if x = 0x8000 then some .verifyImage else none
  else if g = 8 then if 0x8000 ≤ x ∧ x ≤ 0x8002 then some (.roleKey (x - 0x8000 + 1)) else none
  else none

def scalarOf (g i x : Nat) : Option Par :=
  if g = 1 then (ModP.ofIdx x).map .mod
  else if g = 2 then (AxP.ofIdx x).map (.ax i)
  else if g = 3 then (DwP.ofIdx x).map (.dw i)
  else if g = 4 then (IoP.ofIdx x).map (.io i)
  else if g = 5 then (FsP.ofIdx x).map (.fs i)
  else if g = 6 then (EvP.ofIdx x).map (.ev i)
  else if g = 7 then (SafP.ofIdx x).map .saf
  else if g = 8 then (NetP.ofIdx x).map .net
  else if g = 9 then (HerdP.ofIdx x).map .herd
  else if g = 10 then (JrnP.ofIdx x).map .jrn
  else none

/-- The parameter a key names; none for NO_SUCH_PARAMETER (R319). -/
def keyOf (k : Nat) : Option KeyRef :=
  let g := k / 16777216
  let i := k / 65536 % 256
  let x := k % 65536
  if i < groupInsts g then
    if 0x8000 ≤ x then (blockOf g i x).map .block else (scalarOf g i x).map .scalar
  else none

/-! ## Sparse maps: keys strictly rising, no entry equal to what an unlisted key holds -/

def sget (l : List (Nat × Int)) (k : Nat) : Option Int := (l.find? (fun e => e.1 = k)).map Prod.snd

/-- Remove a key. -/
def sdel : List (Nat × Int) → Nat → List (Nat × Int)
  | [], _ => []
  | e :: r, k => if e.1 = k then r else e :: sdel r k

/-- Set a key, keeping the order. -/
def sput : List (Nat × Int) → Nat → Int → List (Nat × Int)
  | [], k, v => [(k, v)]
  | e :: r, k, v => if k < e.1 then (k, v) :: e :: r else if e.1 = k then (k, v) :: r else e :: sput r k v

/-- Active value of a writable scalar. -/
def State.val (s : State) (p : Par) : Int := (sget s.par p.key).getD (p.dflt 1)

/-- Make a value the active value. The list holds differences from default set 1 (R3). -/
def State.setVal (s : State) (p : Par) (v : Int) : State :=
  { s with par := if v = p.dflt 1 then sdel s.par p.key else sput s.par p.key v }

def State.modp (s : State) (p : ModP) : Int := s.val (.mod p)
/-- The value in force for an owner: the active one, or for an owner that was moving at a safety commit the value it held
then, until its next rest (R94, R229). -/
def State.inForce (s : State) (held : List (Nat × Int)) (p : Par) : Int :=
  match held with
  | [] => s.val p
  | l => (sget l p.key).getD (s.val p)
def State.axp (s : State) (a : Nat) (p : AxP) : Int := s.inForce (s.axis a).held (.ax a p)
def State.dwp (s : State) (d : Nat) (p : DwP) : Int := s.inForce (s.door d).held (.dw d p)
def State.iop (s : State) (n : Nat) (p : IoP) : Int := s.val (.io n p)
def State.fsp (s : State) (f : Nat) (p : FsP) : Int := s.val (.fs f p)
def State.evp (s : State) (e : Nat) (p : EvP) : Int := s.val (.ev e p)
def State.safp (s : State) (p : SafP) : Int := s.val (.saf p)
def State.netp (s : State) (p : NetP) : Int := s.val (.net p)
def State.herdp (s : State) (p : HerdP) : Int := s.val (.herd p)
def State.jrnp (s : State) (p : JrnP) : Int := s.val (.jrn p)

/-- The same as natural numbers, for parameters that are not signed. -/
def State.modN (s : State) (p : ModP) : Nat := (s.modp p).toNat
def State.axN (s : State) (a : Nat) (p : AxP) : Nat := (s.axp a p).toNat
def State.dwN (s : State) (d : Nat) (p : DwP) : Nat := (s.dwp d p).toNat
def State.ioN (s : State) (n : Nat) (p : IoP) : Nat := (s.iop n p).toNat
def State.fsN (s : State) (f : Nat) (p : FsP) : Nat := (s.fsp f p).toNat
def State.evN (s : State) (e : Nat) (p : EvP) : Nat := (s.evp e p).toNat
def State.safN (s : State) (p : SafP) : Nat := (s.safp p).toNat
def State.netN (s : State) (p : NetP) : Nat := (s.netp p).toNat
def State.herdN (s : State) (p : HerdP) : Nat := (s.herdp p).toNat
def State.jrnN (s : State) (p : JrnP) : Nat := (s.jrnp p).toNat

/-- The value a parameter will have at its owner's next rest: pending in the ordinary shadow, else active. -/
def State.coming (s : State) (p : Par) : Int := (sget s.shadow p.key).getD (s.val p)

/-- The value that a safety shadow, or a commit that waits for its exchange, has for a parameter; `sh` is a lane's own safety
shadow (R227 step 3, R229 step 1). -/
def State.committing (s : State) (sh : List (Nat × Int)) (p : Par) : Option Int :=
  match sget sh p.key, s.saf.commit with
  | some v, _ => some v
  | none, some c => sget c.2 p.key
  | none, none => none

/-- The same with the safety shadow over it. -/
def State.comingSafe (s : State) (p : Par) : Int := (s.committing s.safShadow p).getD (s.coming p)

/-- The image of R227 step 3: active RWS values overlaid by the safety shadow; other parameters with their own pending
ordinary shadow value (R324). -/
def State.image (s : State) (p : Par) : Int := s.comingSafe p
/-- The same as Chamois forms it, from its own safety shadow. -/
def State.imageC (s : State) (p : Par) : Int := (s.committing s.saf.shadowC p).getD (s.coming p)

/-! ## Names used everywhere -/

/-- The slot of an axis in its doorway, the doorway of an axis, and the axis of a slot (R17). -/
def slotOf (a : Nat) : Nat := a % 3
def doorOf (a : Nat) : Nat := a / 3
/-- The lifetime counters of an axis and its doorway advance: no event was injected in the present cycle (R333, R463). -/
def counting (s : State) (a : Nat) : Bool := !(s.door (doorOf a)).cycle.injected
def axisOf (d sl : Nat) : Nat := 3 * d + sl

/-- `DW[d].TYPE` codes. -/
def tNone : Int := 0
def tBiparting : Int := 1
def tSingle : Int := 2
def tPlug : Int := 3

/-- Whether a slot is configured for a doorway of a type and step mode (R20). -/
def slotIn (type stepMode : Int) (sl : Nat) : Bool :=
  type ≠ 0 && (sl == 0 || (sl == 1 && type ≠ 2) || (sl == 2 && stepMode ≠ 0))

def State.dtype (s : State) (d : Nat) : Int := s.dwp d .type
def State.slotOn (s : State) (d sl : Nat) : Bool := slotIn (s.dtype d) (s.dwp d .stepMode) sl
/-- Whether an axis is configured (R20). -/
def State.axOn (s : State) (a : Nat) : Bool := s.slotOn (doorOf a) (slotOf a)
/-- Configured axes of a doorway, and its leaf axes. -/
def State.axesOf (s : State) (d : Nat) : List Nat :=
  ([0, 1, 2].filter fun sl => s.slotOn d sl).map fun sl => axisOf d sl
def State.leafAxes (s : State) (d : Nat) : List Nat :=
  ([0, 1].filter fun sl => s.slotOn d sl).map fun sl => axisOf d sl
/-- A doorway configured with a type other than NONE. -/
def State.doorOn (s : State) (d : Nat) : Bool := s.dtype d ≠ 0
def State.hasStep (s : State) (d : Nat) : Bool := s.slotOn d 2

/-- Field group of a pin (R230). -/
def groupOf (n : Nat) : Nat := min (n / 12) 8
def heavy (n : Nat) : Bool := n < 96 && n % 12 < 4

/-! ## Fixed ranges (R320) -/

/-- Value sets with gaps and field rules of single parameters (R129, R99, R247, R352, R459, R460, R471, R377). -/
def setOk (p : Par) (v : Int) : Bool :=
  match p with
  | .ax _ .encFiltNs => v = 0 || v = 10 || v = 20 || v = 40 || v = 80
  | .mod .driveNom => v = 0 || v = 72 || v = 110
  | .mod .flCycleMs => v = 1 || v = 2 || v = 5 || v = 10
  | .net .herdPort => v ≠ 47208 && v ≠ 47209
  | .herd .extRefId => v ≤ 31 || v = 255
  | .ev e .cfg =>
    let j := (v.toNat / 8192) % 4
    j ≠ 3 && !(j = 0 && ((194 ≤ e && e ≤ 196) || (198 ≤ e && e ≤ 201) || e = 204 || e = 206))
      && !((e = 194 || e = 206) && j < 2)
  | .mod (.grazeCfg i) =>
    1 ≤ v.toNat % 256 && v.toNat % 256 ≤ 24 && !(v < 0x8000 && (i ≤ 4 || i = 6))
  | _ => true

/-- Width, fixed bounds and step (R320). -/
def fixedOk (p : Par) (v : Int) : Bool :=
  let i := p.info
  i.lo ≤ v && v ≤ i.hi && v % i.step = 0 && setOk p v

/-- Bits of a value that a write can set; the others are RO and keep 0 (R459, R463, R471). -/
def storeMask (p : Par) (v : Int) : Int :=
  match p with
  | .ev _ .cfg => (v.toNat / 4096 * 4096 : Nat)
  | .ev _ .inj => (v.toNat / 16384 * 16384 : Nat)
  | .mod (.grazeCfg _) => ((v.toNat / 32768) * 32768 + v.toNat % 256 : Nat)
  | _ => v

/-- Whether a value that a host writes is read as signed (R320): where the range includes negative values. -/
def Par.signed (p : Par) : Bool := p.info.lo < 0

/-! ## Relations between parameters (R324) -/

/-- The number of enabled stations fits the cycle in broken mode (R250), in tenths of µs. -/
def linkFits (n cycleMs : Int) : Bool := 2 * (16 + 76 * n) * 4 + 20 * n + 400 ≤ 9000 * cycleMs

def enabledStations (look : Par → Int) : Int :=
  ((List.range 16).map fun f => look (.fs f .enable)).foldl (· + ·) 0

/-- Required configuration of a pin that a sequencer, edge, curtain or home parameter names (R233). -/
def pinIs (look : Par → Int) (n : Nat) (mode owner : Int) : Bool :=
  look (.io n .mode) = mode && (owner < 0 || look (.io n .owner) = owner)

/-- The range of a parameter where it names other parameters; `look` gives every value. -/
def relOk (look : Par → Int) (p : Par) : Bool :=
  match p with
  | .ax a q =>
    let v := look p
    let L := fun r => look (.ax a r)
    match q with
    | .vmax => v * 65536 ≤ 1024000 * L .umPerUstep
    | .vOpen | .vJog | .homeVSearch => v ≤ L .vmax
    | .accOpen | .accClose | .decelQuick | .decelObst | .homeAcc => v ≤ L .amax
    | .jerkOpen | .jerkClose | .jerkQuick | .jerkObst => v ≤ L .jmax
    | .mMax => L .mMin ≤ v
    | .softMin => v < L .softMax
    | .softMax => L .softMin < v
    | .homeVCreep => v ≤ L .homeVSearch
    | .homeEndPos => L .softMin ≤ v && v ≤ L .softMax
    | .homePin =>
      let n := v.toNat
      (groupOf n = doorOf a || groupOf n = 8) && (!(L .homeType = 2 || L .homeType = 3) || pinIs look n 1 (-1))
    | _ => true
  | .dw d q =>
    let v := look p
    let L := fun r => look (.dw d r)
    match q with
    | .vCloseMin => v ≤ L .vApproach
    | .approachPos => L .sealEntry + 1000 ≤ v
    | .sealAbortGap => L .sealGapTol ≤ v
    | .unlockPin | .lockPin => groupOf v.toNat = d && heavy v.toNat && pinIs look v.toNat 2 1
    | .warnPin => groupOf v.toNat = d && pinIs look v.toNat 2 1
    | .edgePin => groupOf v.toNat = d && (L .edgeMode = 0 || pinIs look v.toNat 1 (-1))
    | .curtainPin => groupOf v.toNat = d && (L .curtainMode = 0 || pinIs look v.toNat 1 (-1))
    | _ => true
  | .saf .kscCode => look (.saf .kscConnId) = 0 || look p ≠ 0
  | .saf .kscWdMs => 2 * look (.saf .kscCycleMs) ≤ look p
  | .saf .kscPairUs => 2 * look p ≤ 1000 * look (.saf .kscCycleMs)
  | .saf .kscSeqGap => look p ≤ look (.saf .kscWdMs) / look (.saf .kscCycleMs)
  | .mod .flCycleMs => linkFits (enabledStations look) (look p)
  | .fs _ .enable => linkFits (enabledStations look) (look (.mod .flCycleMs))
  | .net .abDecideMs | .net .logDelayReq =>
    -- twice the Delay_Req interval, 2^n s, in units of 1/8 ms
    2 * 1000 * (2 ^ (look (.net .logDelayReq) + 3).toNat : Int) ≤ 8 * look (.net .abDecideMs)
  | .herd .member | .herd .configMask | .herd .extRefId =>
    bit (look (.herd .configMask)).toNat (look (.herd .member)).toNat &&
      (look (.herd .extRefId) = 255 || !bit (look (.herd .configMask)).toNat (look (.herd .extRefId)).toNat)
  | _ => true

/-- Parameters that are not RWS and whose range names an RWS parameter (R324). -/
def dependents : Par → List Par
  | .ax a .vmax => [.ax a .vOpen, .ax a .vJog, .ax a .homeVSearch]
  | .ax a .amax => [.ax a .accOpen, .ax a .accClose, .ax a .decelQuick, .ax a .decelObst, .ax a .homeAcc]
  | .ax a .jmax => [.ax a .jerkOpen, .ax a .jerkClose, .ax a .jerkQuick, .ax a .jerkObst]
  | .ax a .softMin => [.ax a .homeEndPos]
  | .ax a .softMax => [.ax a .homeEndPos]
  | .ax a .homeType => [.ax a .homePin]
  | .dw d .vApproach => [.dw d .vCloseMin]
  | _ => []

/-- Every writable scalar in ascending key order. -/
def allWritable : List Par :=
  ModP.writable.map .mod
  ++ (List.range 24).flatMap (fun a => AxP.writable.map (.ax a))
  ++ (List.range 8).flatMap (fun d => DwP.writable.map (.dw d))
  ++ (List.range 112).flatMap (fun n => IoP.writable.map (.io n))
  ++ (List.range 16).flatMap (fun f => FsP.writable.map (.fs f))
  ++ (List.range 256).flatMap (fun e => EvP.writable.map (.ev e))
  ++ SafP.writable.map .saf ++ NetP.writable.map .net ++ HerdP.writable.map .herd ++ JrnP.writable.map .jrn

/-- The safety configuration: every RWS parameter in ascending key order (R226). -/
def safetyPars : List Par := allWritable.filter fun p => p.info.acc = .rws

/-- The image as bytes (R226): key and value of each entry. -/
def imageOf (look : Par → Int) : List (Nat × Nat) :=
  safetyPars.map fun p => (p.key, toWord 32 (look p))
def imageBytes (img : List (Nat × Nat)) : Bytes := img.flatMap fun e => le 4 e.1 ++ le 4 e.2
/-- `SAF.CONFIG_CRC` of the active image. -/
def activeCrc (s : State) : Nat := crc32c (imageBytes (imageOf s.val))

/-- Codes of `MOD.MODE` and of the roles (R293). -/
def Mode.code : Mode → Nat
  | .service => 0 | .depot => 1 | .wash => 2 | .maintenance => 3 | .test => 4
def Mode.ofCode (n : Nat) : Mode :=
  if n = 0 then .service else if n = 1 then .depot else if n = 2 then .wash else if n = 3 then .maintenance else .test
def Role.code : Role → Nat
  | .master => 0 | .standby => 1 | .referee => 2 | .member => 3 | .solo => 4

/-- Order of R62, most restrictive first: WASH, SERVICE, DEPOT, TEST, MAINTENANCE. -/
def Mode.rank : Mode → Nat
  | .wash => 0 | .service => 1 | .depot => 2 | .test => 3 | .maintenance => 4

/-- The effective mode of R62: `MOD.MODE`, or the more restrictive of the old and the new mode in the disagreement
window. -/
def State.effMode (s : State) : Mode :=
  match s.herd.oldMode with
  | some o => if o.rank ≤ s.herd.mode.rank then o else s.herd.mode
  | none => s.herd.mode

end Sys2Proof.Machine
end

