-- ==== Sys2Proof/Machine/Journal.lean ====
section
/-! DEFINITION. The journal and the event sources: record framing (R381 to R392), folding and rate limit (R387, R388), region
states (R395 to R399), sealing (R394), raising an event (R458), releasing event tasks (R270), clearing (R303). -/

namespace Sys2Proof.Machine

/-! ## Regions and records -/

/-- Size of a record and capacity of a region (R378). -/
def recSize (r : Nat) : Nat := if r = 0 ∨ r = 4 then 32 else if r = 1 then 64 else 1024
def capacity (r : Nat) : Nat :=
  if r = 0 then 2097152 else if r = 1 then 12582912 else if r = 2 then 131072 else if r = 3 then 32768 else 8192

/-- OLDEST of a region (R379); meaningful where a record exists. -/
def oldest (s : State) (r : Nat) : Nat := (s.region r).next - capacity r
/-- NEWEST as JRN_STATS shows it: 0 while no record exists. -/
def newest (s : State) (r : Nat) : Nat := (s.region r).next - 1

def RegState.code : RegState → Nat
  | .normal => 0 | .degraded => 1 | .failed => 2

def regFailed (s : State) (r : Nat) : Bool := (s.region r).state == .failed
/-- The main store is FAILED (R396 takes regions 0 to 3 together). -/
def storeFailed (s : State) : Bool := regFailed s 0

/-- Module time in ms since the epoch, 0 while it is not valid (R381). -/
def netMs (s : State) : Nat := if s.time.valid then (s.time.ns / 1000000).floor.toNat else 0

/-- Bits 2 to 0 of the FLAGS byte of a record written now to a region (R381, R383). -/
def recFlags (s : State) (r : Nat) : Nat :=
  b2n s.time.valid + 2 * b2n (s.time.trusted ≠ 0 && s.time.valid) +
    4 * b2n (s.time.valid && netMs s < (s.region r).lastTime)

/-- The common header of R381. -/
def recHead (s : State) : Bytes := le 6 s.jrn.opTime ++ le 4 s.jrn.powerCycle ++ le 6 (netMs s)

/-- A record with its final CRC. -/
def sealRec (b : Bytes) : Bytes := b ++ le 4 (crc32c b)

/-- Append a record to a region and hand it to the journal engine's queue (R379, R388). -/
def putRec (r : Nat) (b : Bytes) (s : State) : State :=
  let n := (s.region r).next
  let s := s.modRegion r fun g =>
    { g with next := n + 1, recs := (n, b) :: g.recs.filter (fun e => n < e.1 + capacity r),
             lastTime := if s.time.valid then netMs s else g.lastTime }
  s.modJrn fun j =>
    { j with queue := j.queue ++ [.record r n], queuePeak := max j.queuePeak (min 1024 (j.queue.length + 1)),
             newestTime := max j.newestTime (netMs s),
             caddySince := if r = 4 ∧ j.caddySince = none ∧ (s.region 0).state ≠ .normal then some (n % 4294967296)
                           else j.caddySince }

/-- Replace a record in place (R387). -/
def rewriteRec (r n : Nat) (b : Bytes) (s : State) : State :=
  let s := s.modRegion r fun g => { g with recs := g.recs.map fun e => if e.1 = n then (n, b) else e }
  s.modJrn fun j => { j with queue := j.queue ++ [.record r n],
                             queuePeak := max j.queuePeak (min 1024 (j.queue.length + 1)) }

/-- The record of a number, all bytes 0xFF where its slot is void (R395). -/
def recAt (s : State) (r n : Nat) : Bytes := (get (s.region r).recs n).getD (List.replicate (recSize r) 0xFF)

/-- Set bits of `JRN.STATUS`: 1 DROP_SEEN, 2 SUPPRESS_SEEN, 3 REMAP_SEEN, 4 FAIL_SEEN, 12 CADDY_FAULT (R400). -/
def jrnFlag (i : Nat) (s : State) : State := s.modJrn fun j => { j with status := j.status ||| (1#16 <<< i) }

/-- Regions that an event-record of one of the always-written kinds goes to (R397). -/
def eventRegions (s : State) (caddy : Bool) : List Nat :=
  (if storeFailed s then [] else [0]) ++ (if caddy || (s.region 0).state != .normal then [4] else [])

/-- An event record of a kind other than EVENT (R384, R385): the body is filled to ten bytes. -/
def kindRecord (kind : Nat) (flags : Nat) (body : Bytes) (caddy : Bool) (s : State) : State :=
  (eventRegions s caddy).foldl (fun s r =>
    putRec r (sealRec (recHead s ++ le 1 kind ++ le 1 (recFlags s r + flags) ++ fix 10 body)) s) s

/-! ## Events -/

/-- Whether a source can be raised: not reserved, its doorway or axis configured (R457). -/
def sourceOn (s : State) (e : Nat) : Bool :=
  if e < 96 then s.doorOn (e / 12) else if e < 192 then s.axOn ((e - 96) / 4) else e < 219

/-- The body of an EVENT record (R385). -/
def eventBody (e origin detail rep last : Nat) : Bytes :=
  le 1 e ++ le 1 origin ++ le 4 detail ++ le 2 rep ++ le 2 last

def Events.fold (v : Events) (r : Nat) : Option Fold := if r = 0 then v.foldMain else v.foldCaddy
def Events.setFold (v : Events) (r : Nat) (f : Option Fold) : Events :=
  if r = 0 then { v with foldMain := f } else { v with foldCaddy := f }

/-- Whether a raise folds into the newest record of a region (R387). -/
def folds (s : State) (r e origin detail : Nat) (inj : Bool) : Option Fold :=
  match s.ev.fold r with
  | some f =>
    if (s.region r).next = f.num + 1 ∧ f.source = e ∧ f.origin = origin ∧ f.detail = detail ∧ f.injected = inj
      ∧ bit (s.evN e .cfg) 12 = true ∧ s.jrn.opTime ≤ f.lastAt + 1000 * s.jrnN .foldWindowS ∧ f.repeats < 65535
      ∧ (match (s.region r).sealed with | some k => decide (k < f.num) | none => true) = true
    then some f else none
  | none => none

/-- Fold a raise into the newest record of a region (R387). -/
def foldInto (r : Nat) (f : Fold) (s : State) : State :=
  let f := { f with repeats := f.repeats + 1, lastAt := s.jrn.opTime }
  let old := recAt s r f.num
  let b := old.take 18 ++ eventBody f.source f.origin f.detail f.repeats (sat16 ((f.lastAt - f.firstAt) / 1000))
  (rewriteRec r f.num (sealRec b) s).modEv fun v => v.setFold r (some f)

/-- New records of a source in the present second of operating time (R388). -/
def rateCount (s : State) (e : Nat) : Nat :=
  (s.jrn.rateBy.filter fun x => x.1 = e ∧ s.jrn.opTime < x.2 + 1000).length

/-- A new EVENT record in a region (R384, R388). -/
def newEvent (r e origin detail : Nat) (inj : Bool) (s : State) : State :=
  let sup := getD s.jrn.supBy e 0
  let n := (s.region r).next
  let rep := min 65535 (sup + 1)
  let b := recHead s ++ le 1 0 ++ le 1 (recFlags s r + 8 * b2n inj + 16 * b2n (sup ≠ 0)) ++ eventBody e origin detail rep 0
  (putRec r (sealRec b) s).modEv fun v =>
    v.setFold r (some ⟨n, e, origin, detail, inj, s.jrn.opTime, s.jrn.opTime, rep⟩)

/-- The record of a raise in one region: folded, new, or suppressed. -/
def recordIn (e origin detail : Nat) (inj suppress : Bool) (s : State) (r : Nat) : State :=
  match folds s r e origin detail inj with
  | some f => foldInto r f s
  | none => if suppress then s else newEvent r e origin detail inj s

/-- The regions that record a raise, under the policy of its source (R460, R397). -/
def raiseRegions (s : State) (e origin : Nat) : List Nat :=
  let pol := s.evN e .cfg / 8192 % 4
  if origin = 1 then eventRegions s true else if pol = 0 then [] else eventRegions s (pol == 2)

/-- What a raise leaves beside its records: the count of the suppressed, or the new record in the rate (R386, R388). -/
def noteRaise (e : Nat) (full suppress : Bool) (s : State) : State :=
  if suppress then
    jrnFlag 2 (s.modJrn fun j =>
      { j with suppressed := inc32 j.suppressed, queueDrops := if full then inc32 j.queueDrops else j.queueDrops,
               supBy := put j.supBy e (getD j.supBy e 0 + 1) })
  else
    s.modJrn fun j =>
      { j with supBy := drop_ j.supBy e,
               rateBy := (e, j.opTime) :: j.rateBy.filter fun x => j.opTime < x.2 + 1000 }

/-- Write the record of a raise under the policy of its source (R460, R397, R386, R388). -/
def recordRaise (e origin detail : Nat) (inj : Bool) (s : State) : State :=
  let regs := raiseRegions s e origin
  let isNew := regs.filter fun r => (folds s r e origin detail inj).isNone
  let full := decide (960 ≤ s.jrn.queue.length)
  let tooMany := decide (s.jrnN .eventRate ≤ rateCount s e)
  let suppress := !isNew.isEmpty && (full || tooMany)
  let t := regs.foldl (recordIn e origin detail inj suppress) s
  if isNew.isEmpty then t else noteRaise e full suppress t

/-- Add a trigger to event task k with a tag, or count it as discarded (R270). -/
def pushTrigger (k tag : Nat) (s : State) : State :=
  s.modLogic fun g =>
    let q := vget g.triggers k []
    if q.length < 8 then { g with triggers := vset g.triggers k (q ++ [tag % 65536]) }
    else
      let t := vget g.stats (8 + k) TaskStat.zero
      { g with stats := vset g.stats (8 + k) { t with discarded := inc32 t.discarded } }

/-- Whether the plan's event tasks take triggers: a plan is active and the logic is not stopped. -/
def logicTakes (s : State) : Bool := s.logic.state != .stop && s.logic.active.isSome

/-- The event tasks of the active plan as (number, task). -/
def eventTasks (s : State) : List (Nat × Task) :=
  match s.logic.active with
  | some p => (p.tasks.drop p.nCyclic).zipIdx.map fun x => (x.2, x.1)
  | none => []

/-- Release every event task of a trigger kind whose ARG passes a test (R270). -/
def releaseTasks (mode : Nat) (ok : Nat → Bool) (tag : Nat) (s : State) : State :=
  if logicTakes s then
    (eventTasks s).foldl (fun s x => if x.2.mode = mode ∧ ok x.2.arg = true then pushTrigger x.1 tag s else s) s
  else s

/-- PLAN_EVENT from a leaf-clock point or a compare unit (R52, R147, R270). -/
def planEvent (k tag : Nat) (s : State) : State :=
  if logicTakes s then
    match (eventTasks s).find? (fun x => x.1 = k) with
    | some x =>
      if x.2.mode = 0 then pushTrigger k tag s
      else s.modLogic fun g =>
        let t := vget g.stats (8 + k) TaskStat.zero
        { g with stats := vset g.stats (8 + k) { t with discarded := inc32 t.discarded } }
    | none => s.modLogic fun g =>
        let t := vget g.stats (8 + k) TaskStat.zero
        { g with stats := vset g.stats (8 + k) { t with discarded := inc32 t.discarded } }
  else s

/-- Raise source e (R458): count it, set STICKY, set PENDING and release event tasks where enabled, write its record. An
injected raise sets its bit of the injection vector, a real one clears it (R462). A source that is not configured is not
raised (R457). -/
def raiseBy (e origin detail : Nat) (inj : Bool) (s : State) : State :=
  if sourceOn s e then
    let seq := wrap32 (s.ev.raiseSeq + 1)
    let on := bit (s.evN e .cfg) 15
    let s := s.modEv fun v =>
      { v with raiseSeq := seq, lastRaise := put v.lastRaise e seq, sticky := vset v.sticky e true,
               pending := if on then vset v.pending e true else v.pending,
               injVec := vset v.injVec e inj, raises := inc32 v.raises }
    let s := if on then releaseTasks 1 (fun arg => arg == e) e s else s
    recordRaise e origin detail inj s
  else s

/-- A real raise by Ibex. -/
def raise (e detail : Nat) (s : State) : State := raiseBy e 0 detail false s

def evDoor (d k : Nat) : Nat := 12 * d + k
def evAxis (a k : Nat) : Nat := 96 + 4 * a + k

/-- A real raise of a doorway kind; its lifetime counters (R333, R463) and its marks in the present cycle (R390). -/
def raiseDoor (d k detail : Nat) (inj : Bool) (s : State) : State :=
  if s.doorOn d then
    let s := raiseBy (evDoor d k) 0 detail inj s
    s.modDoor d fun x =>
      { x with
        ltObst := if k = 0 ∧ inj = false ∧ x.cycle.injected = false then inc32 x.ltObst else x.ltObst
        ltSealFails := if k = 1 ∧ inj = false ∧ x.cycle.injected = false then inc32 x.ltSealFails else x.ltSealFails
        cycle := { x.cycle with kinds := x.cycle.kinds ||| (1#12 <<< k),
                                closingKinds := x.cycle.closingKinds ||| (1#12 <<< k),
                                injKinds := if inj then x.cycle.injKinds ||| (1#12 <<< k) else x.cycle.injKinds,
                                closingInj := if inj then x.cycle.closingInj ||| (1#12 <<< k) else x.cycle.closingInj,
                                injected := x.cycle.injected || inj } }
  else s

/-- A raise of an axis kind; an injected one marks the cycle of its doorway (R463). -/
def raiseAxis (a k detail : Nat) (inj : Bool) (s : State) : State :=
  if s.axOn a then
    let s := raiseBy (evAxis a k) 0 detail inj s
    s.modDoor (doorOf a) fun x => { x with cycle := { x.cycle with injected := x.cycle.injected || inj } }
  else s

/-! ## Acknowledging (R303, R459) -/

/-- Whether source e was raised since value r, in serial arithmetic (R459). -/
def raisedSince (s : State) (e r : Nat) : Bool :=
  match get s.ev.lastRaise e with
  | some l => let x := (l + 0x100000000 - r) % 0x100000000; 1 ≤ x && x ≤ 0x80000000
  | none => let x := (0x100000000 - r) % 0x100000000; 1 ≤ x && x ≤ 0x80000000

/-- Whether r counts as greater than the present counter. -/
def ackTooNew (s : State) (r : Nat) : Bool :=
  let x := (r + 0x100000000 - s.ev.raiseSeq) % 0x100000000; 1 ≤ x && x ≤ 0x80000000

/-- Bit e of a mask of 32 bytes. -/
def maskBit (m : Bytes) (e : Nat) : Bool := (lget m (e / 8) 0).getLsbD (e % 8)

/-- The bits that an acknowledgement asks for and that are not cleared. -/
def ackKept (s : State) (r : Nat) (pm sm : Bytes) : List Bool :=
  (List.range 256).map fun e => (maskBit pm e || maskBit sm e) && raisedSince s e r

def ackEvents (r : Nat) (pm sm : Bytes) (s : State) : State :=
  s.modEv fun v =>
    { v with
      pending := Vector.ofFn fun e : Fin 256 =>
        vget v.pending e.val false && !(maskBit pm e.val && !raisedSince s e.val r)
      sticky := Vector.ofFn fun e : Fin 256 =>
        vget v.sticky e.val false && !(maskBit sm e.val && !raisedSince s e.val r) }

def bitBytes (l : List Bool) : Bytes :=
  (List.range (l.length / 8)).map fun i => BitVec.ofNat 8 (ofBits ((l.drop (8 * i)).take 8))

/-! ## Cycle, signature and archive records -/

/-- A cycle record goes to the queue, or is held while the store is failed (R398); the record without its CRC. -/
def putCycle (b : Bytes) (s : State) : State :=
  if regFailed s 1 then
    if 4096 ≤ s.jrn.held.length then jrnFlag 1 (s.modJrn fun j => { j with held := j.held.drop 1 ++ [sealRec b] })
    else s.modJrn fun j => { j with held := j.held ++ [sealRec b] }
  else if 1024 ≤ s.jrn.queue.length then jrnFlag 1 s
  else putRec 1 (sealRec b) s

/-- A signature record is dropped while the store is failed (R398). -/
def putSignature (b : Bytes) (s : State) : State :=
  if regFailed s 2 || 960 ≤ s.jrn.queue.length then jrnFlag 1 s else putRec 2 (sealRec b) s

/-- One fragment of an archive record (R392). -/
def archiveFrag (kind frag frags oldCrc newCrc count : Nat) (data : Bytes) (s : State) : State :=
  putRec 3 (sealRec (recHead s ++ le 1 kind ++ le 1 (recFlags s 3) ++ le 1 frag ++ le 1 frags ++ le 4 oldCrc ++ le 4 newCrc
    ++ le 4 count ++ fix 988 data)) s

/-- An archive record over as many fragments as its data need; `per` bytes of data in each (R392). -/
def archive (kind oldCrc newCrc count per : Nat) (data : Bytes) (s : State) : State :=
  if regFailed s 3 then s else
  let frags := max 1 ((data.length + per - 1) / per)
  each frags (fun s i => archiveFrag kind i frags oldCrc newCrc count ((data.drop (per * i)).take per) s) s

/-! ## Sealing (R394) -/

def allOnes64 : Nat := 0xFFFFFFFFFFFFFFFF

/-- First and last record that a seal covers in a region, and its digest. -/
def sealEntry (s : State) (r : Nat) : Nat × Nat × Bytes :=
  let g := s.region r
  let first := max (match g.sealed with | some k => k + 1 | none => 0) (oldest s r)
  let last := if g.next = 0 then allOnes64 else g.next - 1
  let recs := (List.range (g.next - first)).map fun i => recAt s r (first + i)
  (first, last, sha256 (g.digest ++ recs.flatten))

/-- Seal the journal for a reason: a SEAL archive record, then a SEAL event record (R394). -/
def sealJournal (reason : Nat) (s : State) : State :=
  if regFailed s 3 then s else
  let es := [0, 1, 2, 3].map fun r => (r, sealEntry s r)
  let no := (s.region 3).next
  let num := inc32 s.jrn.sealCount
  let data := le 4 reason ++ es.flatMap fun e => le 8 e.2.1 ++ le 8 e.2.2.1 ++ e.2.2.2
  let s := es.foldl (fun s e =>
    s.modRegion e.1 fun g => { g with digest := e.2.2.2, sealed := if g.next = 0 then g.sealed else some (g.next - 1) }) s
  let s := archive 2 0 0 num 988 data s
  let s := kindRecord 3 0 ([0, 0] ++ le 4 reason ++ le 4 no) false s
  s.modJrn fun j => { j with sealCount := num, lastSeal := no, sealAt := j.opTime }

/-! ## Region states (R395 to R399) -/

/-- Change the state of one region with its JOURNAL_STATE record and its event (R395, R457 E206). -/
def setRegion (r : Nat) (st : RegState) (cause line : Nat) (s : State) : State :=
  let old := (s.region r).state
  if old = st then s else
  let s := s.modRegion r fun g => { g with state := st }
  let s := kindRecord 4 0 (le 1 r ++ le 1 (16 * old.code + st.code) ++ le 1 cause ++ [0] ++ le 4 line) true s
  raise 206 (r + 256 * st.code + 65536 * cause) s

/-- What is stored stays as it is from now on (R398). -/
def keepStored (s : State) : State :=
  s.modBoot fun b =>
    { b with kept := some (b.kept.getD
        { par := s.par, plan := s.logic.active, planBytes := s.logic.activeBytes, sines := s.tab.sines, mode := s.herd.mode,
          axes := s.ax.map Axis.life, doors := s.dw.map Doorway.life, power := s.sup.life }) }

/-- Regions 0 to 3 become FAILED together (R396). -/
def failStore (cause : Nat) (s : State) : State :=
  if storeFailed s then s else
  let s := keepStored s
  let s := s.modJrn fun j => { j with priorStates := (List.range 4).map fun r => (s.region r).state, failRun := 0 }
  let s := jrnFlag 4 s
  each 4 (fun s r => setRegion r .failed cause 0xFFFFFFFF s) s

/-- Recovery of the store after a successful test (R399): former states, held cycle records, a record with cause 6. -/
def recoverStore (s : State) : State :=
  if storeFailed s then
    let prior := s.jrn.priorStates
    let s := each 4 (fun s r => s.modRegion r fun g => { g with state := lget prior r .normal }) s
    let held := s.jrn.held
    let s := held.foldl (fun s b => putRec 1 b s) s
    let s := s.modJrn fun j => { j with held := [], priorStates := [],
                                        caddySince := if (s.region 0).state = .normal then none else j.caddySince }
    let s := each 4 (fun s r =>
      let st := (s.region r).state
      let s := kindRecord 4 0 (le 1 r ++ le 1 (32 + st.code) ++ le 1 6 ++ [0] ++ le 4 0xFFFFFFFF) true s
      raise 206 (r + 256 * st.code + 65536 * 6) s) s
    s
  else s

/-- `JRN.STATUS` as read (R400). -/
def jrnStatus (s : State) : Nat :=
  let degraded := (List.range 4).any fun r => (s.region r).state != .normal
  s.jrn.status.toNat + 32768 * b2n degraded + 16384 * b2n (storeFailed s) + 8192 * b2n ((s.region 0).state != .normal)

/-- Operating time runs with the fabric tick (R382). -/
def advanceOp (us : Nat) (s : State) : State :=
  s.modJrn fun j =>
    let t := j.opTimeUs + us
    { j with opTime := (j.opTime + t / 1000) % 0x1000000000000, opTimeUs := t % 1000 }

end Sys2Proof.Machine
end

