-- ==== Sys2Proof/Machine/Pins.lean ====
section
/-! DEFINITION. Field pins and group supplies (R230 to R246): levels, owner commands, switching, supervision, demagnetisation,
short-to-supply resolution, status words. -/

namespace Sys2Proof.Machine

/-! ## Levels -/

def groupLow (s : State) (g : Nat) : Bool := (s.group g).status.getLsbD 1
def groupMissing (s : State) (g : Nat) : Bool := (s.group g).status.getLsbD 0
/-- A group supply reported LOW or MISSING (R246). -/
def groupBad (s : State) (g : Nat) : Bool := groupLow s g || groupMissing s g

def pinMode (s : State) (n : Nat) : Nat := s.ioN n .mode
def isOutput (s : State) (n : Nat) : Bool := pinMode s n == 2
/-- OUTPUT pin with a given owner (R232). -/
def ownedBy (s : State) (n : Nat) (o : Int) : Bool := isOutput s n && s.iop n .owner == o

/-- LEVEL of a pin (R237, R246): INPUT after INV, OUTPUT as read back and filtered, OFF 0. -/
def pinLevel (s : State) (n : Nat) : Bool :=
  let p := s.pin n
  match pinMode s n with
  | 1 => (p.filt && !groupBad s (groupOf n)) != (s.iop n .inv == 1)
  | 2 => p.filt
  | _ => false

/-- RAW of a pin (R237, R246): the stage output at the last sample, 0 at an INPUT whose group supply is bad. -/
def pinRaw (s : State) (n : Nat) : Bool := (s.pin n).stage && !(pinMode s n == 1 && groupBad s (groupOf n))

/-- `IO[n].VALUE` (R237). -/
def pinValue (s : State) (n : Nat) : Nat :=
  let p := s.pin n
  match pinMode s n with
  | 0 => 0
  | 1 | 2 => b2n (pinLevel s n) + 2 * b2n (pinRaw s n)
  | _ => p.counter

/-! ## Inputs of field stations -/

/-- Substitute values (R254). -/
def substitute (s : State) (f : Nat) : Bytes :=
  let x := s.station f
  if s.fsp f .substMode = 1 then fix 64 x.subst else if x.everRun then x.inputs else zeros 64

/-- The inputs of a station as a field cycle gives them to the plan (R253): the last good ones in RUN and MISSING, else
substitute values. -/
def stationSeen (s : State) (f : Nat) : Bytes :=
  match (s.station f).state with
  | .run | .missing => (s.station f).inputs
  | _ => substitute s f

/-! ## Status -/

/-- A pin held off by a latched bit 7 to 2 (R239), or while its cause is being resolved (R242). -/
def heldOff (p : Pin) : Bool := (p.status &&& 0x8FC#16) != 0

/-- `IO[n].STATUS` as read (R244). -/
def pinStatus (s : State) (n : Nat) : Nat :=
  let p := s.pin n
  let g := groupOf n
  let latched := (p.status &&& 0xFC#16) != 0
  (p.status &&& 0x1AFC#16).toNat + 65536 * p.partner + 32768 * b2n latched + 16384 * b2n (groupLow s g)
    + 8192 * b2n (groupMissing s g) + 1024 * b2n p.cmd + b2n (latched || groupBad s g)

def setBit (w : BitVec 16) (i : Nat) (b : Bool) : BitVec 16 := if b then w ||| (1#16 <<< i) else w &&& ~~~(1#16 <<< i)
def Pin.flag (p : Pin) (i : Nat) (b : Bool) : Pin := { p with status := setBit p.status i b }
def Pin.demag (p : Pin) : Bool := p.status.getLsbD 12

/-! ## Switching -/

/-- Open a conducting switch: an inductive load demagnetises until DEMAG_END (R240). OPEN_LOAD is live, while on only
(R239). A pulse keeps its end, which is counted from its switch-on (R241). -/
def switchOff (n : Nat) (s : State) : State :=
  if (s.pin n).on then
    s.modPin n fun p =>
      { (p.flag 12 (Config.inductive n)).flag 9 false with on := false, stage := false, offAt := s.us, demagUs := s.us }
  else s

/-- Close an open switch. A pulse is counted from its first switch-on (R241). -/
def switchOn (n : Nat) (s : State) : State :=
  if (s.pin n).on then s
  else s.modPin n fun p =>
    { p with on := true, stage := true, onAt := s.us, heldOn := false,
             pulseEnd := match p.pulseW with
               | some w => some (s.us + w)
               | none => p.pulseEnd
             pulseW := none }

/-- The owner's present command of an OUTPUT pin (OUT_CMD of R244). A switch-off cancels a held switch-on and a pulse. -/
def cmdPin (n : Nat) (v : Bool) (s : State) : State :=
  s.modPin n fun p => { p with cmd := v, pulseW := none, pulseEnd := none, heldOn := p.heldOn && v }

/-- A pulse command of a width in µs (R147, R241): the width counts from the switch-on, and a pulse that comes while the
pin already conducts restarts the width. -/
def pulsePin (n : Nat) (us : Nat) (s : State) : State :=
  s.modPin n fun p =>
    if p.on then { p with cmd := true, pulseEnd := some (s.us + us), pulseW := none }
    else { p with cmd := true, pulseW := some us, pulseEnd := none }

/-- What the switch of one OUTPUT pin does at a tick boundary (R238, R241, R246): a logic-owned pin takes its safe value
while the logic is in STOP; in STANDBY every switch is open (R446); a pulse whose end has come clears the
command; the switch follows the command unless the pin is held off, its group has no supply, its load demagnetises or an
off-pulse runs on it (R242). -/
def applyPin (n : Nat) (s : State) : State :=
  if isOutput s n then
    let s := if ownedBy s n 0 && s.logic.state == .stop then s.modPin n fun p => { p with cmd := s.iop n .safeVal == 1 } else s
    let s := if due s (s.pin n).pulseEnd then s.modPin n fun p => { p with cmd := false, pulseEnd := none } else s
    let s := if due s (s.pin n).probeEnd then s.modPin n fun p => { p with probeEnd := none } else s
    let p := s.pin n
    let may := p.cmd && p.probeEnd.isNone && s.sup.powerMode = 0 && !heldOff p && !groupMissing s (groupOf n) && p.modeNext.isNone
    if may then
      if p.demag then s.modPin n fun p => { p with heldOn := true } else switchOn n s
    else switchOff n s
  else s

/-- All pins at a tick boundary (R238). -/
def applyPins (s : State) : State := each 112 (fun s n => applyPin n s) s

/-- A position command (leaf clock, compare unit), applied in the tick in which it fires (R238). -/
def positionPin (n : Nat) (v : Bool) (s : State) : State :=
  if ownedBy s n 2 then applyPin n (cmdPin n v s) else s
def positionPulse (n us : Nat) (s : State) : State :=
  if ownedBy s n 2 then applyPin n (pulsePin n us s) else s

/-- A sequencer command or coil pulse on a pin it owns (R232, R42). -/
def seqPin (n : Nat) (v : Bool) (s : State) : State := if ownedBy s n 1 then cmdPin n v s else s
def seqPulse (n us : Nat) (s : State) : State := if ownedBy s n 1 then pulsePin n us s else s

/-- A host-owned or logic-owned output takes its configured safe value (R238). -/
def safePin (n : Nat) (s : State) : State := cmdPin n (s.iop n .safeVal == 1) s

/-- The samples that a tick shows (R237): the stage output of an INPUT, the readback of an OUTPUT, whose LEVEL takes a value
that has held for the 20 µs of a tick. -/
def samplePin (shown : List (Nat × Bool)) (n : Nat) (s : State) : State :=
  let raw := ((shown.find? fun x => x.1 = n).map Prod.snd).getD (s.pin n).stage
  match pinMode s n with
  | 1 => s.modPin n fun p => { p with stage := raw }
  | 2 => s.modPin n fun p => { p with stage := raw, filt := if raw = p.stage then raw else p.filt }
  | _ => s

def samplePins (m : TickIn) (s : State) : State := each 112 (fun s n => samplePin m.pins n s) s

/-! ## Mode changes (R231) -/

/-- A mode change takes effect: counter and latched bits are cleared. -/
def takeMode (n : Nat) (m : Int) (s : State) : State :=
  let s := { s with probe := s.probe.filter fun e => e.1 ≠ n }
  (s.setVal (.io n .mode) m).modPin n fun p =>
    { p with counter := 0, status := p.status &&& 0x1000#16, partner := 255, cmd := false, on := false,
             modeNext := none, heldOn := false, pulseEnd := none, pulseW := none, probeEnd := none }

/-- A write of `IO[n].MODE`: a conducting output is switched off first and its demagnetisation awaited. -/
def writeMode (n : Nat) (m : Int) (s : State) : State :=
  if isOutput s n && ((s.pin n).on || (s.pin n).demag) then
    (switchOff n s).modPin n fun p => { p with modeNext := some m.toNat, cmd := false }
  else takeMode n m s

/-- The end of a demagnetisation (R240, R241): a mode change that waited takes effect; a held switch-on closes the switch
at the next tick boundary. -/
def endDemag (n : Nat) (s : State) : State :=
  let s := s.modPin n fun p => p.flag 12 false
  match (s.pin n).modeNext with
  | some m => takeMode n m s
  | none => s

/-! ## Supervision (R239, R242, R243) -/

/-- The checks of R239 and R242 run: an OUTPUT pin whose group supply is good and has been for 500 µs (R246). -/
def checked (s : State) (n : Nat) : Bool :=
  isOutput s n && !groupBad s (groupOf n) && (s.group (groupOf n)).recoverAt ≤ s.us

/-- Latch a status bit, hold the pin off and raise the field group event (R239, R457). -/
def pinFault (n bitNo : Nat) (s : State) : State :=
  let s := (s.modPin n fun p => p.flag bitNo true)
  let s := switchOff n s
  raise (208 + groupOf n) (n + 256 * bitNo) s

/-- Two pins wired together: both off, held off, each naming the other (R243). -/
def wirePins (n k : Nat) (s : State) : State :=
  let s := s.modPin n fun p => { p.flag 11 false with partner := k }
  let s := s.modPin k fun p => { p with partner := n }
  pinFault k 6 (pinFault n 6 s)

def shortSupply (n : Nat) (s : State) : State := pinFault n 5 (s.modPin n fun p => p.flag 11 false)

/-- Other OUTPUT pins that conduct, own group first, then ascending (R242). -/
def probeList (s : State) (n : Nat) : List Nat :=
  let c := (List.range 112).filter fun k => k ≠ n ∧ isOutput s k = true ∧ (s.pin k).on = true
  c.filter (fun k => groupOf k = groupOf n) ++ c.filter (fun k => groupOf k ≠ groupOf n)

/-- An open switch whose readback has been high for 100 µs becomes a candidate; coincidence first, then probing. -/
def candidate (n : Nat) (s : State) : State :=
  if checked s n && !(s.pin n).on && !(s.pin n).demag && !(s.pin n).status.getLsbD 11 && (s.pin n).offAt + 500 ≤ s.us then
    let s := s.modPin n fun p => { p.flag 11 true with stage := true, filt := true }
    -- the readback rose 100 µs ago; pins switched on within the 50 µs before that
    let on := (List.range 112).filter fun k =>
      k ≠ n ∧ isOutput s k = true ∧ (s.pin k).on = true ∧ s.us ≤ (s.pin k).onAt + 150 ∧ (s.pin k).onAt + 100 ≤ s.us
    match on with
    | [k] => wirePins n k s
    | _ =>
      let l := probeList s n
      if s.modp .ioProbe = 0 ∨ l = [] then shortSupply n s else { s with probe := s.probe ++ [(n, l)] }
  else s

/-- The candidate whose cause is sought first, and the pins still to pulse for it: those that conduct. -/
def probing (s : State) : Option (Nat × List Nat × List (Nat × List Nat)) :=
  match s.probe with
  | (n, l) :: more => some (n, l.filter (fun k => isOutput s k && (s.pin k).on), more)
  | [] => none

/-- No conducting pin is left to pulse: the candidate is SHORT_SUPPLY (R242 step 3). -/
def settleProbe (s : State) : State :=
  match probing s with
  | some (n, [], more) => if checked s n then shortSupply n { s with probe := more } else s
  | _ => s

/-- One off-pulse of 200 µs on a pin that conducts, at most one per 1 ms, and what the candidate's readback did in it (R242
step 3): low, the two are wired; otherwise the pulsed pin follows its owner again from the pulse's end on. -/
def probeStep (k : Nat) (low : Bool) (s : State) : State :=
  match probing s with
  | some (n, k' :: rest, more) =>
    if k' = k ∧ checked s n = true ∧ s.probeNext ≤ s.us then
      let s := { s with probe := (n, rest) :: more, probeNext := s.us + 1000 }
      if low then wirePins n k { s with probe := more }
      else settleProbe ((switchOff k s).modPin k fun p => { p with probeEnd := some (s.us + 200) })
    else s
  | _ => settleProbe s

/-- Whether the condition of a latched bit is still present (R239, R243). -/
def pinCondition (s : State) (n bitNo : Nat) : Bool :=
  let p := s.pin n
  let high := p.stage && !p.on
  if bitNo = 7 then p.demag
  else if bitNo = 3 then p.hot
  else if bitNo = 5 then high
  else if bitNo = 6 then high || p.on || (let q := s.pin p.partner; q.on || q.stage)
  else false

/-- W1C of one latched bit. Clearing WIRED clears it on both pins (R243). -/
def clearPinBit (n bitNo : Nat) (s : State) : State :=
  if !(s.pin n).status.getLsbD bitNo || pinCondition s n bitNo then s
  else if bitNo = 6 then
    let k := (s.pin n).partner
    let s := s.modPin n fun p => { p.flag 6 false with partner := 255 }
    s.modPin k fun p => { p.flag 6 false with partner := 255 }
  else s.modPin n fun p => p.flag bitNo false

/-- A W1C write of `IO[n].STATUS`. -/
def clearPinStatus (n v : Nat) (s : State) : State :=
  [2, 3, 4, 5, 6, 7].foldl (fun s b => if bit v b then clearPinBit n b s else s) s

/-! ## Group supplies (R245, R246) -/

def Group.flag (g : Group) (i : Nat) (b : Bool) : Group :=
  { g with status := if b then g.status ||| (1#8 <<< i) else g.status &&& ~~~(1#8 <<< i) }

/-- The event tasks of a pin's edge are released with tag n where its level has changed (R235, R270). -/
def levelTasks (n : Nat) (old : Bool) (s : State) : State :=
  let new := pinLevel s n
  if pinMode s n ≠ 1 || old = new then s
  else releaseTasks 2 (fun arg => arg % 256 == n && bit (arg / 256) (if new then 0 else 1)) n s

/-- The levels of a group's inputs follow a change of its supply (R246). -/
def groupLevels (before s : State) (g : Nat) : State :=
  each 112 (fun s n => if groupOf n = g then levelTasks n (pinLevel before n) s else s) s

def supplyMissing (g mV : Nat) (before : State) : State :=
  let s := before
  if mV < 12000 then
    let was := groupMissing s g
    let s := s.modGroup g fun x => { ((x.flag 0 true).flag 1 false) with mV := mV }
    let s := each 112 (fun s n => if groupOf n = g then switchOff n s else s) s
    let s := groupLevels before s g
    if was then s else raise (208 + g) (0xFF + 256) (s.modGroup g fun x => x.flag 2 true)
  else s

def supplyLow (g mV : Nat) (before : State) : State :=
  let s := before
  if mV < 19200 ∧ groupMissing s g = false then
    let was := groupLow s g
    let s := groupLevels before (s.modGroup g fun x => { x.flag 1 true with mV := mV }) g
    if was then s else raise (208 + g) (0xFF + 512) (s.modGroup g fun x => x.flag 3 true)
  else s

def supplyRecovered (g mV : Nat) (before : State) : State :=
  let s := before
  let was := groupBad s g
  let s := s.modGroup g fun x =>
    let x := { x with mV := mV }
    let x := if x.status.getLsbD 0 ∧ 14000 ≤ mV then x.flag 0 false else x
    if x.status.getLsbD 1 ∧ 20400 ≤ mV then x.flag 1 false else x
  let s := groupLevels before s g
  if was && !groupBad s g then s.modGroup g fun x => { x with recoverAt := s.us + 500 } else s

/-! ## Counting and filtered inputs -/

/-- An edge of a counting pin (R236). -/
def countEdge (n : Nat) (rising : Bool) (s : State) : State :=
  let s := s.modPin n fun p => { p with stage := rising }
  let m := pinMode s n
  if groupBad s (groupOf n) then s
  else if m = 4 ∨ (m = 3 ∧ rising = true) then s.modPin n fun p => { p with counter := wrap32 (p.counter + 1) } else s

/-- The filtered stage level of an INPUT pin takes a value (R235). -/
def filteredInput (n : Nat) (level : Bool) (s : State) : State :=
  if pinMode s n = 1 then
    let old := pinLevel s n
    levelTasks n old (s.modPin n fun p => { p with stage := level, filt := level })
  else s.modPin n fun p => if pinMode s n = 0 ∨ pinMode s n = 2 then p else { p with stage := level }

end Sys2Proof.Machine
end

