-- ==== Sys2Proof/Machine/Profile.lean ====
section
/-! DEFINITION. Planning as exact arithmetic (R65 to R79, R87 to R90, R97): speed changes, levels, the closing ceiling, the
force check, stop ramps, cam interpolation. Durations are in µs, positions in µm, speeds in µm/s. -/

namespace Sys2Proof.Machine

/-- A million, to turn µs into s. -/
def mega : Rat := 1000000

def Phase.vAt (p : Phase) (us : Rat) : Rat := let t := us / mega; p.v0 + p.a0 * t + p.jerk * t * t / 2
def Phase.aAt (p : Phase) (us : Rat) : Rat := p.a0 + p.jerk * (us / mega)
def Phase.xAt (p : Phase) (us : Rat) : Rat :=
  let t := us / mega; p.v0 * t + p.a0 * t * t / 2 + p.jerk * t * t * t / 6

def planDur (ps : List Phase) : Rat := ps.foldl (fun t p => t + p.dur) 0
def planDist (ps : List Phase) : Rat := ps.foldl (fun x p => x + p.xAt p.dur) 0

/-- Displacement, velocity and acceleration after a time. -/
def planAt : List Phase → Rat → Rat × Rat × Rat
  | [], _ => (0, 0, 0)
  | p :: r, t =>
    if t < p.dur then (p.xAt t, p.vAt t, p.aAt t)
    else let q := planAt r (t - p.dur); (p.xAt p.dur + q.1, q.2.1, q.2.2)

/-- Scale a path plan to an axis whose travel is a signed share of the leader's (R87). -/
def scalePlan (k : Rat) (ps : List Phase) : List Phase :=
  ps.map fun p => ⟨p.dur, k * p.jerk, k * p.v0, k * p.a0⟩


/-- The largest number up to a bound that passes a test which holds below some number and fails from there on; 0 where
even 1 fails. -/
def largestFrom : Nat → Nat → Nat → (Nat → Bool) → Nat
  | 0, lo, _, _ => lo
  | f + 1, lo, hi, ok =>
    if hi ≤ lo then lo
    else
      let m := (lo + hi + 1) / 2
      if ok m then largestFrom f m hi ok else largestFrom f lo (m - 1) ok
def largest (hi : Nat) (ok : Nat → Bool) : Nat := largestFrom 40 0 hi ok

/-! ## Speed changes and levels (R69, R70) -/

/-- Duration of each jerk phase and of the constant-acceleration phase of a speed change, in s. -/
def changeTimes (dv a j : Rat) : Rat × Rat :=
  if dv ≤ 0 then (0, 0)
  else if a * a / j ≤ dv then (a / j, dv / a - a / j) else (sqrtR (dv / j), 0)

def changeDur (dv a j : Rat) : Rat := let t := changeTimes dv a j; 2 * t.1 + t.2
/-- Distance of a speed change (R69). -/
def changeDist (v1 v2 a j : Rat) : Rat := (v1 + v2) / 2 * changeDur (absR (v2 - v1)) a j

/-- The three phases of a speed change. -/
def changePhases (v1 v2 a j : Rat) : List Phase :=
  let dv := absR (v2 - v1)
  let t := changeTimes dv a j
  let s : Rat := if v2 < v1 then -1 else 1
  if t.1 = 0 then [] else
  -- the jerk that makes the change exact with the rational duration chosen
  let je := dv / (t.1 * (t.1 + t.2))
  let ap := je * t.1
  [⟨t.1 * mega, s * je, v1, 0⟩, ⟨t.2 * mega, 0, v1 + s * je * t.1 * t.1 / 2, s * ap⟩,
   ⟨t.1 * mega, -(s * je), v2 - s * je * t.1 * t.1 / 2, s * ap⟩]

/-- A level over a distance; its duration is rounded to a whole µs (R71). -/
def levelPhase (v dist : Rat) : List Phase :=
  if v ≤ 0 then [] else [⟨((dist / v * mega + 1 / 2).floor : Int), 0, v, 0⟩]

/-- The largest level of R70: a multiple of 1,000 µm/s below a ceiling, else whole µm/s. -/
def fitLevel (ceil : Rat) (fits : Rat → Bool) : Rat :=
  let k := largest (ceil / 1000).floor.toNat fun k => fits (1000 * k)
  if k = 0 then (largest (min 999 ceil.floor.toNat) fun k => fits k : Nat) else (1000 * k : Nat)

/-- A point-to-point move over a distance (R70). -/
def pointPlan (dist v a j : Rat) : List Phase :=
  let u := fitLevel v fun u => 2 * changeDist 0 u a j ≤ dist
  changePhases 0 u a j ++ levelPhase u (dist - 2 * changeDist 0 u a j) ++ changePhases u 0 a j

/-- One stretch of a path with a level of its own (R70, R90): its length, the ceiling of its level, and the acceleration and
jerk that hold in it. -/
structure Seg where
  len : Rat
  ceil : Rat
  acc : Rat
  jerk : Rat

/-- Whether the speed changes at the two ends of a stretch fit in it at a level, beside levels `p` and `n`: a change lies in
the faster of the two stretches, and ends or begins exactly at their border. `k0`, `k1` scale the accelerations. -/
def segFits (g : Seg) (k0 k1 p u n : Rat) : Bool :=
  (if p < u then changeDist p u (g.acc * k0) g.jerk else 0) + (if n < u then changeDist u n (g.acc * k1) g.jerk else 0) ≤ g.len

/-- The largest number of a list of levels at a place, or rest beyond its ends. -/
def levelAt (us : List Rat) (i : Nat) : Rat := lget us i 0
def levelBefore (us : List Rat) (i : Nat) : Rat := if i = 0 then 0 else lget us (i - 1) 0

/-- Lower the levels until every speed change fits (R70, R79): each time the first stretch whose changes do not fit takes the
largest level that does. -/
def fitLevels (segs : List Seg) (ks : List Rat) : Nat → List Rat → List Rat
  | 0, us => us
  | f + 1, us =>
    let fits (i : Nat) (u : Rat) : Bool :=
      segFits (lget segs i ⟨0, 0, 1, 1⟩) (lget ks i 1) (lget ks (i + 1) 1) (levelBefore us i) u (levelAt us (i + 1))
    match (List.range segs.length).find? (fun i => !fits i (levelAt us i)) with
    | none => us
    | some i => fitLevels segs ks f (us.set i (fitLevel (levelAt us i - 1) (fits i)))

/-- The phases of a path: the number of the speed change that a piece is, none for a level. -/
def segPieces (segs : List Seg) (ks us : List Rat) : List (Option Nat × List Phase) :=
  (List.range segs.length).flatMap fun i =>
    let g := lget segs i ⟨0, 0, 1, 1⟩
    let u := levelAt us i
    let p := levelBefore us i
    let n := levelAt us (i + 1)
    let a0 := g.acc * lget ks i 1
    let a1 := g.acc * lget ks (i + 1) 1
    let din := if p < u then changeDist p u a0 g.jerk else 0
    let dout := if n < u then changeDist u n a1 g.jerk else 0
    (if p < u then [(some i, changePhases p u a0 g.jerk)] else []) ++ [(none, levelPhase u (g.len - din - dout))]
      ++ (if n < u then [(some (i + 1), changePhases u n a1 g.jerk)] else [])

/-- A planned path: its pieces and the levels of its stretches. -/
structure SegPlan where
  pieces : List (Option Nat × List Phase)
  levels : List Rat
  segs : List Seg

def SegPlan.phases (p : SegPlan) : List Phase := p.pieces.flatMap Prod.snd
/-- The time span of the speed change of a number. -/
def SegPlan.span (p : SegPlan) (i : Nat) : Option (Rat × Rat) :=
  (p.pieces.foldl (fun (acc : Option (Rat × Rat) × Rat) q =>
    let e := acc.2 + planDur q.2
    (if q.1 = some i then some (acc.2, e) else acc.1, e)) (none, 0)).1

/-- A path of stretches, each at its own level (R70, R90). -/
def segPlan (segs : List Seg) (ks : List Rat) : SegPlan :=
  let segs := segs.filter fun g => 0 < g.len
  let us := fitLevels segs ks 4000 (segs.map fun g => fitLevel g.ceil fun _ => true)
  ⟨segPieces segs ks us, us, segs⟩

/-- A path whose last two stretches are the main and the approach zone (R70, R79): where the approach level would not lie
below the main level, the two run as one. -/
def zonePlan (coupled : List Seg) (main appr : Seg) (ks : List Rat) : SegPlan :=
  let one : SegPlan := segPlan (coupled ++ [⟨main.len + appr.len, minR main.ceil appr.ceil, main.acc, main.jerk⟩]) ks
  if main.len ≤ 0 then segPlan (coupled ++ [appr]) ks
  else if appr.len ≤ 0 then segPlan (coupled ++ [main]) ks
  else if main.ceil ≤ appr.ceil then one
  else
    let p := segPlan (coupled ++ [main, appr]) ks
    let n := p.levels.length
    if levelAt p.levels (n - 2) ≤ levelAt p.levels (n - 1) then one else p

/-! ## Stop ramps (R97) -/

/-- Phases of a ramp from speed v > 0 at constant speed. -/
def rampFromConst (v d j : Rat) : List Phase := changePhases v 0 d j

/-- Phases of a ramp for motion in the positive direction: speed v ≥ 0, acceleration a, deceleration d, jerk j. -/
def rampUp (v a d j : Rat) : List Phase :=
  if v ≤ 0 then []
  else if 0 < a then
    let t := a / j
    ⟨t * mega, -j, v, a⟩ :: rampFromConst (v + a * t - j * t * t / 2) d j
  else if a = 0 then rampFromConst v d j
  else
    let b := -a
    if v ≤ b * b / (2 * j) then
      -- one jerk phase that brings speed and acceleration to 0 together
      [⟨2 * v / b * mega, b * b / (2 * v), v, a⟩]
    else if b ≤ d then
      let full := (2 * d * d - b * b) / (2 * j)
      if full ≤ v then
        let t1 := (d - b) / j
        let v1 := v - b * t1 - j * t1 * t1 / 2
        let th := (v1 - d * d / (2 * j)) / d
        [⟨t1 * mega, -j, v, a⟩, ⟨th * mega, 0, v1, -d⟩, ⟨d / j * mega, j, v1 - d * th, -d⟩]
      else
        let dp := sqrtR ((2 * j * v + b * b) / 2)
        let t1 := (dp - b) / j
        let v1 := v - b * t1 - j * t1 * t1 / 2
        -- the release is taken over the speed left, so that both end at 0
        if dp ≤ 0 then [] else [⟨t1 * mega, -j, v, a⟩, ⟨2 * v1 / dp * mega, dp * dp / (2 * v1), v1, -dp⟩]
    else
      let th := (v - b * b / (2 * j)) / b
      [⟨th * mega, 0, v, a⟩, ⟨b / j * mega, j, v - b * th, a⟩]

/-- Phases of a stop ramp from a signed speed and acceleration. -/
def rampPhases (v a d j : Rat) : List Phase :=
  if 0 ≤ v then rampUp v a d j else scalePlan (-1) (rampUp (-v) (-a) d j)

/-- Cut a profile at a time, keeping the entry of the interrupted phase with its elapsed duration (R72). -/
def cutPlan : List Phase → Rat → List Phase
  | [], _ => []
  | p :: r, t => if t ≤ 0 then [] else if t < p.dur then [{ p with dur := t }] else p :: cutPlan r (t - p.dur)

/-- PLAN after a ramp takes over: at most fifteen entries, the last ones (R72). -/
def joinPlan (ps : List Phase) : List Phase × Bool :=
  if 15 < ps.length then (ps.drop (ps.length - 15), true) else (ps, false)

/-! ## Cam tables (R88 to R90) -/

def camSpacing (c : CamTable) : Rat := ((c.stop - c.start : Int) : Rat) / 255
def camSecant (c : CamTable) (i : Nat) : Rat := (((lget c.slave (i + 1) 0 - lget c.slave i 0) : Int) : Rat) / camSpacing c
/-- Slope at a table point (R89). -/
def camSlope (c : CamTable) (i : Nat) : Rat :=
  if i = 0 then if bit c.flags 0 then 0 else camSecant c 0
  else if i = 255 then if bit c.flags 1 then 0 else camSecant c 254
  else
    let p := camSecant c (i - 1)
    let q := camSecant c i
    if p * q ≤ 0 then 0 else 2 * p * q / (p + q)

/-- Slave position for a master position, held at the ends beyond the table. -/
def camEval (c : CamTable) (x : Rat) : Rat :=
  let h := camSpacing c
  let u := (x - c.start) / h
  if u ≤ 0 then ((lget c.slave 0 0 : Int) : Rat)
  else if 255 ≤ u then ((lget c.slave 255 0 : Int) : Rat)
  else
    let i := u.floor.toNat
    let f := u - i
    let y0 : Rat := ((lget c.slave i 0 : Int) : Rat)
    let d := camSecant c i
    let m0 := camSlope c i
    let m1 := camSlope c (i + 1)
    y0 + h * f * (m0 + f * ((3 * d - 2 * m0 - m1) + f * (m0 + m1 - 2 * d)))

/-- C', C'' and C''' of a segment at a share f of it. -/
def camSegAt (c : CamTable) (i : Nat) (f : Rat) : Rat × Rat × Rat :=
  let h := camSpacing c
  let d := camSecant c i
  let m0 := camSlope c i
  let m1 := camSlope c (i + 1)
  let k2 := 2 * (3 * d - 2 * m0 - m1)
  let k3 := 6 * (m0 + m1 - 2 * d)
  (m0 + k2 * f + k3 * f * f / 2, (k2 + k3 * f) / h, k3 / (h * h))

/-- C', C'' and C''' at a master position; 0 beyond the table, where the slave stands. -/
def camDeriv (c : CamTable) (x : Rat) : Rat × Rat × Rat :=
  let u := (x - c.start) / camSpacing c
  if u < 0 ∨ 255 < u then (0, 0, 0)
  else
    let i := min 254 u.floor.toNat
    camSegAt c i (u - i)

/-- The largest |C'|, |C''| and |C'''| of the part of a segment between two shares. -/
def camPart (c : CamTable) (i : Nat) (f0 f1 : Rat) : Rat × Rat × Rat :=
  let p := camSegAt c i f0
  let q := camSegAt c i f1
  let d := camSecant c i
  let m0 := camSlope c i
  let m1 := camSlope c (i + 1)
  let k2 := 2 * (3 * d - 2 * m0 - m1)
  let k3 := 6 * (m0 + m1 - 2 * d)
  let mid := if k3 = 0 then 0 else let f := -k2 / k3; if f0 < f ∧ f < f1 then absR (camSegAt c i f).1 else 0
  (maxR (maxR (absR p.1) (absR q.1)) mid, maxR (absR p.2.1) (absR q.2.1), absR p.2.2)

/-- The largest |C'|, |C''| and |C'''| between two master positions (R89, per leaf-clock bin of the master). -/
def camMaxIn (c : CamTable) (x0 x1 : Rat) : Rat × Rat × Rat :=
  let u0 := (x0 - c.start) / camSpacing c
  let u1 := (x1 - c.start) / camSpacing c
  let lo := minR u0 u1
  let hi := maxR u0 u1
  (List.range 255).foldl (fun m (i : Nat) =>
    if hi < i ∨ (i : Rat) + 1 < lo then m
    else
      let q := camPart c i (maxR 0 (lo - i)) (minR 1 (hi - i))
      (maxR m.1 q.1, maxR m.2.1 q.2.1, maxR m.2.2 q.2.2)) (0, 0, 0)

/-- Largest values over the whole table (R89). -/
def camMax (c : CamTable) : Rat × Rat × Rat := camMaxIn c (c.start : Int) (c.stop : Int)

/-- Master speed bounds of R90 as a test on a speed. -/
def camSpeedOk (m : Rat × Rat × Rat) (vmax a j v : Rat) : Bool :=
  v * m.1 ≤ vmax && 2 * m.2.1 * v * v ≤ a && 3 * m.2.2 * v * v * v ≤ j

/-- Table checks of R88 and R89. -/
def camOk (c : CamTable) : Bool :=
  let idx := List.range 255
  2550 ≤ absI (c.stop - c.start) && c.flags < 4 && c.slave.length = 256
    && (idx.all (fun i => lget c.slave i 0 ≤ lget c.slave (i + 1) 0) || idx.all (fun i => lget c.slave (i + 1) 0 ≤ lget c.slave i 0))
    && idx.all (fun i => absR (camSecant c i) ≤ 64)

/-! ## The closing ceiling (R74 to R78) -/

/-- What the planner knows of one taking-part axis (R74, R77): mass in 0.1 kg, usable thrust at rest in 0.1 N, V_FORCE0,
VMAX, speed per unit of master speed and friction in 0.1 N per master bin, and the signed travel share. -/
structure AxisModel where
  mass : Rat
  fu0 : Rat
  vForce0 : Rat
  vmax : Rat
  ratio : Nat → Rat
  fric : Nat → Rat
  /-- C' and C'' at a master position: the constant share of a linear axis, the cam's own derivatives -/
  kin : Rat → Rat × Rat

/-- Usable thrust at a speed (R77). -/
def usable (m : AxisModel) (v : Rat) : Rat := m.fu0 * (1 - absR v / m.vForce0)

/-- Speed squared under the energy ceiling: E[mJ] = M[0.1 kg] v² / 2e10. -/
def energyOf (mass v : Rat) : Rat := mass * v * v / 20000000000

/-- Σ m_i r_i(b)² (R74). -/
def mEff (ms : List AxisModel) (b : Nat) : Rat := (ms.map fun m => m.mass * m.ratio b * m.ratio b).foldl (· + ·) 0

/-- Whether a master speed meets the energy, force, axis and configured ceilings in a bin: which fails first, in the
LIMIT codes of R72 (none: it meets all). DESIGN CHOICE (log 68): with F_u0 = 0 the quotient of R77 has no value; the model
takes it as 0, so that the force sets no ceiling. -/
def binLimit (ms : List AxisModel) (ePlan vClose vCloseMin : Rat) (b : Nat) (v : Rat) : Option Nat :=
  if vClose < v then some 0
  else if ePlan < energyOf (mEff ms b) v then some 1
  else if vCloseMin < v ∧ ms.any (fun m => m.ratio b ≠ 0 && m.vForce0 * (1 - m.fric b / m.fu0) < v * m.ratio b) then some 2
  else if ms.any (fun m => m.vmax < v * m.ratio b) then some 3
  else none

def binsOk (ms : List AxisModel) (ePlan vClose vCloseMin : Rat) (bins : List Nat) (v : Rat) : Bool :=
  bins.all fun b => (binLimit ms ePlan vClose vCloseMin b v).isNone

/-- The ceiling of a set of bins, a multiple of 1,000 µm/s (R74). -/
def ceilingOf (ms : List AxisModel) (ePlan vClose vCloseMin : Rat) (bins : List Nat) : Rat :=
  (1000 * largest (vClose / 1000).floor.toNat fun k => binsOk ms ePlan vClose vCloseMin bins (1000 * k) : Nat)

/-- Bin of a position on an axis of a travel (R161). -/
def binOf (travel x : Rat) : Nat := min 127 ((128 * x / travel).floor.toNat)

/-- The force check of R78 at one planned instant: master position, its signed speed and acceleration. -/
def forceOk (ms : List AxisModel) (b : Nat) (x v a : Rat) : Bool :=
  ms.all fun m =>
    let c := m.kin x
    let vs := c.1 * v
    let as := c.2 * v * v + c.1 * a
    -- mass in 0.1 kg times µm/s² gives 1e-7 N; forces are in 0.1 N
    let f := m.mass * as / 1000000 + (if 0 < vs then m.fric b else if vs < 0 then -(m.fric b) else 0)
    absR f ≤ usable m vs

/-- Whether every whole millisecond of a span of the plan passes the force check; `pos` gives the master position at a
displacement, `dir` the sense of the displacement, `bin` the bin of a position. -/
def spanOk (ms : List AxisModel) (ps : List Phase) (pos : Rat → Rat) (dir : Rat) (bin : Rat → Nat) (t0 t1 : Rat) : Bool :=
  let k0 := (t0 / 1000).ceil.toNat
  let k1 := (t1 / 1000).floor.toNat
  (List.range (k1 + 1 - k0)).all fun i =>
    let t : Rat := ((1000 * (k0 + i) : Nat) : Rat)
    let q := planAt ps t
    let x := pos q.1
    forceOk ms (bin x) x (dir * q.2.1) (dir * q.2.2)

/-- The procedure of R78: accelerations in sixteenths of ACC_CLOSE per change, the cap on the main level, and the changes
that are planned at a quarter without further check. The main level stands at place `m` of the levels counted from the end.
The result says whether the main level was lowered. -/
def closingSearch : Nat → (Rat → List Nat → SegPlan) → (SegPlan → Nat → Bool) → (SegPlan → Rat) → Rat → Rat → List Nat →
    List Nat → Bool → SegPlan × Bool
  | 0, mk, _, _, cap, _, acc, _, low => (mk cap acc, low)
  | f + 1, mk, ok, main, cap, vMin, acc, free, low =>
    let p := mk cap acc
    match (List.range 5).find? (fun i => !(free.contains i) && !ok p i) with
    | none => (p, low)
    | some i =>
      if 4 < lget acc i 16 then closingSearch f mk ok main cap vMin (acc.set i (lget acc i 16 - 1)) free low
      else if vMin < main p then
        closingSearch f mk ok main (maxR vMin (main p - 10000)) vMin [16, 16, 16, 16, 16] [] true
      else closingSearch f mk ok main cap vMin acc (i :: free) low

/-- The main level of a closing: the level before the approach, or the last one where the path has no approach level. -/
def mainLevel (n : Nat) (p : SegPlan) : Rat :=
  -- n stretches lie before the main zone
  levelAt p.levels (min n (p.levels.length - 1))

/-- A closing (R70, R74 to R79, R90): the coupled stretches before the main zone, the main and the approach zone. -/
def closingPlan (ms : List AxisModel) (coupled : List Seg) (main appr : Seg) (vMin : Rat) (pos : Rat → Rat) (dir : Rat)
    (bin : Rat → Nat) : SegPlan × Bool :=
  let mk (cap : Rat) (k : List Nat) : SegPlan :=
    zonePlan coupled { main with ceil := minR main.ceil cap } { appr with ceil := minR appr.ceil cap }
      (k.map fun i => (i : Rat) / 16)
  let ok (p : SegPlan) (i : Nat) : Bool :=
    match p.span i with
    | some q => spanOk ms p.phases pos dir bin q.1 q.2
    | none => true
  let top := if main.len ≤ 0 then appr.ceil else main.ceil
  closingSearch 4000 mk ok (mainLevel (coupled.filter fun g => 0 < g.len).length) top (minR vMin top) [16, 16, 16, 16, 16] [] false

end Sys2Proof.Machine
end

