-- ==== Sys2Proof/Machine/Feedback.lean ====
section
/-! DEFINITION. Position feedback (R124 to R150): counting, hysteresis, soft limits, wire check, index, SSI, tracking observer,
latches and compare units. -/

namespace Sys2Proof.Machine

/-! ## Position and status -/

/-- Rounding toward zero. -/
def truncR (x : Rat) : Int := if 0 ≤ x then x.floor else -((-x).floor)
/-- The nearest multiple of 2^-32: the grid on which the running filters of the model keep their values. -/
def onGrid (x : Rat) : Rat := (rnd (x * 4294967296) : Rat) / 4294967296

def Feedback.has (f : Feedback) (i : Nat) : Bool := f.status.getLsbD i
def Feedback.mark (f : Feedback) (i : Nat) (b : Bool) : Feedback := { f with status := setBit f.status i b }

def posValid (s : State) (a : Nat) : Bool := (s.axis a).fb.has 15

/-- µm per count, µm per microstep. -/
def umCount (s : State) (a : Nat) : Rat := (s.axp a .umPerCount : Rat) / 65536
def umStep (s : State) (a : Nat) : Rat := (s.axp a .umPerUstep : Rat) / 65536

/-- Position of a count before rounding, and as shown (R124). -/
def posAt (s : State) (a : Nat) (count : Int) : Rat := (count : Rat) * umCount s a + (s.axis a).fb.posOfs
def posExact (s : State) (a : Nat) : Rat := posAt s a (s.axis a).fb.count
def posUm (s : State) (a : Nat) : Int := truncR (posExact s a)

/-- Observer speed and acceleration as published (R136). -/
def speedOf (s : State) (a : Nat) : Int := truncR (s.axis a).fb.vEst
def accelOf (s : State) (a : Nat) : Int := truncR (s.axis a).fb.aEst

/-- Commanded microstep position. -/
def ustepOf (s : State) (a : Nat) : Int := rnd ((s.axis a).cmd / umStep s a)
/-- The electrical phase of a microstep position (R100). With MOTOR_INV = 1 the position enters with its sign turned and
PHASE_OFS as it stands (DESIGN CHOICE, log 68: R100 says only that the motor runs in the opposite direction). -/
def phaseAt (s : State) (a : Nat) (p : Int) : Nat :=
  (((if s.axp a .motorInv = 1 then -p else p) + ((s.axis a).drive.phaseOfs : Int)) % 1024).toNat
def phaseOf (s : State) (a : Nat) : Nat := phaseAt s a (ustepOf s a)

/-- `AX[a].FB_STATUS` as read (R125). -/
def fbStatus (s : State) (a : Nat) : Nat :=
  let f := (s.axis a).fb
  (f.status &&& 0xA0FF#16).toNat + 16384 * b2n (f.overflow ≠ 0) + 4096 * b2n f.ssiOk

def Drive.energised (d : Drive) : Bool :=
  d.state == .standstill || d.state == .moving || d.state == .stopping || d.state == .safeStopping || d.state == .homing

/-! ## Validity (R126) -/

/-- Clear POS_VALID: armed compare units and latches are cancelled, a parked phase record loses its validity (R116), the
cycle is marked. -/
def clearPosValid (a : Nat) (s : State) : State :=
  if posValid s a then
    let s := s.modFb a fun f =>
      { f.mark 15 false with
        latches := f.latches.map fun l => { l with cfg := l.cfg &&& 0x7FFF#16 }
        cmps := f.cmps.map fun c =>
          if c.cfg.getLsbD 31 then { c with cfg := c.cfg &&& 0x7FFFFFFF#32, status := c.status ||| 8#16 } else c }
    let s := s.modDrive a fun d => if d.state == .parked || d.state == .sto then
      { d with phaseValid := false, commValid := false, commPrev := none } else d
    s.modDoor (doorOf a) fun x => { x with cycle := { x.cycle with posLost := true } }
  else s

/-! ## Counting (R128, R132, R138) -/

/-- One count of hysteresis: the filtered count and its direction after a raw count (R132). -/
def hyst (on : Bool) (r f : Int) (up : Bool) : Int × Bool :=
  if on then
    if up then (if f < r then (r, true) else if r ≤ f - 2 then (r + 1, false) else (f, true))
    else (if r < f then (r, false) else if f + 2 ≤ r then (r - 1, true) else (f, false))
  else (r, up)

/-- First and last count inside the soft limits (R138). -/
def softCounts (s : State) (a : Nat) : Int × Int :=
  let um := umCount s a
  let ofs := (s.axis a).fb.posOfs
  ((((s.axp a .softMin : Rat) - ofs) / um).ceil, (((s.axp a .softMax : Rat) - ofs) / um).floor)

/-- Soft limits bound the count while the position is valid and the axis is not homing (R138), and in the last move of a
homing (R151 step 6). -/
def limitsOn (s : State) (a : Nat) : Bool :=
  (posValid s a && (s.axis a).drive.state != .homing) || (s.axis a).home.phase == .toEnd

/-- The held count and the accumulator for a filtered count (R138), with the event of an excursion. -/
def holdCount (a : Nat) (f : Int) (s : State) : State :=
  let b := (s.axis a).fb
  if limitsOn s a then
    let l := softCounts s a
    let c := max l.1 (min f l.2)
    let excess := f - c
    let fresh := b.overflow = 0 ∧ excess ≠ 0
    let s := s.modFb a fun b => { b with count := c, dup := c, overflow := excess }
    if fresh then raiseAxis a 0 3 false (s.modFb a fun b => b.mark 4 true) else s
  else
    s.modFb a fun b => { b with count := b.count + (f - (b.count + b.overflow)),
                                dup := b.count + (f - (b.count + b.overflow)) }

/-- Raw counts in one direction: hysteresis, then the soft limits. Both counters take the same edges under the same rules
(R124), so the duplicate follows the primary. -/
def addCounts (a : Nat) (n : Int) (s : State) : State :=
  if n = 0 then s else
  let b := (s.axis a).fb
  let r := b.raw + n
  let h := hyst (s.axp a .hyst = 1) r (b.count + b.overflow) b.dirUp
  let tol := s.axp a .indexTol
  let s := s.modFb a fun b =>
    { b with raw := r, rawUp := decide (0 < n), dirUp := h.2, dupRaw := r, dupDirUp := h.2,
             indexSeen := match b.indexSeen with
               | some c => if tol < absI (r - c) then none else some c
               | none => none }
  if h.1 = b.count + b.overflow then s else holdCount a h.1 s

/-- New soft limits, or limits that come into force, act on the present count at once (R139). -/
def applyLimits (a : Nat) (s : State) : State :=
  let b := (s.axis a).fb
  holdCount a (b.count + b.overflow) s

/-- POS_VALID becomes 1: the observer starts at the position, the index reference awaits its first index, a new episode
begins (R126, R136, R141). -/
def setPosValid (a : Nat) (keepIndex : Bool) (s : State) : State :=
  let s := s.modFb a fun b =>
    let b := b.mark 15 true
    { (if keepIndex then b else b.mark 13 false) with episodeRaised := false }
  let s := applyLimits a s
  let x := posExact s a
  s.modFb a fun b => { b with xEst := x, vEst := 0, aEst := 0 }

/-- Raise the encoder event with the status after it (R130, R131, R456). -/
def raiseEncoder (a : Nat) (s : State) : State := raiseAxis a 1 (fbStatus s a % 256) false s

/-- A fault of the A and B signals: a status bit, POS_VALID cleared, the event once in a POS_VALID episode. -/
def abFault (a bitNo : Nat) (s : State) : State :=
  let raised := (s.axis a).fb.episodeRaised
  let s := clearPosValid a (s.modFb a fun b => { b.mark bitNo true with episodeRaised := true })
  if raised then s else raiseEncoder a s

/-- The count of one change of A and B under a mode (R128): none is a quadrature error. -/
def edgeCount (mode : Nat) (e : EncEdge) : Option Int :=
  let ca := e.aBefore != e.aAfter
  let cb := e.bBefore != e.bAfter
  match mode with
  | 0 =>
    if ca && cb then none
    else if ca then some (if e.aAfter != e.bAfter then 1 else -1)
    else if cb then some (if e.bAfter == e.aAfter then 1 else -1)
    else some 0
  | 1 => some (if !e.aBefore && e.aAfter then (if e.bAfter then 1 else -1) else 0)
  | 2 => some (b2i (!e.aBefore && e.aAfter) - b2i (!e.bBefore && e.bAfter))
  | _ => some 0

/-- A pair shows a proper level again: its wire disagreement no longer stands (R125; DESIGN CHOICE, log 24: no rule names
the end of a disagreement, so the next edge or good frame of the pair ends it). -/
def wireGood (a bitNo : Nat) (yes : Bool) (s : State) : State :=
  if yes then s.modFb a fun b => { b with wires := setBit b.wires bitNo false } else s
def wireBad (a bitNo : Nat) (s : State) : State := s.modFb a fun b => { b with wires := setBit b.wires bitNo true }

def effectEncoderEdge (a : Nat) (e : EncEdge) (s : State) : State :=
  let s := wireGood a 0 (e.aBefore != e.aAfter) (wireGood a 1 (e.bBefore != e.bAfter) s)
  if s.axOn a then
    match edgeCount (s.axN a .encMode) e with
    | none => abFault a 3 s
    | some n => addCounts a (if s.axp a .encInv = 1 then -n else n) s
  else s

/-! ## Wire check (R131) -/

def ssiAxisOf (s : State) (d : Nat) : Option Nat :=
  let x := s.dwN d .ssiAxis
  if x < 3 then some (axisOf d x) else none

/-- Every pair in use is watched, also on the port of an axis whose slot is not configured; that axis's events never become
pending (R131, R19). -/
def effectWireDisagreement (a : Nat) (p : WirePair) (s : State) : State :=
  match p with
  | .a => if s.axp a .encMode = 3 then s else abFault a 0 (wireBad a 0 s)
  | .b => if s.axp a .encMode = 3 then s else abFault a 1 (wireBad a 1 s)
  | .z =>
    if s.axp a .indexUse = 1 then
      let was := (s.axis a).fb.has 2
      let s := (wireBad a 2 s).modFb a fun b => (b.mark 2 true).mark 13 false
      if was then s else raiseEncoder a s
    else s
  | .ssi =>
    if ssiAxisOf s (doorOf a) = some a then
      let was := (s.axis a).fb.has 6
      let s := (wireBad a 6 s).modFb a fun b =>
        { b.mark 6 true with ssiOk := false, ssiGoodRun := 0, ssiMisRun := 0,
                             ssiCapture := b.ssiCapture.map fun c => (c.1, false) }
      if was then s else raiseEncoder a s
    else s

/-! ## Moving the coordinates -/

/-- Shift both counters, with the snapshots that refer to them (R143). -/
def shiftCounts (a : Nat) (n : Int) (s : State) : State :=
  s.modFb a fun b =>
    { b with raw := b.raw + n, dupRaw := b.dupRaw + n, count := b.count + n, dup := b.dup + n, snap := b.snap + n,
             prevSnap := b.prevSnap + n, frozen := b.frozen + n, dupFrozen := b.dupFrozen + n, dupPrev := b.dupPrev + n,
             indexSeen := b.indexSeen.map (· + n) }

/-- Target count of a compare position (R146): nearest, ties toward zero. -/
def cmpCount (s : State) (a : Nat) (pos : Int) : Int :=
  let x := ((pos : Rat) - (s.axis a).fb.posOfs) / umCount s a
  if 0 ≤ x then (x - 1 / 2).ceil else -((-x - 1 / 2).ceil)

def Cmp.armed (c : Cmp) : Bool := c.cfg.getLsbD 31
def Cmp.dir (c : Cmp) : Nat := c.cfg.toNat / 0x10000000 % 4
def Cmp.action (c : Cmp) : Nat := c.cfg.toNat / 0x1000000 % 8

def modCmp (a u : Nat) (f : Cmp → Cmp) (s : State) : State :=
  s.modFb a fun b => { b with cmps := vset b.cmps u (f (vget b.cmps u Cmp.reset)) }
def cmpOf (s : State) (a u : Nat) : Cmp := vget (s.axis a).fb.cmps u Cmp.reset

/-! ## Latches (R144, R145) -/

def Latch.armed (l : Latch) : Bool := l.cfg.getLsbD 15
def Latch.edge (l : Latch) : Nat := l.cfg.toNat / 4096 % 4
def Latch.src (l : Latch) : Nat := l.cfg.toNat / 256 % 16

def latchOf (s : State) (a l : Nat) : Latch := vget (s.axis a).fb.latches l Latch.reset
def modLatch (a l : Nat) (f : Latch → Latch) (s : State) : State :=
  s.modFb a fun b => { b with latches := vset b.latches l (f (vget b.latches l Latch.reset)) }

/-- Module time in ns. -/
def nowNs (s : State) : Nat := s.time.ns.floor.toNat
/-- Module time follows a trusted network clock (R341, R347). -/
def timeTrusted (s : State) : Bool := s.time.valid && s.time.trusted ≠ 0

/-- Capture a record (R145) with the position of a count and an age of the observer outputs. -/
def captureLatch (a l : Nat) (count : Int) (ageNs : Nat) (s : State) : State :=
  let t := nowNs s + ageNs
  let pos := truncR (posAt s a count)
  let v := speedOf s a
  let acc := accelOf s a
  let fl := b2n (posValid s a) + 2 * b2n (timeTrusted s) + 8 * b2n ((s.axis a).fb.overflow ≠ 0)
  modLatch a l (fun x =>
    { x with seq := wrap32 (x.seq + 1), pos := pos, speed := v, accel := acc, timeS := t / 1000000000,
             timeNs := t % 1000000000, flags := BitVec.ofNat 8 (fl + 4 * b2n x.unread), source := x.src,
             obsAge := min ageNs 20000, unread := true,
             cfg := if x.cfg.getLsbD 14 && x.src ≠ 0 then x.cfg else x.cfg &&& 0x7FFF#16 }) s

def effectLatchEdge (a l : Nat) (rising : Bool) (ageNs : Nat) (s : State) : State :=
  let x := latchOf s a l
  let edgeOk := x.edge = 3 || x.edge = (if rising then 1 else 2)
  if s.axOn a && x.armed && (x.src = 1 || x.src = 2 || x.src = 4) && edgeOk then
    captureLatch a l (s.axis a).fb.count ageNs s
  else s

/-! ## Compare units (R146 to R150) -/

/-- Advance a periodic unit until its target lies ahead of a count (R149): the new position, and whether it skipped. -/
def advanceCmp (s : State) (a : Nat) (c : Cmp) (snap : Int) : Int × Bool :=
  let sg : Int := if c.dir = 1 then 1 else -1
  let at_ (k : Nat) : Int := cmpCount s a (c.pos + sg * ((k : Int) * c.step))
  let behind (k : Nat) : Bool := if c.dir = 1 then at_ k ≤ snap else snap ≤ at_ k
  let k := largest 4294967295 behind
  (c.pos + sg * (((k + 1 : Nat) : Int) * c.step), 0 < k)

/-- Carry out the action of a unit (R147). -/
def cmpAction (a : Nat) (c : Cmp) (s : State) : State :=
  let op := c.cfg.toNat % 65536
  let n := op % 256
  match c.action with
  | 1 => positionPin n true s
  | 2 => positionPin n false s
  | 3 => positionPulse n (100 * (c.cfg.toNat / 65536 % 256)) s
  | 4 | 5 =>
    let l := c.action - 4
    let x := latchOf s a l
    if x.armed && x.src = 3 then captureLatch a l (s.axis a).fb.snap 0 s else s
  | 6 => planEvent (op / 4096) (op % 4096) s
  | _ => s

/-- A unit fires (R148, R149). -/
def fireCmp (a u : Nat) (s : State) : State :=
  let c := cmpOf s a u
  let snap := (s.axis a).fb.snap
  let cnt := min 255 (c.status.toNat / 256 + 1)
  let adv := advanceCmp s a c snap
  let per := c.cfg.getLsbD 27
  let s := modCmp a u (fun c =>
    { c with
      pos := if per then adv.1 else c.pos
      cfg := if per then c.cfg else c.cfg &&& 0x7FFFFFFF#32
      status := BitVec.ofNat 16 (256 * cnt) ||| (c.status &&& 0xFF#16) ||| 1#16 ||| (if per && adv.2 then 4#16 else 0#16) }) s
  cmpAction a c s

/-- Whether a unit is reached between two snapshots (R149). -/
def cmpReached (c : Cmp) (target prev snap : Int) : Bool :=
  (bit c.dir 0 && prev < target && target ≤ snap) || (bit c.dir 1 && target < prev && snap ≤ target)

/-- The passed-compare check (R150): on arming and after a change of the counts. -/
def recheckCmp (a u : Nat) (s : State) : State :=
  let c := cmpOf s a u
  if c.armed then
    let t := cmpCount s a c.pos
    let snap := (s.axis a).fb.snap
    let v := (s.axis a).cmdV
    let behind :=
      if c.dir = 1 then decide (t ≤ snap)
      else if c.dir = 2 then decide (snap ≤ t)
      else decide (t = snap ∨ (0 < v ∧ t < snap) ∨ (v < 0 ∧ snap < t))
    if behind then
      let s := modCmp a u (fun c => { c with status := c.status ||| 2#16 }) s
      if c.cfg.getLsbD 30 then fireCmp a u s
      else modCmp a u (fun c => { c with cfg := c.cfg &&& 0x7FFFFFFF#32 }) s
    else s
  else s

def recheckCmps (a : Nat) (s : State) : State := each 4 (fun s u => recheckCmp a u s) s

/-- A block written by the host takes effect in the next tick (R29, R146). Arming clears the status and checks the unit; a
unit that fires then does so in step 5, behind the leaf-clock points (R137, R150). A block accepted before POS_VALID clears
or the coordinates are redefined is armed all the same: R126 and R151 cancel armed units, and this one is not armed yet
(DESIGN CHOICE, log 68). -/
def applyCmp (a u : Nat) (n : Int × Nat × BitVec 32) (s : State) : State :=
  recheckCmp a u (modCmp a u (fun c => { c with pos := n.1, step := n.2.1, cfg := n.2.2, next := none,
                                                status := if n.2.2.getLsbD 31 then 0 else c.status }) s)

/-- Step 5 of R137 for one axis, in ascending unit order: units armed in this tick are checked under R150, the others under
R149. -/
def checkCmps (a : Nat) (s : State) : State :=
  each 4 (fun s u =>
    let c := cmpOf s a u
    match c.next with
    | some n => applyCmp a u n s
    | none =>
      if c.armed && cmpReached c (cmpCount s a c.pos) (s.axis a).fb.prevSnap (s.axis a).fb.snap then fireCmp a u s else s) s

/-- Latches with SOURCE HOST are captured in the tick after they were armed (R144). -/
def hostLatches (a : Nat) (s : State) : State :=
  each 2 (fun s l =>
    let x := latchOf s a l
    if x.armed && x.src = 0 then captureLatch a l (s.axis a).fb.snap 0 s else s) s

/-! ## Redefining the coordinates (R151 step 5) -/

/-- The reference count comes to read a position in µm. The commanded position takes the nearest microstep of the measured
one with the electrical phase unchanged; compare units are cancelled and latches disarmed. -/
def redefine (a : Nat) (ref : Int) (um : Int) (s : State) : State :=
  let k := umCount s a
  let c0 := truncR ((um : Rat) / k)
  let ofs := (um : Rat) - (c0 : Rat) * k
  let excess := (s.axis a).fb.overflow
  -- the excess of the accumulator joins the count, then the accumulator is 0
  let s := s.modFb a fun b => { b with count := b.count + excess, dup := b.count + excess, overflow := 0, posOfs := ofs }
  let s := shiftCounts a (c0 - ref) s
  let p0 := ustepOf s a
  let s := s.modAxis a fun x => { x with cmd := (rnd (posExact s a / umStep s a) : Rat) * umStep s a }
  let p1 := ustepOf s a
  let dp : Int := if s.axp a .motorInv = 1 then p1 - p0 else p0 - p1
  let s := s.modDrive a fun d => { d with phaseOfs := (((d.phaseOfs : Int) + dp) % 1024).toNat }
  let x := posExact s a
  let s := s.modAxis a fun x => { x with cmdPrev := x.cmd }
  s.modFb a fun b =>
    { b with
      xEst := x, vEst := 0, aEst := 0
      latches := b.latches.map fun l => { l with cfg := l.cfg &&& 0x7FFF#16 }
      cmps := b.cmps.map fun c =>
        if c.cfg.getLsbD 31 then { c with cfg := c.cfg &&& 0x7FFFFFFF#32, status := c.status ||| 8#16 } else c }

/-! ## Index (R140 to R143) -/

/-- Nearest expected index count (R141). Midway between two of them the one farther from INDEX_POS counts as the nearest
(DESIGN CHOICE, log 68: R141 does not say). -/
def indexExpected (s : State) (a : Nat) (c : Int) : Int :=
  let p := (s.axis a).fb.indexPos
  let n := s.axp a .indexPeriod
  if n = 0 then p else p + n * rnd (((c - p : Int) : Rat) / (n : Rat))

/-- An index mismatch (R142). -/
def indexMismatch (a : Nat) (e : Int) (s : State) : State :=
  let pol := s.axp a .indexPolicy
  if pol = 0 then s
  else
    let s := s.modFb a fun b => { b.mark 5 true with corrPending := if pol = 2 then some e else b.corrPending }
    raiseAxis a 2 (toWord 32 e) false s

/-- A recognised index sets the reference or is checked against it (R141). -/
def takeIndex (a : Nat) (c : Int) (s : State) : State :=
  let b := (s.axis a).fb
  if b.has 13 then
    let e := c - indexExpected s a c
    let s := s.modFb a fun b => { b with indexErr := e }
    if s.axp a .indexTol < absI e then indexMismatch a e s else s
  else if posValid s a then s.modFb a fun b => { b.mark 13 true with indexPos := c }
  else s

/-- Whether a Z edge is recognised as an index (R140, R131). -/
def indexSeenNow (s : State) (a : Nat) (rising : Bool) : Bool :=
  let b := (s.axis a).fb
  s.axOn a && s.axp a .indexUse = 1 && !b.has 2 && rising == b.rawUp && b.indexSeen.isNone

/-- The correction at rest (R143). It fires no unit by the shift itself; a unit with FIRE_IF_PASSED that the re-check finds
behind fires under R150 (DESIGN CHOICE, log 68: R143 says that a correction fires no compare unit and sends the units left
behind to the passed-compare rules, whose second row fires). -/
def correctIndex (a : Nat) (s : State) : State :=
  match (s.axis a).fb.corrPending with
  | none => s
  | some e =>
    let s := s.modFb a fun b => { b with corrPending := none }
    if absI e ≤ s.axp a .indexCorrMax then
      let s := shiftCounts a (-e) s
      let off := absR (posExact s a - (s.axis a).cmd)
      let s := if (s.axp a .parkTol : Rat) * umCount s a < off then clearPosValid a s else s
      recheckCmps a s
    else clearPosValid a s

/-! ## SSI (R133 to R135) -/

/-- Gray code to binary of an n-bit word. -/
def grayDecode : Nat → Nat → Nat
  | 0, _ => 0
  | n + 1, x =>
    -- the bits above bit n are decoded first; bit n is the parity of all bits from n upward
    b2n (((List.range (n + 1)).map fun i => x.testBit i).foldl (· != ·) false) + 2 * grayDecode n (x / 2)

def ssiPos (s : State) (d value : Nat) : Int :=
  let v := value % 2 ^ s.dwN d .ssiBits
  let v := if s.dwp d .ssiCode = 1 then grayDecode (s.dwN d .ssiBits) v else v
  truncR ((v : Rat) * ((s.dwp d .ssiUmPerLsb : Rat) / 65536) + (s.dwp d .ssiOffset : Rat))

/-- A bad frame (R134). -/
def ssiBad (a : Nat) (s : State) : State :=
  let run := (s.axis a).fb.ssiBadRun + 1
  let s := s.modFb a fun b => { b with ssiBadRun := run, ssiGoodRun := 0, ssiMisRun := 0, ssiLast := [] }
  if run = 3 then
    let quiet := (s.axis a).fb.has 6 && !(s.axis a).fb.ssiOk
    let s := s.modFb a fun b => { b.mark 6 true with ssiOk := false }
    -- every clearing of SSI_OK raises the event
    if quiet then s else raiseEncoder a s
  else s

def effectSsiStart (d : Nat) (dataLow : Bool) (s : State) : State :=
  match ssiAxisOf s d with
  | none => s
  | some a =>
    if dataLow then ssiBad a (s.modFb a fun b => { b with ssiCapture := none })
    else s.modFb a fun b => { b with ssiCapture := some (b.count, true) }

/-- A good frame against the position at its capture (R135). -/
def ssiCompare (a d : Nat) (pos : Int) (count : Int) (s : State) : State :=
  if (s.axis a).fb.ssiOk && posValid s a then
    let diff := pos - truncR (posAt s a count)
    if s.dwp d .ssiTol < absI diff then
      let run := (s.axis a).fb.ssiMisRun + 1
      let s := s.modFb a fun b => { b with ssiMisRun := run }
      if run = 3 then
        let s := clearPosValid a (s.modFb a fun b => b.mark 7 true)
        raiseAxis a 2 (0x80000000 + toWord 31 diff) false s
      else s
    else s.modFb a fun b => { b with ssiMisRun := 0 }
  else s.modFb a fun b => { b with ssiMisRun := 0 }

/-- The judgement of a frame: `none` where no frame was started; its SSI position and count where it was good. -/
def takeSsi (d value status : Nat) (wireBad : Bool) (s : State) : State × Option (Nat × Int × Int) :=
  match ssiAxisOf s d with
  | none => (s, none)
  | some a =>
    match (s.axis a).fb.ssiCapture with
    | none => (s, none)
    | some (count, clean) =>
      let s := s.modFb a fun b => { b with ssiCapture := none }
      let s := wireGood a 6 (!wireBad) s
      if status % 2 ^ s.dwN d .ssiStatBits ≠ 0 || wireBad || !clean then (ssiBad a s, none)
      else
        let pos := ssiPos s d value
        let run := (s.axis a).fb.ssiGoodRun + 1
        let s := s.modFb a fun b =>
          { b with ssiGoodRun := run, ssiBadRun := 0, ssiOk := b.ssiOk || 3 ≤ run, ssiLast := (pos :: b.ssiLast).take 3 }
        (ssiCompare a d pos count s, some (a, pos, count))

/-! ## Observer (R136) -/

/-- 2π to nineteen digits. -/
def twoPi : Rat := 6283185307179586477 / 1000000000000000000

/-- One update over 20 µs. -/
def observe (bw : Int) (x : Rat) (b : Feedback) : Feedback :=
  let t : Rat := 1 / 50000
  let w := twoPi * bw
  let e := x - b.xEst
  let a := onGrid (b.aEst + t * w * w * w * e)
  let v := onGrid (b.vEst + t * (a + 3 * w * w * e))
  { b with aEst := a, vEst := v, xEst := onGrid (b.xEst + t * (v + 3 * w * e)) }

/-- The snapshot and the observer update of one tick (steps 2 and 3 of R137). -/
def tickFeedback (a : Nat) (s : State) : State :=
  let x := posExact s a
  let bw := s.axp a .obsBwHz
  s.modFb a fun b => observe bw x { b with prevSnap := b.snap, snap := b.count }

/-! ## Clearing status (R125) -/

/-- W1C of `AX[a].FB_STATUS`: a bit whose condition is still present stays: a wire disagreement (WIRE_A, WIRE_B, WIRE_Z,
SSI_FRAME_ERR), the accumulator (SOFT_LIMIT), bad frames of the SSI port (SSI_FRAME_ERR). -/
def clearFbStatus (a v : Nat) (s : State) : State :=
  let b := (s.axis a).fb
  let stay (i : Nat) : Bool := b.wires.getLsbD i || (i = 4 && b.overflow ≠ 0) || (i = 6 && 3 ≤ b.ssiBadRun)
  (List.range 8).foldl (fun s i => if bit v i && !stay i then s.modFb a fun b => b.mark i false else s) s

end Sys2Proof.Machine
end

