-- ==== Sys2Proof/Machine/Motion.lean ====
section
/-! DEFINITION. Moves (R65 to R98): what a move starts with, single and path moves, closings under the ceiling, cam coupling,
stop ramps, the commanded position of a tick, shadow values at rest, mass and friction identification. -/

namespace Sys2Proof.Machine

/-! ## Rest, current -/

/-- At rest for the planner (R92). -/
def atRest (s : State) (a : Nat) : Bool :=
  let d := (s.axis a).drive
  match d.state with
  | .standstill | .parked | .disabled | .fault => true
  | .sto => d.stoDone
  | _ => false

/-- A leaf, swing or slide axis. -/
def isLeaf (a : Nat) : Bool := slotOf a < 2
/-- A leaf or swing axis, to which the closing limits of R76, R81 and R209 apply: not the slide of a plug doorway. -/
def leafOrSwing (s : State) (a : Nat) : Bool := isLeaf a && !(s.dtype (doorOf a) = tPlug && slotOf a = 1)

/-- I_F of R76 in units of 31.25 mA (R105). -/
def closingCurrent (s : State) (a : Nat) : Nat := (s.dwp (doorOf a) .fcap * 32 / s.axp a .kf).toNat

/-- The applied current for a selected current in mA, in units of 31.25 mA: the least of the selected current under the
derating factor and the closing limit (R105, R107). -/
def appliedUnits (sel derate : Nat) (iF : Option Nat) : Nat :=
  let u := sel * 32 * derate / 10000000
  match iF with
  | some f => min u f
  | none => u

/-- Select a current (R106). -/
def selectCurrent (a mA : Nat) (s : State) : State :=
  s.modAxis a fun x =>
    { x with drive := { x.drive with iSel := mA, iApplied := appliedUnits mA x.drive.derate x.snap.iF } }

/-! ## Planning inputs -/

/-- Planning mass in 0.1 kg (R84). -/
def planMass (s : State) (a : Nat) : Int :=
  let l := (s.axis a).learned
  if l.massValid then l.mass else s.axp a .mMax

/-- The current of the force model in A (R77, R107). -/
def modelCurrent (s : State) (a : Nat) : Rat :=
  let f : Rat := (closingCurrent s a : Rat) / 32
  let k : Rat := ((s.axis a).drive.derate : Rat) / 10000 * (s.axp a (.iLevel 0) : Rat) / 1000
  minR f k

/-- F_u0 in 0.1 N (R77). -/
def usable0 (s : State) (a : Nat) : Rat := (s.axp a .fUsablePct : Rat) / 100 * (s.axp a .kf : Rat) * modelCurrent s a

def optMax (x y : Option Rat) : Option Rat :=
  match x, y with
  | some p, some q => some (maxR p q)
  | some p, none => some p
  | none, q => q

/-- Friction of a bin as the planner uses it, in 0.1 N (R85). -/
def fricOf (s : State) (a b : Nat) : Rat :=
  let l := (s.axis a).learned
  let at_ (i : Nat) : Option Rat := optMax (vget l.fricOpen i none) (vget l.fricClose i none)
  match at_ b with
  | some f => f
  | none =>
    match (List.range 128).foldl (fun m i => optMax m (at_ i)) none with
    | some f => f
    | none => usable0 s a * 2 / 5

/-- Own bins of an axis while the master lies in a bin (R74), with the largest friction in them. -/
def fricOver (s : State) (a : Nat) (own : Rat → Rat) (travelM : Rat) (b : Nat) : Rat :=
  let t : Rat := (s.axp a .travel : Rat)
  let x0 := own (travelM * b / 128)
  let x1 := own (travelM * (b + 1) / 128)
  let lo := binOf t (minR x0 x1)
  -- the upper end belongs to the next bin
  let hiX := maxR x0 x1
  let hi := if (128 * hiX / t).floor = 128 * hiX / t ∧ lo < binOf t hiX then binOf t hiX - 1 else binOf t hiX
  (List.range (hi + 1 - lo)).foldl (fun m i => maxR m (fricOf s a (lo + i))) (fricOf s a lo)

/-- The cam table in force. -/
def camAt (s : State) (t : Nat) : Option CamTable := vget s.tab.cams t none

/-! ## The envelope (R162, R163) -/

def meanL (l : List Rat) : Rat := if l = [] then 0 else l.foldl (· + ·) 0 / (l.length : Rat)
/-- Population standard deviation. -/
def spreadL (l : List Rat) : Rat :=
  let m := meanL l
  if l.length ≤ 1 then 0 else sqrtR ((l.map fun x => (x - m) * (x - m)).foldl (· + ·) 0 / (l.length : Rat))

/-- Whether a bin is judged by the flat teaching limit. -/
def flatLimit (s : State) (a : Nat) (b : EnvBin) : Bool := (s.door (doorOf a)).learn ≠ 2 || b.window = []

/-- Limit of a bin in 0.1 N. -/
def envLimit (s : State) (a : Nat) (b : EnvBin) : Rat :=
  if flatLimit s a b then (s.axp a .envTeachLimit : Rat)
  else
    let m0 : Rat := (s.axp a .envMargin : Rat)
    b.ref + minR (2 * m0) (maxR m0 ((s.axp a .envK : Rat) / 10 * spreadL b.window))

/-- The limits of all bins in a direction of travel, as a move takes them with it (R162). -/
def envLimits (s : State) (a : Nat) (closing : Bool) : List Rat :=
  let l := (s.axis a).learned
  (if closing then l.envClose else l.envOpen).toList.map fun b => envLimit s a b

/-! ## The bins of a move (R161) -/

/-- A move toward 0. -/
def Axis.inward (x : Axis) : Bool := decide ((x.plan.endPos : Rat) < x.plan.startPos)

/-- Two stays of a move in one bin are one. -/
def BinRun.join (r q : BinRun) : BinRun :=
  { r with peak := maxR r.peak q.peak, sum := r.sum + q.sum, n := r.n + q.n, fricSum := r.fricSum + q.fricSum,
           fricAcc := r.fricAcc + q.fricAcc, fricN := r.fricN + q.fricN }

/-- A bin enters a list that holds each bin once. -/
def addRun (l : List BinRun) (r : BinRun) : List BinRun :=
  match l.find? fun q => q.bin = r.bin with
  | some q => r.join q :: l.filter fun q => q.bin ≠ r.bin
  | none => r :: l

/-- The axis leaves a bin: it is published and its peak shown as that of the last move (R161, R166). -/
def publishBin (r : BinRun) (x : Axis) : Axis :=
  let bins := addRun x.det.bins r
  let peak := match bins with | q :: _ => q.peak | [] => r.peak
  let put_ (v : Vector EnvBin 128) : Vector EnvBin 128 :=
    vset v r.bin { vget v r.bin EnvBin.empty with lastPeak := peak }
  { x with det := { x.det with curBin := none, bins := bins }
           learned := if x.inward then { x.learned with envClose := put_ x.learned.envClose }
                      else { x.learned with envOpen := put_ x.learned.envOpen } }

/-- The move of an axis ends: its last bin is published, and a move of the sequencer adds its bins to those of the cycle. -/
def closeBins (x : Axis) : Axis :=
  let x := match x.det.curBin with
    | some r => publishBin r x
    | none => x
  if x.by_ != .sequencer then x
  else if x.inward then { x with cycClose := x.det.bins.foldl addRun x.cycClose }
  else { x with cycOpen := x.det.bins.foldl addRun x.cycOpen }

/-- One raw friction value enters a bin (R85), in 0.1 N. -/
def newFric (old : Option Rat) (raw : Rat) : Rat :=
  match old with
  | none => raw
  | some f => if f + maxR (f / 10) 20 < raw then raw else f + (raw - f) / 4

/-- The raw friction of a bin: the mean of F - m × a over its samples, in the sign that opposes motion (R85), with the mass
that AX.MASS holds now (DESIGN CHOICE, log 67: R85 names no moment for the mass). -/
def rawFric (mass : Int) (b : BinRun) : Rat := (b.fricSum - (mass : Rat) * b.fricAcc / 1000000) / (b.fricN : Rat)

/-- The friction values of an opening that has ended, or of the closing of a cycle (R85). An opening gives them with the mass
known only. -/
def learnFric (opening : Bool) (x : Axis) : Axis :=
  if opening && !x.learned.massValid then x else
  let bins := (if opening then x.det.bins else x.cycClose).filter fun b => 0 < b.fricN
  let put_ (v : Vector (Option Rat) 128) : Vector (Option Rat) 128 :=
    bins.foldl (fun v b => vset v b.bin (some (newFric (vget v b.bin none) (rawFric x.learned.mass b)))) v
  { x with learned := if opening then { x.learned with fricOpen := put_ x.learned.fricOpen }
                      else { x.learned with fricClose := put_ x.learned.fricClose } }

/-! ## Starting -/

/-- What one axis starts a move with. -/
structure Go where
  kind : MoveKind
  phases : List Phase
  target : Int
  by_ : MoveBy
  limit : Nat
  leader : Bool
  fromQueue : Bool
  byPoint : Bool
  v : Int
  acc : Int
  jerk : Int
  closing : Bool
  path : List Nat
  ratio : Rat
  camOf : Option (Nat × Nat)

/-- Back-EMF measurement is active in a move that starts now (R119). -/
def bemfAtStart (x : Axis) (by_ : MoveBy) (kind : MoveKind) : Bool :=
  kind == .homing || by_ == .graze || x.drive.recovery.isSome || 0 < x.drive.laLeft

/-- A move starts on one axis (R72, R94, R106, R111); `again` forms a start anew that the fabric has not taken yet (R29). -/
def go (again : Bool) (a : Nat) (g : Go) (s : State) : State :=
  let d := doorOf a
  let lags := (s.axis a).det.lags
  let lag0 : Rat := if lags = [] then 0 else lags.foldl (· + ·) 0 / (lags.length : Rat)
  let mA := if g.kind == .homing then s.axN a .homeI else s.axN a (.iLevel 0)
  let bemf := bemfAtStart (s.axis a) g.by_ g.kind
  let cnt := counting s a && !again
  let snap : Snap :=
    { v := g.v, acc := g.acc, jerk := g.jerk, decQuick := s.axp a .decelQuick, jerkQuick := s.axp a .jerkQuick,
      decObst := s.axp a .decelObst, jerkObst := s.axp a .jerkObst, kf := s.axp a .kf, mass := planMass s a,
      devWin := s.axp a .devWin, closing := g.closing, iF := if g.closing then some (closingCurrent s a) else none,
      derate := (s.axis a).drive.derate, ecap := s.dwp d .ecap,
      envLim := envLimits s a (decide ((g.target : Rat) < (s.axis a).cmd)) }
  let s := s.modAxis a fun x =>
    { x with
      plan := { seq := if again then x.plan.seq else wrap32 (x.plan.seq + 1), kind := g.kind, base := g.kind, limit := g.limit, leader := g.leader,
                camSlave := g.camOf.isSome, fromQueue := g.fromQueue, byPoint := g.byPoint, startPos := x.cmd,
                endPos := g.target, phases := g.phases }
      snap := snap, elapsed := some 0, devUntil := none, by_ := g.by_, ramp := none, armed := if again then x.armed else none, lcFired := 0,
      closeLims := if g.kind == .closing then snap.envLim else x.closeLims
      closeMass := if g.kind == .closing then snap.mass else x.closeMass
      camOf := g.camOf, path := g.path, ratio := g.ratio, ltMoves := if cnt then inc32 x.ltMoves else x.ltMoves
      drive := { x.drive with state := if g.kind == .homing then .homing else .moving, holdAt := none, laPrev := none,
                               ramp := match x.drive.ramp with | some (.hold, _) => none | r => r }
      det := { x.det with lag0 := lag0, curBin := none, bins := [], regr := Regr.empty, along := [],
                          envTicks := 0, envDone := false, devTicks := 0, devDone := false } }
  let s := selectCurrent a mA s
  s.modDoor d fun x => { x with moved := true, cycle := { x.cycle with bemf := x.cycle.bemf || bemf } }

/-! ## Path moves (R87) -/

/-- The signed travel of each axis to its target; axes already there take no part. -/
def travels (s : State) (ms : List (Nat × Int)) : List (Nat × Rat) :=
  (ms.map fun m => (m.1, (m.2 : Rat) - (s.axis m.1).cmd)).filter fun m => m.2 ≠ 0

def longest (l : List (Nat × Rat)) : Rat := l.foldl (fun m x => maxR m (absR x.2)) 0
def leaderOf (l : List (Nat × Rat)) : Nat :=
  match l.find? (fun x => absR x.2 = longest l) with
  | some x => x.1
  | none => 0

def minL (l : List Rat) (d : Rat) : Rat :=
  match l with
  | [] => d
  | x :: r => r.foldl minR x

/-- Path limits: the least of each axis's value divided by its share (R87). -/
def pathMin (l : List (Nat × Rat)) (f : Nat → Int) : Rat :=
  let m := longest l
  minL (l.map fun x => (f x.1 : Rat) * m / absR x.2) 1

/-- Master limits over an interval coupled through a cam table (R90): speed cap, acceleration and jerk. -/
structure CamLimits where
  c1 : Rat
  c2 : Rat
  c3 : Rat
  vmax : Rat
  acc : Rat
  jerk : Rat
  /-- the ends of the interval in master positions -/
  lo : Rat
  hi : Rat

def camLimitsOf (s : State) (slave t : Nat) (acc jerk : Int) : Option CamLimits :=
  (camAt s t).map fun c =>
    let m := camMax c
    ⟨m.1, m.2.1, m.2.2, (s.axp slave .vmax : Rat), (acc : Rat), (jerk : Rat), minR (c.start : Rat) (c.stop : Rat),
      maxR (c.start : Rat) (c.stop : Rat)⟩

/-- Largest whole master speed that keeps the slave inside its limits. -/
def CamLimits.speed (l : CamLimits) (v : Rat) : Rat :=
  (largest v.floor.toNat fun k => camSpeedOk (l.c1, l.c2, l.c3) l.vmax l.acc l.jerk (k : Rat) : Nat)
def CamLimits.accAt (l : CamLimits) (a v : Rat) : Rat :=
  let x := if l.c1 = 0 then a else minR a (l.acc / (2 * l.c1))
  if l.c2 * v = 0 then x else minR x (l.jerk / (9 * l.c2 * v))
def CamLimits.jerkAt (l : CamLimits) (j : Rat) : Rat := if l.c1 = 0 then j else minR j (l.jerk / (3 * l.c1))

/-- The coupled interval as a stretch of its own (R90). -/
def CamLimits.seg (l : CamLimits) (len v a j : Rat) : Seg :=
  let vc := l.speed v
  ⟨len, vc, l.accAt a vc, l.jerkAt j⟩

/-- Lengths of a way from x0 to x1 before, inside and behind an interval. -/
def splitWay (x0 x1 lo hi : Rat) : Rat × Rat × Rat :=
  let len := absR (x1 - x0)
  let before := minR len (maxR 0 (if x0 ≤ x1 then lo - x0 else x0 - hi))
  let inside := minR (len - before) (maxR 0 (minR (maxR x0 x1) hi - maxR (minR x0 x1) lo))
  (before, inside, len - before - inside)

/-- A planned path: phases for a travel of the leader in the positive sense, LIMIT, planned energy and mass. -/
structure PathPlan where
  phases : List Phase
  limit : Nat
  energy : Int
  mass : Int
  slow : Bool

/-- A path without a closing ceiling, from master position x0 to x1 (R70, R90). -/
def openPlan (x0 x1 v a j : Rat) (cam : Option CamLimits) : PathPlan :=
  let short (p : SegPlan) : Bool := p.levels.foldl maxR 0 < ((v / 1000).floor : Int) * 1000
  match cam with
  | none =>
    let p := segPlan [⟨absR (x1 - x0), v, a, j⟩] []
    ⟨p.phases, if short p then 5 else 0, 0, 0, false⟩
  | some c =>
    let w := splitWay x0 x1 c.lo c.hi
    let g := c.seg w.2.1 v a j
    let p := segPlan [⟨w.1, v, a, j⟩, g, ⟨w.2.2, v, a, j⟩] []
    ⟨p.phases, if 0 < w.2.1 ∧ g.ceil < v then 4 else if short p then 5 else 0, 0, 0, false⟩

/-- The bins of the master that a path between x0 and x1 crosses, above and below `APPROACH_POS` (R74). -/
def pathBins (travel x0 x1 ap : Rat) : List Nat × List Nat :=
  let w := travel / 128
  let bs := (List.range 128).filter fun (b : Nat) =>
    let lo : Rat := w * (b : Rat)
    let hi : Rat := lo + w
    (minR x0 x1 < hi || b = 127) && (lo < maxR x0 x1 || b = 0)
  (bs.filter (fun b => ap < w * ((b : Rat) + 1) || b = 127), bs.filter (fun b => w * (b : Rat) < ap))

/-- The planning model of one taking-part axis: its own position at a master position, its share and its derivatives. -/
def axisModel (s : State) (a : Nat) (travel : Rat) (own : Rat → Rat) (ratio : Nat → Rat) (kin : Rat → Rat × Rat) :
    AxisModel :=
  ⟨(planMass s a : Rat), usable0 s a, (s.axp a .vForce0 : Rat), (s.axp a .vmax : Rat), ratio, fricOver s a own travel, kin⟩

/-- Highest energy of a plan over the bins of the master that each stretch crosses (R75). -/
def planEnergy (ms : List AxisModel) (travel x0 dir : Rat) (p : SegPlan) : Rat :=
  ((p.segs.zip p.levels).foldl (fun (acc : Rat × Rat) g =>
    let x := acc.1 + dir * g.1.len
    let bs := pathBins travel acc.1 x 0
    (x, (bs.1 ++ bs.2).foldl (fun e b => maxR e (energyOf (mEff ms b) g.2)) acc.2)) (x0, 0)).2

/-- A closing along its path (R74 to R79, R90): the axes with their signed travels, the cam slave and the requested speed.
A path whose leading axis moves away from 0 has one zone, under the ceilings of all its bins (DESIGN CHOICE, log 69). -/
def closePlan (s : State) (d : Nat) (l : List (Nat × Rat)) (slave : Option (Nat × Nat)) (vClose : Rat)
    (acc jerk : Nat → Int) : PathPlan :=
  let m := leaderOf l
  let way := ((l.find? fun x => x.1 = m).map Prod.snd).getD 1
  let dir : Rat := if way < 0 then -1 else 1
  let x0 := (s.axis m).cmd
  let x1 := x0 + way
  let travel : Rat := (s.axp m .travel : Rat)
  let linear := (l.filter fun x => isLeaf x.1).map fun x =>
    let r := x.2 / way
    axisModel s x.1 travel (fun p => (s.axis x.1).cmd + (p - x0) * r) (fun _ => absR r) (fun _ => (r, 0))
  let coupled : List AxisModel :=
    match slave.bind fun q => (camAt s q.2).map fun c => (q.1, c) with
    | some (b, c) =>
      [axisModel s b travel (camEval c) (fun i => (camMaxIn c (travel * i / 128) (travel * (i + 1) / 128)).1)
        (fun x => ((camDeriv c x).1, (camDeriv c x).2.1))]
    | none => []
  let ms := linear ++ coupled
  let ePlan : Rat := (s.dwp d .ecap : Rat) * (s.dwp d .ePlanPct : Rat) / 100
  let vMin : Rat := (s.dwp d .vCloseMin : Rat)
  let ap : Rat := (s.dwp d .approachPos : Rat)
  let bins := pathBins travel x0 x1 ap
  let ceil (bs : List Nat) : Rat := if bs = [] then vClose else minR vClose (ceilingOf ms ePlan vClose vMin bs)
  let apprC := minR (s.dwp d .vApproach : Rat) (ceil bins.2)
  let apprC : Rat := ((apprC / 1000).floor : Int) * 1000
  let mainC := if dir < 0 then ceil bins.1 else if bins.2 = [] then ceil bins.1 else minR (ceil bins.1) apprC
  let a0 := pathMin l acc
  let j0 := pathMin l jerk
  let cam := slave.bind fun q => camLimitsOf s q.1 q.2 (acc q.1) (jerk q.1)
  -- the way before the coupled interval, in it, and behind it
  let w : Rat × Rat × Rat := match cam with | some c => splitWay x0 x1 c.lo c.hi | none => (0, 0, absR way)
  let y0 := x0 + dir * w.1
  let y1 := y0 + dir * w.2.1
  let zone (x : Rat) : Rat := if dir < 0 ∧ x ≤ ap then apprC else mainC
  let pre : List Seg :=
    match cam with
    | some c => [⟨w.1, zone x0, a0, j0⟩, c.seg w.2.1 (minR (zone y0) (if 0 < w.2.1 then zone (y1 - dir / 2) else zone y0)) a0 j0]
    | none => []
  let d1 := if dir < 0 then minR w.2.2 (maxR 0 (y1 - ap)) else w.2.2
  let r := closingPlan ms pre ⟨d1, mainC, a0, j0⟩ ⟨w.2.2 - d1, apprC, a0, j0⟩ vMin (fun x => x0 + dir * x) dir (binOf travel)
  let p := r.1
  let um := mainLevel (pre.filter fun g => 0 < g.len).length p
  let top := if d1 ≤ 0 then apprC else mainC
  let camSet := match cam with | some c => decide (0 < w.2.1 ∧ (c.seg w.2.1 vClose a0 j0).ceil < vClose) | none => false
  let limit :=
    if camSet then 4
    else if r.2 then 2
    else if um < top then 5
    else
      match (if d1 ≤ 0 then bins.2 else bins.1).filterMap (fun b => binLimit ms ePlan vClose vMin b (um + 1000)) with
      | k :: _ => k
      | [] => 0
  let slow := (bins.1 ++ bins.2).any fun b => ePlan < energyOf (mEff ms b) vMin
  ⟨p.phases, limit, (planEnergy ms travel x0 dir p).floor, ((ms.map AxisModel.mass).foldl (· + ·) 0).floor, slow⟩

/-- The limits a path is planned with on one axis (R65): those given with the request where they are not 0, else the
parameters of the move kind, as they are now. -/
def limitsFor (s : State) (r : PathReq) (a : Nat) : Int × Int × Int :=
  let g := ((r.given.find? fun x => x.1 = a).map Prod.snd).getD (0, 0, 0)
  let closing := r.kind == .closing
  let pick (x y : Int) : Int := if x = 0 then y else x
  (pick g.1 (if closing then min (s.dwp (doorOf a) .vClose) (s.axp a .vmax) else s.axp a .vOpen),
   pick g.2.1 (if closing then s.axp a .accClose else s.axp a .accOpen),
   pick g.2.2 (if closing then s.axp a .jerkClose else s.axp a .jerkOpen))

/-- Whether a path is planned as a closing (R65, R81): the sequencer's closing, and a host's move of a leaf or swing axis
toward 0. -/
def pathClosing (s : State) (r : PathReq) : Bool :=
  r.kind == .closing ||
    (r.by_ == .host && r.moves.any fun m => leafOrSwing s m.1 && (m.2 : Rat) < (s.axis m.1).cmd)

/-- The plan of a path request; none where no axis has to move. -/
def planPath (s : State) (d : Nat) (r : PathReq) : Option PathPlan :=
  let l := travels s r.moves
  let v := fun a => (limitsFor s r a).1
  let acc := fun a => (limitsFor s r a).2.1
  let jerk := fun a => (limitsFor s r a).2.2
  if l = [] then none
  else if pathClosing s r then
    some (closePlan s d l r.slave (if r.kind == .closing then (s.dwp d .vClose : Rat) else pathMin l v) acc jerk)
  else
    let x0 := (s.axis (leaderOf l)).cmd
    let way := ((l.find? fun x => x.1 = leaderOf l).map Prod.snd).getD 1
    some (openPlan x0 (x0 + way) (pathMin l v) (pathMin l acc) (pathMin l jerk)
      (r.slave.bind fun q => camLimitsOf s q.1 q.2 (acc q.1) (jerk q.1)))

/-- The phases of a cam slave as its PLAN shows them (R72): those of its master, with the slave's own speed, acceleration and
jerk at the start of each by R90. `x` is the master position at the start, `k` the master's share of the phases. -/
def slavePhases (c : CamTable) (k : Rat) : Rat → List Phase → List Phase
  | _, [] => []
  | x, p :: r =>
    let q := camDeriv c x
    let v := k * p.v0
    let a := k * p.a0
    let j := k * p.jerk
    ⟨p.dur, q.2.2 * v * v * v + 3 * q.2.1 * v * a + q.1 * j, q.1 * v, q.2.1 * v * v + q.1 * a⟩
      :: slavePhases c k (x + k * p.xAt p.dur) r

/-- The axes of a path take their profiles. -/
def goPath (again : Bool) (r : PathReq) (p : PathPlan) (s : State) : State :=
  let l := travels s r.moves
  let lead := leaderOf l
  let lmax := longest l
  let all := l.map (·.1) ++ (match r.slave with | some q => [q.1] | none => [])
  let closing := pathClosing s r
  let x0 := (s.axis lead).cmd
  let kLead := (((l.find? fun x => x.1 = lead).map Prod.snd).getD 1) / lmax
  let target (a : Nat) : Int := ((r.moves.find? fun m => m.1 = a).map Prod.snd).getD 0
  let form (s : State) (a : Nat) (phases : List Phase) (target : Int) (k : Rat) (cam : Option (Nat × Nat)) : State :=
    let q := limitsFor s r a
    go again a { kind := r.kind, phases := phases, target := target, by_ := r.by_, limit := p.limit,
                 leader := decide (a = lead) && decide (1 < all.length), fromQueue := r.fromQueue, byPoint := r.byPoint,
                 v := q.1, acc := q.2.1, jerk := q.2.2, closing := closing && leafOrSwing s a, path := all, ratio := k,
                 camOf := cam } s
  let s := l.foldl (fun s x => form s x.1 (scalePlan (x.2 / lmax) p.phases) (target x.1) (x.2 / lmax) none) s
  match r.slave with
  | none => s
  | some (b, t) =>
    match camAt s t with
    | none => s
    | some c => form s b (slavePhases c kLead x0 p.phases) (truncR (camEval c (target lead : Int))) 0 (some (t, lead))

/-- Start a path: it begins with the next fabric tick, which forms it anew where its parameters have changed by then (R29,
R73). -/
def startPath (r : PathReq) (p : PathPlan) (s : State) : State :=
  let d := match r.moves with | m :: _ => doorOf m.1 | [] => 0
  let s := goPath false r p s
  { s with starts := s.starts ++ [⟨d, r, s.par, s.tab.cams, (s.door d).ePlan, p.slow⟩] }

/-! ## Commanded position -/

def planDone (x : Axis) : Bool :=
  match x.elapsed with
  | some t => planDur x.plan.phases ≤ t
  | none => true

/-- Position, speed and acceleration of a profile at its present time. -/
def planNow (x : Axis) : Rat × Rat × Rat :=
  match x.elapsed with
  | none => (x.cmd, 0, 0)
  | some t =>
    if planDur x.plan.phases ≤ t then
      (if x.plan.kind == .stopRamp then x.plan.startPos + planDist x.plan.phases else (x.plan.endPos : Rat), 0, 0)
    else
      let q := planAt x.plan.phases t
      (x.plan.startPos + q.1, q.2.1, q.2.2)

/-- Put the commanded position of an axis, counting the distance where `cnt` holds (R333). -/
def putCmd (cnt : Bool) (p v acc : Rat) (x : Axis) : Axis :=
  let d := if cnt then x.ltDistRem + absR (p - x.cmd) else x.ltDistRem
  let m := (d / 1000000).floor.toNat
  { x with cmdPrev := x.cmd, cmd := p, cmdV := v, cmdA := acc, ltDist := sat32 (x.ltDist + m),
           ltDistRem := d - (m : Rat) * 1000000 }

/-- The position of an axis at its present profile time; a cam slave follows its master (R89). -/
def followPlan (a : Nat) (dtUs : Rat) (s : State) : State :=
  let x := s.axis a
  match x.camOf with
  | some (t, m) =>
    match camAt s t with
    | some c =>
      let p := camEval c (s.axis m).cmd
      let v := if dtUs ≤ 0 then x.cmdV else (p - x.cmd) * mega / dtUs
      let acc := if dtUs ≤ 0 then x.cmdA else (v - x.cmdV) * mega / dtUs
      s.modAxis a (putCmd (counting s a) p v acc)
    | none => s
  | none => let q := planNow x; s.modAxis a (putCmd (counting s a) q.1 q.2.1 q.2.2)

/-- One tick of motion for every axis: masters and free axes first, then cam slaves (R71, R73). -/
def tickMotion (us : Nat) (s : State) : State :=
  let run (s : State) (a : Nat) : State :=
    let x := s.axis a
    if x.drive.state == .homing && x.home.phase == .halted then s.modAxis a fun x => { x with cmdPrev := x.cmd }
    else
      match x.elapsed with
      | some t => followPlan a us (s.modAxis a fun x => { x with elapsed := some (t + us) })
      | none => s.modAxis a fun x => { x with cmdPrev := x.cmd, cmdV := 0, cmdA := 0 }
  let s := each 24 (fun s a => if (s.axis a).camOf.isNone then run s a else s) s
  each 24 (fun s a => if (s.axis a).camOf.isSome then run s a else s) s

/-! ## Stop ramps (R96 to R98) -/

def RampKind.rank : RampKind → Nat
  | .safeStop => 1 | .obstacle => 2 | .quick => 3 | .own => 4

/-- Deceleration and jerk of a ramp on an axis (R96, R94, R210). -/
def rampLimits (s : State) (a : Nat) (r : RampKind) : Rat × Rat :=
  let q := (s.axis a).snap
  match r with
  | .safeStop => ((s.safp (.ssDecel (slotOf a)) : Rat), (s.safp (.ssJerk (slotOf a)) : Rat))
  | .obstacle => ((q.decObst : Rat), (q.jerkObst : Rat))
  | .quick => ((q.decQuick : Rat), (q.jerkQuick : Rat))
  | .own => ((q.acc : Rat), (q.jerk : Rat))

/-- The axes that share a path with an axis. -/
def pathAxes (s : State) (a : Nat) : List Nat := if (s.axis a).path.contains a then (s.axis a).path else [a]

/-- The share of an axis in its path: its travel per unit of the leader's, or the steepest slope of its cam over the rest of
its master's way (DEDUCED, log 69: R98 divides by the axis's ratio, and the ramp lies within that way). -/
def shareOf (s : State) (a : Nat) : Rat :=
  match (s.axis a).camOf with
  | some (t, m) =>
    match camAt s t with
    | some c => (camMaxIn c (s.axis m).cmd ((s.axis m).plan.endPos : Rat)).1
    | none => 0
  | none => absR (s.axis a).ratio

/-- Discard a held target (R93). -/
def discardQueue (a : Nat) (s : State) : State := s.modAxis a fun x => { x with queued := none, jogQueued := none }

/-- Put a stop ramp in the place of the rest of the profiles of a path. An axis of the path that has left it, in FAULT or
STO, takes no part. -/
def rampPath (a : Nat) (r : RampKind) (s : State) : State :=
  let axes := (pathAxes s a).filter fun b => (s.axis b).elapsed.isSome
  let free := axes.filter fun b => (s.axis b).camOf.isNone && (s.axis b).ratio ≠ 0
  match free with
  | [] => s
  | l :: _ =>
    let x := s.axis l
    let q := planNow x
    let v := q.2.1 / x.ratio
    let acc := q.2.2 / x.ratio
    let lim (b : Nat) : Rat × Rat :=
      let p := rampLimits s b r
      let k := shareOf s b
      if k = 0 then p else (p.1 / k, p.2 / k)
    let shared := axes.filter fun b => shareOf s b ≠ 0
    let dec := minL (shared.map fun b => (lim b).1) 1
    let jerk := minL (shared.map fun b => (lim b).2) 1
    let ramp := rampPhases v acc dec jerk
    axes.foldl (fun s b =>
      let s := s.modAxis b fun y =>
        let el := y.elapsed.getD 0
        let before := cutPlan y.plan.phases el
        let phases := match y.camOf with
          | some (t, m) =>
            (match camAt s t with
             | some c => before ++ slavePhases c (s.axis m).ratio (s.axis m).cmd ramp
             | none => before)
          | none => before ++ scalePlan y.ratio ramp
        let endPos := y.plan.startPos + planDist phases
        { y with
          plan := { y.plan with kind := .stopRamp, phases := phases,
                                endPos := if y.camOf.isSome then y.plan.endPos else rnd endPos }
          elapsed := some (planDur before), ramp := some r, queued := none, jogQueued := none, jog := none
          drive := { y.drive with state := if r == .safeStop then .safeStopping else .stopping, laPrev := none } }
      s) s

/-- A stop request on the path of an axis (R96): a ramp of higher rank takes over, any other request has no effect. -/
def stopPath (a : Nat) (r : RampKind) (s : State) : State :=
  let x := s.axis a
  if x.elapsed.isNone then s
  else
    match x.ramp with
    | some q => if r.rank < q.rank then rampPath a r s else s
    | none => rampPath a r s

/-- Whether an axis has a profile under way. -/
def moving (s : State) (a : Nat) : Bool := (s.axis a).elapsed.isSome
/-- A move has been formed and begins with the next tick: its axis is still at rest for a write (R29). -/
def starting (s : State) (a : Nat) : Bool :=
  (s.axis a).elapsed = some 0 && (s.axis a).ramp.isNone && s.starts.any fun r => (s.axis a).path.contains a &&
    (r.req.moves.any fun m => m.1 = a) || (match r.req.slave with | some q => q.1 == a | none => false)
/-- Moving leaf-path axes of a doorway. -/
def movingLeaves (s : State) (d : Nat) : List Nat := (s.leafAxes d).filter fun a => moving s a

/-- Stop every moving axis of a list of axes. -/
def stopAxes (l : List Nat) (r : RampKind) (s : State) : State := l.foldl (fun s a => stopPath a r s) s

/-! ## Shadow values at rest (R95, R55, R91, R104) -/

/-- Learned data without its envelopes (R163), and without mass and friction (R86). -/
def Learned.noEnvelopes (l : Learned) : Learned :=
  { l with envClose := .replicate 128 EnvBin.empty, envOpen := .replicate 128 EnvBin.empty, envCycles := 0 }
def Learned.noMass (l : Learned) : Learned :=
  { l with massValid := false, fricOpen := .replicate 128 none, fricClose := .replicate 128 none }

/-- A doorway becomes UNTAUGHT (R163), in what is stored too. -/
def untaught (d : Nat) (s : State) : State :=
  let s := [0, 1, 2].foldl (fun s sl =>
    s.modAxis (axisOf d sl) fun x => { x with learned := x.learned.noEnvelopes, saved := x.saved.noEnvelopes }) s
  s.modDoor d fun x => { x with learn := 0, teachLeft := 0, sealRef := .replicate 4 SealRef.empty, savedLearn := 0,
                                savedTeachLeft := 0, savedSealRef := .replicate 4 SealRef.empty }

/-- What the change of a scalar from an old value brings about on its axis or doorway (R126, R116, R117, R139, R163). -/
def valChanged (p : Par) (s : State) : State :=
  match p with
  | .ax a .encMode | .ax a .encInv => clearPosValid a s
  | .ax a .umPerCount =>
    untaught (doorOf a) (clearPosValid a (s.modDrive a fun d => { d with phaseValid := false, commValid := false,
                                                                         commPrev := none }))
  | .ax a .umPerUstep =>
    untaught (doorOf a) (s.modDrive a fun d => { d with phaseValid := false, commValid := false, commPrev := none })
  | .ax a .motorInv => s.modDrive a fun d => { d with phaseValid := false, commValid := false, commPrev := none }
  | .ax a .travel | .ax a .kf => untaught (doorOf a) s
  | .ax a .softMin | .ax a .softMax => applyLimits a s
  | .ax a .sineSel => s.modDrive a fun d => { d with sineOld := false }
  | .dw d (.sealF _) => untaught d s
  | _ => s

/-- A scalar takes a new active value. -/
def takeVal (p : Par) (v : Int) (s : State) : State :=
  if s.val p = v then s else valChanged p (s.setVal p v)

/-- An axis or a doorway at rest takes the values that a commit has left it with (R94, R229). -/
def applyHeld (a : Nat) (s : State) : State :=
  let l := (s.axis a).held
  l.foldl (fun s e => match keyOf e.1 with | some (.scalar p) => valChanged p s | _ => s)
    (s.modAxis a fun x => { x with held := [] })
def applyHeldDoor (d : Nat) (s : State) : State :=
  let l := (s.door d).held
  l.foldl (fun s e => match keyOf e.1 with | some (.scalar p) => valChanged p s | _ => s)
    (s.modDoor d fun x => { x with held := [] })

/-- The pending values of one owner, in ascending key order. -/
def pendingOf (s : State) (g i : Nat) : List (Nat × Int) :=
  s.shadow.filter fun e => e.1 / 16777216 = g ∧ e.1 / 65536 % 256 = i

def applyShadow (g i : Nat) (s : State) : State :=
  let l := pendingOf s g i
  let s := { s with shadow := s.shadow.filter fun e => ¬(e.1 / 16777216 = g ∧ e.1 / 65536 % 256 = i) }
  l.foldl (fun s e =>
    match keyOf e.1 with
    | some (.scalar p) => takeVal p e.2 s
    | _ => s) s

/-- A cam table shadow is taken once no axis it couples moves (R91). -/
def applyCams (s : State) : State :=
  each 8 (fun s t =>
    match vget s.tab.camShadow t none with
    | some c =>
      if (List.range 24).any fun a => moving s a && (match (s.axis a).camOf with | some q => q.1 == t | none => false) then s
      else { s with tab := { s.tab with cams := vset s.tab.cams t (some c), camShadow := vset s.tab.camShadow t none } }
    | none => s) s

/-- A sine table shadow replaces the table once every axis that selects it has been at rest (R104). -/
def applySines (s : State) : State :=
  each 4 (fun s t =>
    match vget s.tab.sineShadow t none with
    | some c =>
      if (List.range 24).any fun a => s.axN a .sineSel == t && (s.axis a).drive.sineOld then s
      else { s with tab := { s.tab with sines := vset s.tab.sines t c, sineShadow := vset s.tab.sineShadow t none } }
    | none => s) s

/-- Points 0 to 7 stay as the sequencer wrote them, 8 to 31 are the integrator's (R51, R52). -/
def mixPoints (old new : Vector LcPoint 32) : Vector LcPoint 32 :=
  Vector.ofFn fun i : Fin 32 => if i.val < 8 then vget old i.val LcPoint.empty else vget new i.val LcPoint.empty

/-- No axis of a doorway is on the way. -/
def doorAtRest (s : State) (d : Nat) : Bool := (s.axesOf d).all fun b => atRest s b && !moving s b

/-- The shadow values of an axis that reaches rest, then those of its doorway. -/
def restValues (a : Nat) (s : State) : State := applyShadow 2 a (applyHeld a s)
def restDoorValues (d : Nat) (s : State) : State := applyShadow 3 d (applyHeldDoor d s)

/-- What happens to an axis that reaches rest, by the end of its profile or ramp, by the end of an STO dwell or in FAULT,
before anything else in that tick (R95, R55, R91, R104, R94). -/
def restShadows (a : Nat) (s : State) : State :=
  let s := restValues a s
  let s := s.modAxis a fun x =>
    { x with lcTable := match x.lcShadow with | some n => mixPoints x.lcTable n | none => x.lcTable
             lcShadow := none, drive := { x.drive with sineOld := false } }
  let s := applySines (applyCams s)
  if doorAtRest s (doorOf a) then restDoorValues (doorOf a) s else s

/-- The profile of an axis ends within the coming tick. -/
def endsIn (us : Nat) (s : State) (a : Nat) : Bool :=
  match (s.axis a).elapsed with
  | some t => t < planDur (s.axis a).plan.phases && planDur (s.axis a).plan.phases ≤ t + us
  | none => false

/-- The shadow values of the axes, and of the doorways, that reach rest in the coming tick: before all its other work (R95,
R137). A table stays with the move to its end (R55, R91). -/
def tickShadows (us : Nat) (s : State) : State :=
  let l := (List.range 24).filter fun a => endsIn us s a
  let ds := (List.range 8).filter fun d =>
    (l.any fun a => doorOf a = d) && (s.axesOf d).all fun a => endsIn us s a || (atRest s a && !moving s a)
  ds.foldl (fun s d => restDoorValues d s) (l.foldl (fun s a => restValues a s) s)

/-! ## Mass and friction identification (R82 to R86) -/

/-- Regression of the acceleration phase (R82): mass in 0.1 kg and residual in 0.1 N from samples of µm/s² and 0.1 N. -/
def regress (r : Regr) : Option (Rat × Rat) :=
  let n : Rat := (r.n : Rat)
  if r.n = 0 then none
  else
    let ma := r.sa / n
    let mf := r.sf / n
    let saa := r.saa - n * ma * ma
    let saf := r.saf - n * ma * mf
    let sff := r.sff - n * mf * mf
    if saa ≤ 0 then none
    else
      let k := saf / saa
      some (k * 1000000, sqrtR (maxR 0 (sff - k * saf) / n))

/-- A new filtered mass (R84), in 0.1 kg, within the 16 bits of R5. DESIGN CHOICE (log 68): R84 gives no rounding; each
filter step is rounded to the nearest 0.1 kg. -/
def newMass (s : State) (a : Nat) (raw : Rat) : Int :=
  let l := (s.axis a).learned
  let m := maxR raw (s.axp a .mMin : Rat)
  min 65535 (if !l.massValid || (l.mass : Rat) * (100 + (s.axp a .mStepPct : Rat)) / 100 ≤ raw then rnd m
    else rnd ((l.mass : Rat) + (m - (l.mass : Rat)) / 8))

/-- The identification of an opening that reached its open position (R82 to R85); `clean` says that it started at or below
`SEAL_ENTRY` and met no stop. -/
def identify (a : Nat) (clean : Bool) (s : State) : State :=
  let r := (s.axis a).det.regr
  let put_ (st : Nat) (s : State) : State := s.modDet a fun d => { d with idStatus := st }
  if !clean then put_ 3 s
  else if r.accUs < 200000 then put_ 2 s
  else
    match regress r with
    | none => put_ 6 s
    | some (m, resid) =>
      if (s.axp a .idResidMax : Rat) < resid then put_ 4 s
      else
        let raw := rnd m
        let bad := raw < s.axp a .mMin ∨ s.axp a .mMax < raw
        let nm := newMass s a m
        let s := s.modAxis a fun x =>
          { x with learned := { x.learned with mass := nm, massValid := true },
                   det := { x.det with massRaw := clampI 0 65535 raw, idStatus := if bad then 5 else 1 } }
        if bad then raiseDoor (doorOf a) 9 (toWord 16 raw + 65536 * a) false s else s

end Sys2Proof.Machine
end

