-- ==== Sys2Proof/Machine/Operands.lean ====
section
/-! DEFINITION. Operand forms of requests: status codes (R317), target words (R288), payload layouts (R305 to R314). -/

namespace Sys2Proof.Machine

/-- Status names of R317. -/
inductive Status where
  | ok | okDeferred | okQueued | badOpcode | badLength | badCrc | authRequired | authFailed | replay | noSuchParameter
  | readOnly | outOfRange | notAtRest | modeForbids | safetyLocked | axisBusy | doorwayStateForbids | shutdownInProgress
  | planInvalid | exchangeRefused | journalDegraded | herdNotMaster | busyRetry
  deriving DecidableEq, Repr

def Status.code : Status → Nat
  | .ok => 0x0000 | .okDeferred => 0x0001 | .okQueued => 0x0002 | .badOpcode => 0x0101 | .badLength => 0x0102
  | .badCrc => 0x0103 | .authRequired => 0x0104 | .authFailed => 0x0105 | .replay => 0x0106
  | .noSuchParameter => 0x0201 | .readOnly => 0x0202 | .outOfRange => 0x0203 | .notAtRest => 0x0204
  | .modeForbids => 0x0205 | .safetyLocked => 0x0206 | .axisBusy => 0x0301 | .doorwayStateForbids => 0x0302
  | .shutdownInProgress => 0x0303 | .planInvalid => 0x0401 | .exchangeRefused => 0x0402 | .journalDegraded => 0x0501
  | .herdNotMaster => 0x0601 | .busyRetry => 0x0701

/-- Whether a status is one of the three that accept a request. -/
def Status.good : Status → Bool
  | .ok | .okDeferred | .okQueued => true
  | _ => false

/-- The outcome of a request: status, detail and the payload of the reply. -/
structure Outcome where
  status : Status
  detail : Nat
  payload : Bytes
  deriving DecidableEq, Repr

def Outcome.ok (b : Bytes) : Outcome := ⟨.ok, 0, b⟩
def Outcome.bad (st : Status) (d : Nat) : Outcome := ⟨st, d, []⟩

/-- Fields of a TARGET word (R288): herd member, kind, index. -/
def tMember (t : Nat) : Nat := t / 2048 % 32
def tKind (t : Nat) : Nat := t / 256 % 8
def tIndex (t : Nat) : Nat := t % 256

/-- Payload of MOVE_ABS and MOVE_REL (R306). -/
structure MovePay where
  queue : Bool
  mask : Nat
  v : Int
  acc : Int
  jerk : Int
  targets : List Int
  deriving DecidableEq, Repr

def movePay (b : Bytes) : MovePay :=
  { queue := bit (rd b 0 2) 0, mask := rd b 2 1, v := rdI b 4 4, acc := rdI b 8 4, jerk := rdI b 12 4,
    targets := [rdI b 16 4, rdI b 20 4, rdI b 24 4] }

end Sys2Proof.Machine
end

