-- ==== Sys2Proof/Machine/Drive.lean ====
section
/-! DEFINITION. The stepping drive stage (R99 to R122): current selection, enable with restore or realignment, park, disable,
STO, phase memory, load angle, stage faults. -/

namespace Sys2Proof.Machine

/-! ## Sines in fixed point -/

def fxOne : Int := 281474976710656
/-- sin of an angle given as a fraction of a turn over 2^48, by its series; the angle lies within a quarter turn. -/
def sinSeries : Nat → Int → Int → Int → Int → Int
  | 0, _, _, _, acc => acc
  | n + 1, k, x2, term, acc =>
    let t := -(term * x2 / fxOne) / ((2 * k) * (2 * k + 1))
    sinSeries n (k + 1) x2 t (acc + t)
/-- sin of an angle in turns. -/
def sinTurn (t : Rat) : Rat :=
  let u := t - (t.floor : Rat)
  let q : Rat := if u < 1 / 4 then u else if u < 3 / 4 then 1 / 2 - u else u - 1
  let x := rnd (q * twoPi * (fxOne : Rat))
  (sinSeries 14 1 (x * x / fxOne) x x : Rat) / (fxOne : Rat)

/-- The factory sine table (R103). -/
def factorySine : List Nat := (List.range 256).map fun i => (rnd (4095 * sinTurn ((i : Rat) / 1024))).toNat

/-- The entries of a stored table; the empty list stands for the factory sine. -/
def sineEntries (l : List Nat) : List Nat := if l = [] then factorySine else l
/-- The active table of a number. -/
def sineTable (s : State) (t : Nat) : List Nat := sineEntries (vget s.tab.sines t [])
/-- The table an axis runs with: its active table, or the written one once the axis has adopted it (R104). -/
def sineFor (s : State) (a : Nat) : List Nat :=
  let t := s.axN a .sineSel
  match vget s.tab.sineShadow t none with
  | some l => if (s.axis a).drive.sineOld then sineTable s t else sineEntries l
  | none => sineTable s t

/-- asin in tenths of a degree, nearest, clamped to ±900 (R118). -/
def asin10 (x : Rat) : Int :=
  let y := absR x
  let n : Nat := largest 900 fun n => sinTurn ((2 * (n : Rat) - 1) / 7200) ≤ y
  let n := if 1 ≤ y then 900 else n
  if x < 0 then -(n : Int) else n

/-! ## Current -/

/-- k of R107 in ten-thousandths from the baseplate temperature in 0.1 °C. -/
def deratingOf (t : Int) : Nat :=
  if t ≤ 1050 then 10000 else if t ≤ 1250 then (10000 - 25 * (t - 1050)).toNat else 5000

/-- The selected current at this moment, in mA, with the linear ramps of R106, R111 and R115. -/
def selectedNow (s : State) (a : Nat) : Nat :=
  let d := (s.axis a).drive
  match d.ramp with
  | none => d.iSel
  | some (k, e) =>
    let left := e - s.us
    let len : Nat := 1000 * (match k with
      | .enable => s.axN a .enableRampMs
      | .park | .disable => s.axN a .parkRampMs
      | .hold => s.axN a .holdRampMs)
    let hold := s.axN a .iHold
    match k with
    | .enable => if len = 0 then hold else hold * (len - min left len) / len
    | .park | .disable => if len = 0 then 0 else d.iSel * min left len / len
    | .hold => if len = 0 then hold
               else ((hold : Int) + ((d.iSel : Int) - (hold : Int)) * (min left len : Nat) / (len : Int)).toNat

/-- `AX[a].I_APPLIED`, whole mA (R105). -/
def appliedNow (s : State) (a : Nat) : Nat :=
  let x := s.axis a
  if x.drive.energised then appliedUnits (selectedNow s a) x.drive.derate x.snap.iF * 1000 / 32 else 0

/-- k is recomputed for axes at rest (R107). -/
def effectDerating (t : Int) (s : State) : State :=
  let s := s.modSup fun u => { u with baseTemp := t, basePeak := max u.basePeak t }
  each 24 (fun s a =>
    if s.axOn a && !moving s a then s.modDrive a fun d => { d with derate := deratingOf t } else s) s

/-! ## Phase memory (R115 to R117) -/

/-- The phase offset that gives a phase at a microstep position. -/
def offsetFor (s : State) (a : Nat) (p : Int) (phase : Int) : Nat :=
  ((phase - (if s.axp a .motorInv = 1 then -p else p)) % 1024).toNat

/-- Encoder count in microsteps, nearest (R117). -/
def countSteps (s : State) (a : Nat) : Int := rnd ((s.axis a).fb.count * umCount s a / umStep s a)

/-! The fields of a phase record (R115). -/
def PhaseRec.ustepPos (r : PhaseRec) : Int := rdI r.raw 0 4
def PhaseRec.encCount (r : PhaseRec) : Int := rdI r.raw 4 4
def PhaseRec.phase (r : PhaseRec) : Nat := rd r.raw 8 2 % 1024
def PhaseRec.cause (r : PhaseRec) : Nat := rd r.raw 10 1
def PhaseRec.crcOk (r : PhaseRec) : Bool := r.raw.length = 16 && rd r.raw 12 4 = crc32c (r.raw.take 12)

/-- The 16 bytes of a phase record, cause 1 PARK or 2 STO at rest. -/
def phaseBytes (ustep count : Int) (phase cause : Nat) : Bytes :=
  let b := leI 4 ustep ++ leI 4 count ++ le 2 (phase % 1024) ++ le 1 cause ++ [0]
  b ++ le 4 (crc32c b)

/-- A phase record of this moment (R115, R416). -/
def phaseRecord (s : State) (a cause : Nat) : PhaseRec :=
  let x := s.axis a
  { raw := phaseBytes (ustepOf s a) x.fb.count (phaseOf s a) cause, valid := x.fb.has 15,
    posOfs := x.fb.posOfs, indexPos := x.fb.indexPos, indexRef := x.fb.has 13, commOffset := x.drive.commOffset,
    commValid := x.drive.commValid }

/-- Hand a phase record to the journal engine; a failed store takes none (R398). -/
def queuePhase (a cause : Nat) (s : State) : State :=
  let r := phaseRecord s a cause
  let s := s.modDrive a fun d => { d with recordDue := some (r, s.us) }
  if storeFailed s then s else s.modJrn fun j => { j with queue := j.queue ++ [.phase a] }

/-- A commutation offset is taken (R117). -/
def takeComm (a : Nat) (s : State) : State :=
  let v := (((phaseOf s a : Int) - countSteps s a) % 1024).toNat
  s.modDrive a fun d =>
    let near (p : Nat) : Bool := let e := (v + 1024 - p) % 1024; e ≤ 16 || 1008 ≤ e
    match d.commPrev with
    | none => { d with commOffset := v, commPrev := some v }
    | some p =>
      if near p then { d with commOffset := v, commPrev := some v, commValid := true }
      else { d with commOffset := v, commPrev := some v, commValid := false }

/-- Whether the phase record restores the axis (R115 step 1). -/
def recordRestores (s : State) (a : Nat) : Bool :=
  let x := s.axis a
  match x.drive.record with
  | some r => r.crcOk && x.drive.phaseValid && absI (x.fb.count - r.encCount) ≤ s.axp a .parkTol
  | none => false

/-- Restore or realign, and start the enable ramp (R111, R115, R117). -/
def enableAxis (a : Nat) (s : State) : State :=
  let ok := recordRestores s a
  let byEnc := !ok && s.axp a .realign = 1 && (s.axis a).drive.commValid
  let ofs : Nat :=
    match ok, (s.axis a).drive.record with
    | true, some r => offsetFor s a r.ustepPos r.phase
    -- HOME: φ = p mod 1,024, also where the motor runs inverted (R117)
    | _, _ => offsetFor s a (ustepOf s a)
        (if byEnc then countSteps s a + ((s.axis a).drive.commOffset : Int) else ustepOf s a)
  let cnt := (s.axis a).fb.count
  let s := s.modDrive a fun d =>
    { d with state := .standstill, ramp := some (.enable, s.us + 1000 * s.axN a .enableRampMs), enIbex := true,
             enChamois := true, phaseOfs := ofs, iSel := 0, iApplied := 0, holdAt := none, stoSince := none,
             recordDue := none, disableAtRest := false, phaseValid := ok, realignFrom := if byEnc then some cnt else none,
             recovery := if byEnc then some (0, 0) else none }
  let s := s.modAxis a fun x => { x with snap := { x.snap with iF := none } }
  if ok || byEnc then s else clearPosValid a s

/-- A failed ENCODER realignment (R117). -/
def realignFailed (a : Nat) (s : State) : State :=
  let s := s.modDrive a fun d => { d with commValid := false, commPrev := none, phaseValid := false, recovery := none,
                                          realignFrom := none }
  raiseAxis a 0 5 false (clearPosValid a s)

/-- The count has moved too far during the enable ramp of an ENCODER realignment (R117). -/
def realignMoved (s : State) (a : Nat) : Bool :=
  match (s.axis a).drive.realignFrom with
  | some c => decide (s.axp a .parkTol < absI ((s.axis a).fb.count - c))
  | none => false

/-- The tick of the enable ramp watches the count (R117). -/
def tickRealign (a : Nat) (s : State) : State := if realignMoved s a then realignFailed a s else s

/-- The end of the enable ramp (R115, R117). -/
def endEnableRamp (a : Nat) (s : State) : State :=
  let bad := realignMoved s a
  let s := s.modDrive a fun d => { d with ramp := none, realignFrom := none }
  let s := selectCurrent a (s.axN a .iHold) s
  if bad then realignFailed a s else s

/-! ## Shutdowns -/

/-- What a move that is cut off leaves (R161, R83, R85): its bins, and, for an opening of the sequencer, the code of an
interrupted opening and the friction of the bins it passed; a first move that no stop ramp ended is over (R119). -/
def cutMove (x : Axis) : Axis :=
  if x.elapsed.isNone then x
  else
    let x := closeBins x
    let x := if x.ramp.isNone then { x with drive := { x.drive with laLeft := 0 } } else x
    if x.plan.base == .opening && x.by_ == .sequencer then learnFric true { x with det := { x.det with idStatus := 3 } } else x

/-- Take everything of a move off an axis. -/
def dropMove (x : Axis) : Axis :=
  let x := cutMove x
  { x with
    elapsed := none, ramp := none, queued := none, jogQueued := none, armed := none, jog := none, cmdV := 0, cmdA := 0,
           cmdPrev := x.cmd, safeStop := none, devUntil := none, camOf := none, path := [],
           drive := { x.drive with afterEnable := none, enableQueued := false, ramp := none, holdAt := none,
                                   disableAtRest := false, faultAtRest := false } }

/-- A homing ends without success (R156). -/
def abortHoming (a : Nat) (s : State) : State :=
  if (s.axis a).home.phase == .idle || (s.axis a).home.phase == .retryWait then s
  else s.modHome a fun h => { h with phase := .idle, status := 7, until_ := none }

/-- A DISABLE ends a homing (R156). One of the sequencer counts as a failed attempt: it is retried 2,000 ms later, without a
back-off, since the axis is without current by then (DESIGN CHOICE, log 25). -/
def disableHoming (a : Nat) (s : State) : State :=
  let h := (s.axis a).home
  if h.phase == .idle || h.phase == .retryWait then s
  else if h.byHost then abortHoming a s
  else
    let s := if h.failRaised then s else raiseAxis a 0 4 false s
    s.modHome a fun h =>
      { h with phase := .retryWait, status := if h.phase == .backOff then h.status else 7, failRaised := true, refCount := none,
               cleared := false, until_ := some (if h.phase == .backOff then h.until_.getD s.us else s.us + 2000000) }

/-- Whether an STO of this moment is entered at rest (R112): not energised, or with its profile finished and the observer
at or below one full step a second. -/
def stoAtRestNow (s : State) (a : Nat) : Bool :=
  let x := s.axis a
  !x.drive.energised || (planDone x && absR x.fb.vEst ≤ 256 * umStep s a)

/-- The bridges open and the axis enters FAULT, where it is at rest (R92, R95). An energised axis loses its phase (R116), and
its commutation offset except on loss of the DRIVE (R117). -/
def openBridges (a : Nat) (loseComm : Bool) (s : State) : State :=
  let s := abortHoming a s
  let s := s.modAxis a fun x =>
    let en := x.drive.energised
    let x := dropMove x
    { x with drive := { x.drive with state := .fault, stoSince := none, stoDone := true, iSel := 0, iApplied := 0,
                                     recordDue := none, recovery := none, enIbex := false, enChamois := false,
                                     phaseValid := x.drive.phaseValid && !en,
                                     commValid := x.drive.commValid && !(en && loseComm),
                                     commPrev := if en && loseComm then none else x.drive.commPrev } }
  restShadows a s

/-- The STO sequence begins (R112). A Graze hold announced to both lanes advances no lifetime counter (R466). An axis that
stops on a stage fault has its bridges opened now and enters FAULT (R111, R120). -/
def startSto (a : Nat) (count : Bool) (s : State) : State :=
  let x := s.axis a
  if x.drive.state == .sto then s
  else if x.drive.faultAtRest then openBridges a true s
  else
    let rest := stoAtRestNow s a
    let record := rest && x.drive.state != .fault
    let s := abortHoming a s
    let cnt := count && counting s a
    let s := s.modAxis a fun x =>
      let x := dropMove x
      { x with
        ltSto := if cnt then inc32 x.ltSto else x.ltSto
        drive := { x.drive with state := .sto, stoSince := some s.us, stoAtRest := rest,
                                stoDone := false, iSel := 0, iApplied := 0, recordDue := none, recovery := none,
                                phaseValid := x.drive.phaseValid && rest } }
    if record then queuePhase a 2 s else s

/-- A demand takes over from an STO path test of the axis, which is discarded (R466). -/
def discardTest (a : Nat) (s : State) : State :=
  match s.graze.sto with
  | some t =>
    if t.1 = a then
      (s.modDrive a fun d => { d with grazeHold := false }).modGraze fun g => { g with sto := none, status := setBit g.status 1 true }
    else s
  | none => s

/-- A lane demands STO of an axis: it drops its enable at once, the other lane at its next slot (R112, R30). -/
def demandSto (a : Nat) (lane : Lane) (s : State) : State :=
  let s := (discardTest a s).modDrive a fun d =>
    match lane with
    | .ibex => { d with demandIbex := true, enIbex := false, enableQueued := false }
    | .chamois => { d with demandChamois := true, enChamois := false, enableQueued := false }
  if (s.axis a).drive.state == .fault then s else startSto a true s

def withdrawSto (a : Nat) (lane : Lane) (s : State) : State :=
  s.modDrive a fun d =>
    match lane with
    | .ibex => { d with demandIbex := false }
    | .chamois => { d with demandChamois := false }

def Drive.demanded (d : Drive) : Bool := d.demandIbex || d.demandChamois || d.grazeHold

/-- A queued ENABLE is taken up after a shutdown (R113). Without DRIVE it is dropped (DESIGN CHOICE, log 26: R414 lets no
axis take current then, and R113 names no code for it). -/
def takeQueuedEnable (a : Nat) (s : State) : State :=
  let d := (s.axis a).drive
  if d.enableQueued then
    let s := s.modDrive a fun d => { d with enableQueued := false }
    if d.demanded then s.modDrive a fun d => { d with enableStatus := 0x0206 }
    else if !s.sup.precharged then s
    else enableAxis a (s.modDrive a fun d => { d with enableStatus := 0 })
  else s

/-- The minimum dwell is complete (R112 step 5). The shutdown completes with its phase record (R113), which a failed store
never confirms (R398); then the axis is at rest (R92, R95). -/
def endStoDwell (a : Nat) (s : State) : State :=
  let d := (s.axis a).drive
  if d.state == .sto && !d.stoDone && (d.recordDue.isNone || storeFailed s) then
    let s := s.modDrive a fun d =>
      { d with stoDone := true, stoSince := none, recordDue := none, phaseValid := d.phaseValid && d.recordDue.isNone }
    takeQueuedEnable a (restShadows a s)
  else s

def startParkRamp (a : Nat) (s : State) : State :=
  let sel := selectedNow s a
  s.modDrive a fun d =>
    { d with ramp := some (.park, s.us + 1000 * s.axN a .parkRampMs), iSel := sel, holdAt := none, afterEnable := none }

def startDisableRamp (a : Nat) (s : State) : State :=
  let sel := selectedNow s a
  s.modDrive a fun d =>
    { d with ramp := some (.disable, s.us + 1000 * s.axN a .parkRampMs), iSel := sel, holdAt := none, afterEnable := none,
             enableQueued := false, disableAtRest := false }

/-- A park is under way: its current ramp, or its record awaiting confirmation. -/
def parking (d : Drive) : Bool :=
  d.state == .standstill && ((match d.ramp with | some (.park, _) => true | _ => false) || d.recordDue.isSome)
def disabling (d : Drive) : Bool :=
  d.state == .standstill && (match d.ramp with | some (.disable, _) => true | _ => false)

/-- The park current ramp has reached 0 (R115 step 2). -/
def endParkRamp (a : Nat) (s : State) : State :=
  match (s.axis a).drive.ramp with
  | some (.park, _) =>
    queuePhase a 1 (s.modDrive a fun d => { d with ramp := none, iSel := 0, iApplied := 0 })
  | _ => s

/-- What an axis and its doorway learned is stored at a PARK (R86, R163). -/
def storeLearned (a : Nat) (s : State) : State :=
  let s := s.modAxis a fun x => { x with saved := x.learned }
  s.modDoor (doorOf a) fun d => { d with savedSealRef := d.sealRef, savedLearn := d.learn, savedTeachLeft := d.teachLeft }

/-- The bridges open and the axis is PARKED (R115 step 3); a DISABLE that came during the sequence acts then. -/
def enterParked (a : Nat) (valid : Bool) (s : State) : State :=
  let s := s.modDrive a fun d =>
    { d with state := if d.disableAtRest then .disabled else .parked, recordDue := none,
             phaseValid := valid && !d.disableAtRest, disableAtRest := false, ramp := none, holdAt := none }
  takeQueuedEnable a s

/-- The journal engine confirms a phase record (R115, R116). -/
def confirmPhase (a : Nat) (s : State) : State :=
  match (s.axis a).drive.recordDue with
  | none => s
  | some (r, _) =>
    let valid := posValid s a
    let r := { r with valid := r.valid && valid }
    let s := s.modDrive a fun d => { d with record := some r, recordDue := none, phaseValid := valid }
    let s := s.modJrn fun j => { j with queue := j.queue.filter (· ≠ .phase a) }
    if (s.axis a).drive.state == .standstill then
      let s := storeLearned a s
      let s := if valid then takeComm a s else s
      enterParked a valid s
    else
      match (s.axis a).drive.stoSince with
      | some t => if t + 50000 ≤ s.us then endStoDwell a s else s
      | none => s

/-- While the store is FAILED a park completes 10 ms after its record was due, with PHASE_VALID cleared (R398). -/
def parkTimeout (a : Nat) (s : State) : State :=
  let d := (s.axis a).drive
  if d.state == .standstill && d.recordDue.isSome && storeFailed s then
    enterParked a false s
  else s

/-- The disable ramp ends (R111). -/
def endDisableRamp (a : Nat) (s : State) : State :=
  if disabling (s.axis a).drive then
    takeQueuedEnable a (s.modDrive a fun d =>
      { d with state := .disabled, ramp := none, phaseValid := false, iSel := 0, iApplied := 0 })
  else s

/-! ## Requests of the host or the sequencer (R111, R113) -/

/-- ENABLE (R111, R113). -/
def reqEnable (a : Nat) (s : State) : State × Status :=
  let d := (s.axis a).drive
  if d.state == .fault then (s, .doorwayStateForbids)
  else if (d.state == .sto && !d.stoDone) || parking d || disabling d then
    (s.modDrive a fun d => { d with enableQueued := true }, .shutdownInProgress)
  else if d.energised then (s, .ok)
  else if d.demanded then (s, .safetyLocked)
  else (enableAxis a s, .ok)

/-- DISABLE (R111, R93). It discards a queued ENABLE and a held target. During a park sequence, which always completes, it
acts on the parked axis; in STOPPING, for which R111 has no row, it changes nothing else (DESIGN CHOICE, log 26). -/
def reqDisable (a : Nat) (s : State) : State × Status :=
  let d := (s.axis a).drive
  let s := s.modAxis a fun x => { x with queued := none, jogQueued := none, drive := { x.drive with enableQueued := false, afterEnable := none } }
  match d.state with
  | .standstill =>
    if parking d then (s.modDrive a fun d => { d with disableAtRest := true }, .ok)
    else if disabling d then (s, .ok) else (startDisableRamp a (disableHoming a s), .ok)
  | .parked => (s.modDrive a fun d => { d with state := .disabled, phaseValid := false }, .ok)
  | .moving | .homing =>
    let s := disableHoming a s
    let s := s.modDrive a fun d => { d with disableAtRest := true }
    if moving s a then (stopPath a .quick s, .ok) else (startDisableRamp a s, .ok)
  | _ => (s, .ok)

/-- PARK (R111). -/
def reqPark (a : Nat) (s : State) : State × Status :=
  let d := (s.axis a).drive
  match d.state with
  | .parked => (s, .ok)
  | .standstill =>
    if parking d then (s, .ok) else if disabling d then (s, .axisBusy) else (startParkRamp a s, .ok)
  | .disabled | .fault => (s, .doorwayStateForbids)
  | .sto => (s, if d.stoDone then .doorwayStateForbids else .axisBusy)
  | _ => (s, .axisBusy)

/-! ## Stage faults (R120 to R122) -/

/-- `AX[a].STAGE_FAULT` as read. -/
def stageFaultWord (s : State) (a : Nat) : Nat :=
  let w := (s.axis a).drive.stageFault
  (w &&& 0x8FFE#16).toNat + b2n ((w &&& 0x8FFE#16) != 0)

/-- Latch a bit and raise the stage event (R120). -/
def latchStage (a bitNo : Nat) (s : State) : State :=
  if (s.axis a).drive.stageFault.getLsbD bitNo then s
  else
    let cnt := counting s a
    let s := s.modAxis a fun x =>
      { x with ltStage := if cnt then inc32 x.ltStage else x.ltStage, drive := { x.drive with stageFault := setBit x.drive.stageFault bitNo true } }
    raiseAxis a 3 (stageFaultWord s a) false s

/-- A latch of overcurrent or short counts toward OC_LOCK (R121). -/
def countOc (a : Nat) (s : State) : State :=
  s.modDrive a fun d =>
    let l := s.us :: d.ocTimes.filter fun t => s.us ≤ t + 600000000
    { d with ocTimes := l, stageFault := if 3 ≤ l.length then setBit d.stageFault 15 true else d.stageFault }

/-- Overcurrent and the shorts: the bridges open at once (R120). -/
def ocFault (a bitNo : Nat) (s : State) : State :=
  if s.axOn a then
    let new := !(s.axis a).drive.stageFault.getLsbD bitNo
    let s := openBridges a true s
    latchStage a bitNo (if new then countOc a s else s)
  else s

/-- Open phase and overtemperature: a moving axis quick-stops first (R120). -/
def slowFault (a bitNo : Nat) (s : State) : State :=
  if s.axOn a then
    let s := latchStage a bitNo s
    if moving s a then
      (stopPath a .quick s).modDrive a fun d => { d with faultAtRest := true }
    else openBridges a true s
  else s

/-- DRIVE undervoltage and overvoltage: every energised axis (R120). -/
def busFault (bitNo : Nat) (s : State) : State :=
  each 24 (fun s a =>
    if s.axOn a && (s.axis a).drive.energised then
      let s := openBridges a (bitNo ≠ 10) s
      let s := if bitNo = 10 then s.modDrive a fun d => { d with phaseValid := false } else s
      latchStage a bitNo s
    else s) s

/-- Nominal DRIVE voltage in V (R120). -/
def driveNomV (s : State) : Nat :=
  let p := s.modN .driveNom
  if p = 0 then s.sup.driveNom else p

/-- Whether the condition of a latched bit is still present (R121): temperature not below 125.0 °C, bus outside its
limits. -/
def stageCondition (s : State) (a bitNo : Nat) : Bool :=
  if bitNo = 9 then 1250 ≤ (s.axis a).drive.stageTemp
  else if bitNo = 10 then s.sup.driveVolt < 600 * driveNomV s
  else if bitNo = 11 then 175000 < s.sup.driveVolt
  else false

/-- An axis without latched bits leaves FAULT (R111). -/
def leaveFault (a : Nat) (s : State) : State :=
  let d := (s.axis a).drive
  if d.state == .fault && (d.stageFault &&& 0x8EFE#16) == 0 && !d.injFault then
    let s := s.modDrive a fun d => { d with state := .disabled, phaseValid := false }
    -- the phase is lost: this STO writes no record
    if d.demanded then (startSto a true s).modDrive a fun d => { d with recordDue := none } else s
  else s

/-- Clear latched bits (R121): none but OC_LOCK while OC_LOCK is set. -/
def clearStage (a mask : Nat) (s : State) : State :=
  let s := s.modDrive a fun d => { d with injFault := false }
  let s :=
    if bit mask 15 && (s.axis a).drive.stageFault.getLsbD 15 then
      s.modDrive a fun d => { d with stageFault := setBit d.stageFault 15 false, ocTimes := [] }
    else s
  let s :=
    if (s.axis a).drive.stageFault.getLsbD 15 then s
    else
      [1, 2, 3, 4, 5, 6, 7, 9, 10, 11].foldl (fun s b =>
        if bit mask b && !stageCondition s a b then s.modDrive a fun d => { d with stageFault := setBit d.stageFault b false }
        else s) s
  leaveFault a s

/-- An injected stage fault (R456): the reaction of an open phase with no bit latched. -/
def injectedStage (a : Nat) (s : State) : State :=
  let s := s.modDrive a fun d => { d with injFault := true }
  if moving s a then (stopPath a .quick s).modDrive a fun d => { d with faultAtRest := true } else openBridges a true s

def effectOtWarning (a : Nat) (t : Int) (s : State) : State :=
  if s.axOn a then
    let was := (s.axis a).drive.stageFault.getLsbD 8
    let s := s.modDrive a fun d => { d with stageTemp := t }
    if 1350 ≤ t && !was then
      raise 193 (1 + 256 * a) (s.modDrive a fun d => { d with stageFault := setBit d.stageFault 8 true })
    else s
  else s

def effectOtCleared (a : Nat) (t : Int) (s : State) : State :=
  if s.axOn a then
    s.modDrive a fun d =>
      { d with stageTemp := t, stageFault := if t < 1250 then setBit d.stageFault 8 false else d.stageFault }
  else s

def effectOvertemperature (a : Nat) (t : Int) (s : State) : State :=
  let s := if s.axOn a then s.modDrive a fun d => { d with stageTemp := t } else s
  if 1500 ≤ t then slowFault a 9 s else s

def effectUndervoltage (mV : Nat) (s : State) : State :=
  let s := s.modSup fun u => { u with driveVolt := mV }
  if mV < 600 * driveNomV s then busFault 10 s else s

def effectOvervoltage (mV : Nat) (s : State) : State :=
  let s := s.modSup fun u => { u with driveVolt := mV }
  if 175000 < mV then busFault 11 s else s

/-! ## Load angle (R118, R119) -/

/-- Measurement is active on an axis now (R119). -/
def bemfOn (s : State) (a : Nat) : Bool :=
  let x := s.axis a
  let d := x.drive
  d.state == .homing ||
    ((d.state == .moving || (d.state == .standstill && x.by_ == .graze)) && x.ramp.isNone &&
      (x.by_ == .graze || d.recovery.isSome || 0 < d.laLeft))

/-- Full steps per second of the commanded motion (256 microsteps a full step). -/
def fullStepRate (s : State) (a : Nat) : Rat := absR (s.axis a).cmdV / (256 * umStep s a)

/-- A sample of the stage converter in µV at its resolution: 5 mV up to 10 V and 80 mV above (R118; the nearest step,
DESIGN CHOICE, log 70). -/
def adcVolt (uv : Int) : Int :=
  let step : Int := if absI uv ≤ 10000000 then 5000 else 80000
  rnd ((uv : Rat) / (step : Rat)) * step

/-- Whether the phase target at the crossing nearest to φ rises in the direction of motion: phase A crosses upward at 0 and
downward at 512, phase B downward at 256 and upward at 768 (R102). -/
def risingCross (s : State) (a : Nat) : Bool :=
  let z := (phaseOf s a + 128) / 256 % 4
  let up := z = 0 || z = 3
  let forward := decide (0 < (s.axis a).cmdV) != decide (s.axp a .motorInv = 1)
  up == forward

/-- The load angle of 8 samples of the phase voltage in µV (R118), in 0.1°. The sign of the mean is kept at a crossing that
rises in the direction of motion and turned at one that falls (DESIGN CHOICE, log 70: R118 gives no table of signs). -/
def loadAngle (s : State) (a : Nat) (samples : List Int) : Int :=
  let v : Rat := ((samples.map adcVolt).foldl (· + ·) 0 : Int) / 8
  let k : Rat := (s.axp a .ke : Rat) * fullStepRate s a
  if k ≤ 0 then 0 else asin10 ((if risingCross s a then v else -v) / k)

/-- Measurement is active and the axis turns fast enough (R118). -/
def bemfMeasures (s : State) (a : Nat) : Bool := bemfOn s a && (s.axp a .bemfMinSps : Rat) ≤ fullStepRate s a

/-- Take a measurement; the result says whether it and the one before reach a threshold (R171). The first 8 of a recovery
move decide a realignment (R117). -/
def takeLoadAngle (a : Nat) (samples : List Int) (limit : Int) (s : State) : State × Bool :=
  if bemfMeasures s a && samples.length = 8 then
    let la := loadAngle s a samples
    let prev := (s.axis a).drive.laPrev
    let stall := limit ≤ la && (match prev with | some p => decide (limit ≤ p) | none => false)
    let s := s.modDrive a fun d =>
      { d with loadAngle := la, laAt := some s.us, laPrev := some la, laLeft := d.laLeft - 1,
               recovery := d.recovery.map fun r => (r.1 + la, r.2 + 1) }
    match (s.axis a).drive.recovery with
    | some (sum, n) =>
      if n = 8 then
        let s := s.modDrive a fun d => { d with recovery := none }
        if 450 * 8 < sum then (realignFailed a s, stall)
        else (if posValid s a || (s.axis a).drive.state == .homing then s else setPosValid a false s, stall)
      else (s, stall)
    | none => (s, stall)
  else (s, false)

/-- `AX[a].LA_VALID` (R118). -/
def laValid (s : State) (a : Nat) : Bool :=
  match (s.axis a).drive.laAt with
  | some t => s.us < t + 50000
  | none => false

/-! ## Rest (R111, R92, R95) -/

/-- An axis reaches the end of its profile or ramp: the commanded position takes its end, shadow values are applied, the
hold delay starts; a disable, a fault or the STO that waited for rest follow. -/
def arriveAxis (a : Nat) (s : State) : State :=
  let x := s.axis a
  match x.elapsed with
  | none => s
  | some _ =>
    let wasRamp := x.ramp
    let s := s.modAxis a fun x => { x with elapsed := some (maxR (x.elapsed.getD 0) (planDur x.plan.phases)) }
    let s := followPlan a 0 s
    let s := s.modAxis a fun x =>
      { x with elapsed := none, ramp := none, cmdV := 0, cmdA := 0, camOf := none, path := [],
               jog := none, safeStop := none,
               devUntil := if wasRamp.isNone then some (s.us + 100000) else none
               drive := { x.drive with state := if x.drive.state == .safeStopping then .safeStopping else .standstill,
                                       laLeft := if wasRamp.isNone then 0 else x.drive.laLeft, recovery := none,
                                       holdAt := some (s.us + 1000 * s.axN a .holdDelayMs) } }
    -- SAFE_STOPPING goes on to STO, which is at rest only with its dwell over (R92)
    let s := if wasRamp = some .safeStop then s else restShadows a s
    let d := (s.axis a).drive
    if d.faultAtRest then openBridges a true s
    else if wasRamp = some .safeStop then
      -- the monitor of R208 goes on until the observer sees the axis at rest
      (startSto a true s).modAxis a fun y => { y with safeStop := x.safeStop }
    else if d.disableAtRest then startDisableRamp a s
    else s

end Sys2Proof.Machine
end

