-- ==== Sys2Proof/Machine/Chopper.lean ====
section
/-! DEFINITION. The choppers of the two bridges of an axis (R101, R102, R108 to R110) in samples of 25 ns, and the opening of
a bridge for a back-EMF measurement (R118). -/

namespace Sys2Proof.Machine

/-! ## Targets (R102) -/

/-- T(i) of a sine table; T(256) is always 4,095. -/
def sineAmp (t : List Nat) (i : Nat) : Int := if i = 256 then 4095 else (lget t i 0 : Nat)

/-- Amplitudes of phase A and phase B at an electrical phase. -/
def phaseAmps (t : List Nat) (phi : Nat) : Int × Int :=
  let i := phi % 256
  let x := sineAmp t i
  let y := sineAmp t (256 - i)
  match phi / 256 % 4 with
  | 0 => (x, y)
  | 1 => (y, -x)
  | 2 => (-x, -y)
  | _ => (-y, x)

/-- Target currents of the two phases in mA at a microstep position, with the applied current in units of 31.25 mA. -/
def phaseTargets (s : State) (a : Nat) (t : List Nat) (units : Nat) (p : Int) : Rat × Rat :=
  let m := phaseAmps t (phaseAt s a p)
  let i : Rat := (units : Rat) * 125 / 4
  ((m.1 : Rat) / 4095 * i, (m.2 : Rat) / 4095 * i)

/-! ## One bridge (R108 to R110) -/

/-- The chopper times of an axis in samples: blanking, off phase, and fast decay with a rising or constant and with a falling
magnitude (R108, R109). -/
structure ChopTimes where
  blank : Nat
  off : Nat
  rise : Nat
  fall : Nat
  deriving DecidableEq, Repr

def chopTimes (s : State) (a : Nat) : ChopTimes :=
  let off := 20 * s.axN a .toff
  let share (pct : Nat) : Nat := off * pct / 100
  let fall := share (s.axN a .fastFallPct)
  match s.axN a .decay with
  | 0 => ⟨10 * s.axN a .tblank, off, 0, 0⟩
  | 1 => ⟨10 * s.axN a .tblank, off, fall, fall⟩
  | _ => ⟨10 * s.axN a .tblank, off, share (s.axN a .fastRisePct), fall⟩

/-- The off phase begins with a length of fast decay. -/
def Chopper.enterOff (c : Chopper) (fast : Nat) : Chopper :=
  { c with mode := if fast = 0 then .slow else .fast, n := 0, fast := fast }

/-- The fast share of an off phase that begins now (R109). -/
def Chopper.share (c : Chopper) (t : ChopTimes) : Nat := if c.falling then t.fall else t.rise

/-- The on-time limit of R108 step 4: 100 µs. -/
def onLimit : Nat := 4000

/-- One sample of a chopping bridge: the target and the measured current in mA, both signed (R108, R110). The comparator sees
the current in the direction of the target. -/
def chopSample (t : ChopTimes) (target : Rat) (i : Int) (c : Chopper) : Chopper :=
  let neg := decide (target < 0)
  if target = 0 then { c with mode := .zero, n := 0 }
  else
    match c.mode with
    | .off | .opened | .release => { c with mode := .drive, n := 0, neg := neg }
    | m =>
      if neg != c.neg then { c.enterOff t.off with neg := neg }
      else
        match m with
        | .drive =>
          let n := c.n + 1
          if t.blank ≤ n && absR target ≤ ((if neg then -i else i : Int) : Rat) then
            -- a trip at the first sample after blanking is followed by full fast decay (R110)
            c.enterOff (if n = t.blank then t.off else c.share t)
          else if onLimit ≤ n then c.enterOff (c.share t)
          else { c with n := n }
        | .fast | .slow =>
          let n := c.n + 1
          if t.off ≤ n then { c with mode := .drive, n := 0 }
          else { c with mode := if n < c.fast then .fast else .slow, n := n }
        | _ => { c with mode := .drive, n := 0 }

/-- One sample of a bridge in the zone of a measurement: fast decay below 50 mA, then both legs open (R118). -/
def measureSample (i : Int) (c : Chopper) : Chopper :=
  if c.mode == .opened || absI i < 50 then { c with mode := .opened } else { c with mode := .release }

/-- φ lies within 8 microsteps of a zero crossing of phase A (at 0 and 512) or phase B (at 256 and 768). -/
def crossZone (phi : Nat) (phaseB : Bool) : Bool :=
  let x := (phi + (if phaseB then 256 else 0)) % 512
  x ≤ 8 || 504 ≤ x

/-! ## One axis in one tick (R101) -/

/-- Both bridges of an axis, and whether one of them has been open. -/
structure Bridges where
  a : Chopper
  b : Chopper
  opened : Bool

/-- One sample of both bridges at a microstep position, the position one sample before, and the two currents. -/
def bridgeSample (s : State) (x : Nat) (t : List Nat) (units : Nat) (m : ChopTimes) (meas : Bool) (p0 p : Int) (i : Int × Int)
    (c : Bridges) : Bridges :=
  let tgt := phaseTargets s x t units p
  let old := phaseTargets s x t units p0
  let fallen (c : Chopper) (v0 v : Rat) : Chopper := if p0 = p then c else { c with falling := decide (absR v < absR v0) }
  let phi := phaseAt s x p
  let one (b : Bool) (v0 v : Rat) (i : Int) (c : Chopper) : Chopper :=
    let c := fallen c v0 v
    if meas && crossZone phi b then measureSample i c else chopSample m v i c
  let a := one false old.1 tgt.1 i.1 c.a
  let b := one true old.2 tgt.2 i.2 c.b
  ⟨a, b, c.opened || a.mode == .opened || b.mode == .opened⟩

/-- The samples of a tick, the k-th at 25 ns × k; the tick's microsteps are issued evenly spaced. -/
def bridgeSamples (s : State) (x : Nat) (t : List Nat) (units : Nat) (m : ChopTimes) (meas : Bool) (p0 n : Int) :
    Nat → Int → List (Int × Int) → Bridges → Bridges
  | _, _, [], c => c
  | k, last, i :: r, c =>
    let p := p0 + n * (k : Int) / 800
    bridgeSamples s x t units m meas p0 n (k + 1) p r (bridgeSample s x t units m meas last p i c)

/-- A bridge of a tick for which no samples are shown: it chops, or stands open in the zone of a measurement. -/
def bridgeIdle (open_ : Bool) (c : Chopper) : Chopper :=
  if open_ then { c with mode := .opened }
  else
    match c.mode with
    | .off | .opened | .release => { c with mode := .drive, n := 0 }
    | _ => c

/-- The choppers of an axis through one tick (R108, R118). -/
def tickChop (a : Nat) (samples : List (Int × Int)) (s : State) : State :=
  let d := (s.axis a).drive
  if !d.energised then
    if d.chopA = Chopper.off && d.chopB = Chopper.off && !d.bridgeOpen then s
    else s.modDrive a fun d => { d with chopA := Chopper.off, chopB := Chopper.off, bridgeOpen := false }
  else
    let meas := bemfMeasures s a
    let um := umStep s a
    let p0 := rnd ((s.axis a).cmdPrev / um)
    let p1 := ustepOf s a
    if samples = [] then
      let za := meas && crossZone (phaseAt s a p1) false
      let zb := meas && crossZone (phaseAt s a p1) true
      s.modDrive a fun d => { d with chopA := bridgeIdle za d.chopA, chopB := bridgeIdle zb d.chopB, bridgeOpen := za || zb }
    else
      let units := appliedUnits (selectedNow s a) d.derate (s.axis a).snap.iF
      let start : Bridges := ⟨d.chopA, d.chopB, d.chopA.mode == .opened || d.chopB.mode == .opened⟩
      let c := bridgeSamples s a (sineFor s a) units (chopTimes s a) meas p0 (p1 - p0) 0 p0 (samples.take 800) start
      s.modDrive a fun d => { d with chopA := c.a, chopB := c.b, bridgeOpen := c.opened }

end Sys2Proof.Machine
end

