-- ==== Sys2Proof/Machine/Real32.lean ====
section
/-! DEFINITION. IEEE 754 binary32 as the logic plan uses it (R262): exact values as rationals, rounded to nearest with ties
to even. The bits of a NaN result are left open by the spec: a free value. -/

namespace Sys2Proof.Machine

abbrev Word32 := BitVec 32

def f32Exp (x : Word32) : Nat := (x.toNat / 0x800000) % 256
def f32Frac (x : Word32) : Nat := x.toNat % 0x800000
def f32Neg (x : Word32) : Bool := x.getLsbD 31
def f32Nan (x : Word32) : Bool := f32Exp x = 255 && f32Frac x ≠ 0
def f32Inf (x : Word32) : Bool := f32Exp x = 255 && f32Frac x = 0
/-- A result that sets ERR (R262). -/
def f32Bad (x : Word32) : Bool := f32Exp x = 255
def f32Zero (x : Word32) : Bool := x.toNat % 0x80000000 = 0

/-- The magnitude of a finite number. -/
def f32Mag (x : Word32) : Rat :=
  if f32Exp x = 0 then (f32Frac x : Rat) / (2 ^ 149 : Nat)
  else ((0x800000 + f32Frac x : Nat) : Rat) * (2 ^ f32Exp x : Nat) / (2 ^ 150 : Nat)
def f32Val (x : Word32) : Rat := if f32Neg x then -f32Mag x else f32Mag x

/-- The nearest integer to a non-negative number, ties to even. -/
def roundEven (q : Rat) : Nat :=
  let n := q.floor.toNat
  let r := q - (n : Rat)
  if r < 1 / 2 then n else if r = 1 / 2 then n + n % 2 else n + 1

/-- Exponent of the highest power of two not above a positive number. -/
def floorLog2 (q : Rat) : Int :=
  let e : Int := (Nat.log2 q.num.toNat : Int) - (Nat.log2 q.den : Int)
  if pow2 e ≤ q then e else e - 1
where pow2 (e : Int) : Rat := if 0 ≤ e then ((2 ^ e.toNat : Nat) : Rat) else 1 / ((2 ^ (-e).toNat : Nat) : Rat)

def f32Sign (neg : Bool) (mag : Nat) : Word32 := BitVec.ofNat 32 (mag + if neg then 0x80000000 else 0)
def f32InfOf (neg : Bool) : Word32 := f32Sign neg 0x7F800000

/-- The magnitude bits of a positive number, rounded to nearest. -/
def f32Bits (q : Rat) : Nat :=
  let k : Int := max (-149) (floorLog2 q - 23)
  let n := roundEven (if 0 ≤ k then q / ((2 ^ k.toNat : Nat) : Rat) else q * ((2 ^ (-k).toNat : Nat) : Rat))
  if n < 0x800000 then n else min 0x7F800000 ((k + 150).toNat * 0x800000 + (n - 0x800000))

/-- A rational as the nearest REAL; `neg` is the sign of a zero. -/
def f32Of (neg : Bool) (q : Rat) : Word32 :=
  if q = 0 then f32Sign neg 0 else if q < 0 then f32Sign true (f32Bits (-q)) else f32Sign false (f32Bits q)

/-- A quiet NaN whose sign and payload are open. -/
def f32NanOf (ops : List Word32) : Word32 :=
  BitVec.ofInt 32 (Config.open_ 900 (ops.map fun x => (x.toNat : Int))) ||| 0x7FC00000

def f32FromInt (x : Int) : Word32 := f32Of false (x : Rat)
def f32NegOf (x : Word32) : Word32 := x ^^^ 0x80000000
def f32Abs (x : Word32) : Word32 := x &&& 0x7FFFFFFF

def f32Add (x y : Word32) : Word32 :=
  if f32Nan x || f32Nan y then f32NanOf [x, y]
  else if f32Inf x then (if f32Inf y && f32Neg x ≠ f32Neg y then f32NanOf [x, y] else x)
  else if f32Inf y then y
  else f32Of (f32Zero x && f32Zero y && f32Neg x && f32Neg y) (f32Val x + f32Val y)
def f32Sub (x y : Word32) : Word32 := f32Add x (f32NegOf y)

def f32Mul (x y : Word32) : Word32 :=
  let neg := f32Neg x != f32Neg y
  if f32Nan x || f32Nan y || (f32Inf x && f32Zero y) || (f32Zero x && f32Inf y) then f32NanOf [x, y]
  else if f32Inf x || f32Inf y then f32InfOf neg
  else f32Of neg (f32Val x * f32Val y)

/-- Division; a zero divisor gives 0 (R262, which the caller answers with ERR). -/
def f32Div (x y : Word32) : Word32 :=
  let neg := f32Neg x != f32Neg y
  if f32Zero y then 0
  else if f32Nan x || f32Nan y || (f32Inf x && f32Inf y) then f32NanOf [x, y]
  else if f32Inf x then f32InfOf neg
  else if f32Inf y then f32Sign neg 0
  else f32Of neg (f32Val x / f32Val y)

/-- A REAL that is not a NaN on the extended line: -1, 0, 1 for -∞, finite, +∞, and the finite value. -/
def f32Ext (x : Word32) : Int × Rat :=
  if f32Inf x then (if f32Neg x then (-1, 0) else (1, 0)) else (0, f32Val x)
def f32Lt (x y : Word32) : Bool :=
  !f32Nan x && !f32Nan y &&
    (let a := f32Ext x; let b := f32Ext y
     decide (a.1 < b.1) || (decide (a.1 = b.1) && decide (a.2 < b.2)))
def f32Eq (x y : Word32) : Bool := !f32Nan x && !f32Nan y && decide (f32Ext x = f32Ext y)

/-- TO_INT (R264): rounded half away from zero, saturating at bounds; the flag is ERR. -/
def f32ToInt (lo hi : Int) (x : Word32) : Int × Bool :=
  if f32Nan x then (0, true)
  else if f32Inf x then (if f32Neg x then lo else hi, true)
  else
    let n := rnd (f32Val x)
    if n < lo then (lo, true) else if hi < n then (hi, true) else (n, false)

end Sys2Proof.Machine
end

