-- ==== Sys2Proof/Machine/Elapse.lean ====
section
/-! DEFINITION. Time that passes: operating time (R382), the network clocks and module time (R341, R342), hours energised and
hours hot (R333, R448). -/

namespace Sys2Proof.Machine

/-- A frequency correction on the grid of R341, within ± a limit in ppm. -/
def ratePpm (x : Rat) (ppm : Nat) : Rat :=
  let lim : Rat := (ppm : Rat) / 1000000
  (rnd (maxR (-lim) (minR lim x) * 34359738368) : Rat) / 34359738368

/-- The follower of R342: the frequency of module time while it follows a network's clock. It is at most the clock's own
with a correction toward the clock; the spec gives its limit and not its loop, so the share of the difference that it takes
is open. -/
def followRate (s : State) (c : Clock) (dt : Rat) : Rat :=
  let want := (c.ns - s.time.ns) / dt
  let share : Rat := ((Config.open_ 950 [(s.us : Int)] % 1001 : Int) : Rat) / 1000
  ratePpm (c.rate + ratePpm (want - c.rate) (s.netN .slewPpm) * share) (s.netN .slewPpm)

/-- The clocks after a number of µs. -/
def elapseClocks (us : Nat) (s : State) : State :=
  let dt : Rat := (us * 1000 : Nat)
  let s := if s.time.trusted = 0 then s
    else let r := followRate s (s.clock (s.time.trusted - 1)) (maxR 1 dt); s.modTime fun t => { t with rate := r }
  s.modTime fun t =>
    { t with ns := t.ns + dt * (1 + t.rate), clocks := t.clocks.map fun c => { c with ns := c.ns + dt * (1 + c.rate) } }

/-- A number of µs passes. -/
def elapse (us : Nat) (s : State) : State :=
  let s := elapseClocks us { (if s.boot.power == .off then s else advanceOp us s) with us := s.us + us }
  let s := { s with ax := s.ax.mapIdx fun a (x : Axis) =>
                      if x.drive.energised && counting s a then { x with ltEnergUs := x.ltEnergUs + us } else x }
  s.modSup fun u =>
    { u with base105Us := if 1050 < u.baseTemp && s.boot.power != .off then u.base105Us + us else u.base105Us,
             base125Us := if 1250 < u.baseTemp && s.boot.power != .off then u.base125Us + us else u.base125Us }

end Sys2Proof.Machine
end

