-- ==== Sys2Proof/Machine/Homing.lean ====
section
/-! DEFINITION. Homing (R151 to R156) and the pair readings it needs. -/

namespace Sys2Proof.Machine

/-! ## Pair readings -/

def pairResult (s : State) (lane : Lane) (p : Nat) : PairResult := (s.pair lane p).result
/-- A pair reports active, as Ibex evaluates it. -/
def pairActive (s : State) (p : Nat) : Bool := pairResult s .ibex p == .active
/-- Both contacts open: the locked pair reports inactive. -/
def pairInactive (s : State) (p : Nat) : Bool := pairResult s .ibex p == .inactive

/-! ## Moves of a homing -/

/-- A homing move over a signed distance (R151 step 3). -/
def homeMove (a : Nat) (dist : Rat) (v : Int) (s : State) : State :=
  if dist = 0 then s
  else
    let sg : Rat := if dist < 0 then -1 else 1
    let acc := s.axp a .homeAcc
    let j := s.axp a .jerkOpen
    go false a
      { kind := .homing, phases := scalePlan sg (pointPlan (absR dist) (v : Rat) (acc : Rat) (j : Rat)),
        target := rnd ((s.axis a).cmd + dist), by_ := .homing, limit := 0, leader := false, fromQueue := false,
        byPoint := false, v := v, acc := acc, jerk := j, closing := false, path := [a], ratio := sg, camOf := none } s

/-- Search direction of the axis's homing type (R152): 0 for a type without motion. -/
def searchDir (s : State) (a : Nat) : Rat :=
  match s.axN a .homeType with
  | 1 => -1
  | 5 => 1
  | 2 | 3 => if s.axp a .homeDir = 1 then 1 else -1
  | _ => 0

/-- A search of at most `HOME_MAX_DIST` before its ramp to rest. -/
def searchMove (a : Nat) (dir : Rat) (v : Int) (s : State) : State :=
  let stop := changeDist (v : Rat) 0 (s.axp a .homeAcc : Rat) (s.axp a .jerkOpen : Rat)
  homeMove a (dir * ((s.axp a .homeMaxDist : Rat) + stop)) v s

def setHome (a : Nat) (p : HomePhase) (s : State) : State := s.modHome a fun h => { h with phase := p, cleared := false }

/-- Run on over a distance from the present motion and come to rest (R152, the clearance of a switch): the acceleration is
taken off, the speed held, then taken off. Where the distance is too short for that, the axis ramps to rest at once. -/
def coast (a : Nat) (dist : Rat) (s : State) : State :=
  let x := s.axis a
  let q := planNow x
  let sg : Rat := if q.2.1 < 0 then -1 else 1
  let acc : Rat := (x.snap.acc : Rat)
  let j : Rat := (x.snap.jerk : Rat)
  let v0 := absR q.2.1
  let a0 := sg * q.2.2
  let out : List Phase := if a0 = 0 then [] else [⟨absR a0 / j * mega, if a0 < 0 then j else -j, v0, a0⟩]
  let v := v0 + a0 * absR a0 / (2 * j)
  let level := dist - planDist out - changeDist v 0 acc j
  if v ≤ 0 ∨ level < 0 then stopPath a .own s
  else
    let before := cutPlan x.plan.phases (x.elapsed.getD 0)
    let ps := before ++ scalePlan sg (out ++ levelPhase v level ++ changePhases v 0 acc j)
    s.modAxis a fun x =>
      { x with plan := { x.plan with phases := ps, endPos := rnd (x.plan.startPos + planDist ps) },
               elapsed := some (planDur before) }

/-! ## Completion and failure -/

/-- An axis whose homing ends at rest stands; its hold delay starts where no arrival has started it (R106). -/
def homeStand (a : Nat) (s : State) : State :=
  let delay := s.us + 1000 * s.axN a .holdDelayMs
  s.modDrive a fun d =>
    if d.state == .homing then { d with state := .standstill, holdAt := some (d.holdAt.getD delay) } else d

/-- The homing is complete (R151 step 7). -/
def homeComplete (a : Nat) (s : State) : State :=
  let s := takeComm a s
  let s := setPosValid a (s.axN a .homeType = 3) s
  let cnt := counting s a
  homeStand a (s.modAxis a fun x =>
    { x with ltHomings := if cnt then inc32 x.ltHomings else x.ltHomings,
             home := { x.home with phase := .idle, status := 2, until_ := none, refCount := none, done := true } })

/-- The coordinates are redefined and the axis moves to `HOME_END_POS` (R151 steps 5 and 6). -/
def homeRedefine (a : Nat) (ref value : Int) (toEnd : Bool) (s : State) : State :=
  let s := redefine a ref value s
  if toEnd then
    let s := applyLimits a (setHome a .toEnd s)
    let dist : Rat := (s.axp a .homeEndPos : Rat) - (s.axis a).cmd
    let s := s.modDrive a fun d => { d with state := .standstill }
    let s := homeMove a dist (s.axp a .homeVSearch) s
    if moving s a then s else homeComplete a s
  else homeComplete a s

/-- Axis ready to move: STANDSTILL with no current ramp but the hold reduction. -/
def readyToMove (s : State) (a : Nat) : Bool :=
  let d := (s.axis a).drive
  d.state == .standstill && d.recordDue.isNone &&
    (match d.ramp with | none | some (.hold, _) => true | _ => false)

/-- The back-off of a failed attempt, from rest (R155 step 3). An axis that cannot move waits for the retry. -/
def backOffMove (a : Nat) (s : State) : State :=
  let dir := searchDir s a
  let s := homeStand a (setHome a .backOff s)
  if !readyToMove s a then setHome a .retryWait s else
  let s := homeMove a (-dir * (s.axp a .homeRetryDist : Rat)) (s.axp a .homeVSearch) s
  if moving s a then s else setHome a .retryWait s

/-- A failed attempt (R155). A homing of the host ends; one of the sequencer backs off and is retried 2,000 ms later, counted
from the failure (DESIGN CHOICE, log 25: R155 does not say from where). -/
def homeFail (a cause : Nat) (s : State) : State :=
  let h := (s.axis a).home
  let s := s.modHome a fun h => { h with status := cause, refCount := none, cleared := false }
  if h.byHost then
    let s := s.modHome a fun h => { h with phase := .idle, until_ := none }
    if moving s a then stopPath a .own s else homeStand a s
  else
    let s := if h.failRaised then s else raiseAxis a 0 4 false s
    let s := s.modHome a fun h => { h with failRaised := true, until_ := some (s.us + 2000000), phase := .backOff }
    if moving s a then stopPath a .own s else backOffMove a s

/-- A stop that reaches an axis in homing aborts it (R156); the ramp itself has been started by the caller. -/
def homeAborted (a : Nat) (s : State) : State :=
  let h := (s.axis a).home
  if h.phase == .idle || h.phase == .retryWait then s
  else if h.byHost then
    homeStand a (s.modHome a fun h => { h with phase := .idle, status := 7, until_ := none, refCount := none })
  else
    let s := s.modHome a fun h => { h with status := 7, refCount := none, cleared := false }
    let s := if h.failRaised then s else raiseAxis a 0 4 false s
    let s := s.modHome a fun h => { h with failRaised := true, until_ := some (s.us + 2000000), phase := .backOff }
    if moving s a then s else backOffMove a s

/-- Stop requests on a path, homing included (R96, R156). -/
def requestStop (a : Nat) (r : RampKind) (s : State) : State :=
  let axes := pathAxes s a
  let s := axes.foldl (fun s b => discardQueue b s) s
  let before := (s.axis a).ramp
  let s := stopPath a r s
  if (s.axis a).ramp = before && moving s a then s else axes.foldl (fun s b => homeAborted b s) s

/-! ## Starting -/

/-- An axis that a move needs is enabled where it can be (R63); before the precharge it waits (R414). -/
def wakeAxis (a : Nat) (s : State) : State :=
  let d := (s.axis a).drive
  if parking d || disabling d then s.modDrive a fun d => { d with enableQueued := true }
  else if (d.state == .parked || d.state == .disabled || (d.state == .sto && d.stoDone)) && !d.demanded && s.sup.precharged
  then enableAxis a s
  else s

/-- The search of a homing on an energised axis (R152). -/
def homeSearch (a : Nat) (s : State) : State :=
  let dir := searchDir s a
  match s.axN a .homeType with
  | 0 => homeRedefine a ((s.axis a).fb.count + (s.axis a).fb.overflow) (s.axp a .homePos) false s
  | 4 =>
    if (s.axis a).fb.ssiOk && ssiAxisOf s (doorOf a) = some a then
      setHome a .ssiWait (s.modFb a fun b => { b with ssiLast := [] })
    else homeFail a 6 s
  | 2 | 3 =>
    if pinLevel s (s.axN a .homePin) then searchMove a (-dir) (s.axp a .homeVSearch) (setHome a .openSwitch s)
    else searchMove a dir (s.axp a .homeVSearch) (setHome a .search s)
  | _ => searchMove a dir (s.axp a .homeVSearch) (setHome a .search s)

/-- A homing whose axis has become ready goes on with its search. -/
def homeContinue (a : Nat) (s : State) : State :=
  if (s.axis a).home.phase == .search && !moving s a && readyToMove s a then homeSearch a s else s

/-- A homing begins (R151 steps 1 and 2). -/
def homeBegin (a : Nat) (byHost : Bool) (s : State) : State :=
  let s := clearPosValid a s
  let s := s.modHome a fun h =>
    { h with phase := .search, status := 1, byHost := byHost, until_ := none, refCount := none, cleared := false,
             done := false }
  let s := s.modAxis a fun x => { x with by_ := .homing }
  homeContinue a (wakeAxis a s)

/-! ## Events of a homing -/

/-- The axes homed together with an axis: both leaves of a BIPARTING or SINGLE_SLIDE doorway (R154, R155). -/
def homedWith (s : State) (a : Nat) : List Nat :=
  if (s.axis a).home.byHost || slotOf a = 2 || s.dtype (doorOf a) = tPlug then [a] else s.leafAxes (doorOf a)

/-- An axis searches for a stop (R152 types 1 and 5). -/
def seeksStop (s : State) (a : Nat) : Bool :=
  s.axOn a && (s.axis a).home.phase == .search && moving s a && (s.axN a .homeType = 1 || s.axN a .homeType = 5)

/-- The measured count lies more than HOME_STOP_DEV counts behind the commanded position (R153). -/
def lagsBehind (s : State) (a : Nat) : Bool :=
  decide ((s.axp a .homeStopDev : Rat) * umCount s a < searchDir s a * ((s.axis a).cmd - posExact s a))

/-- The search halts on its stop (R153, R154): no microstep follows; the settling begins when the last searching axis has
halted. -/
def homeHalt (a : Nat) (s : State) : State :=
  if seeksStop s a then
    let s := followPlan a 0 s
    let s := (s.modAxis a fun x => { x with elapsed := none, cmdV := 0, cmdA := 0, path := [], ramp := none })
    let s := setHome a .halted s
    let l := homedWith s a
    if l.all (fun b => (s.axis b).home.phase != .search) then
      l.foldl (fun s b =>
        if (s.axis b).home.phase == .halted then
          s.modHome b fun h => { h with phase := .settle, until_ := some (s.us + 1000 * s.axN b .homeSettleMs) }
        else s) s
    else s
  else s

/-- The stop criterion of the deviation holds (R153). -/
def effectHomeStop (a : Nat) (s : State) : State := if seeksStop s a && lagsBehind s a then homeHalt a s else s

/-- The closed pair agrees with a stop (R154). -/
def stopAgrees (s : State) (a : Nat) : Bool :=
  let d := doorOf a
  let checked_ := if s.dtype d = tPlug then slotOf a = 0 else slotOf a < 2
  if !checked_ then true
  else if s.axN a .homeType = 5 then pairInactive s (3 * d) else pairActive s (3 * d)

/-- Move the clock forward to a moment that a timer names. -/
def forwardTo (t : Option Nat) (s : State) : State :=
  match t with
  | some x => if s.us < x then elapse (x - s.us) s else s
  | none => s

/-- The hold reduction begins (R106). In the states in which the leaves are held at a force it waits (R106, R181). -/
def effectHoldExpiry (a : Nat) (s : State) : State :=
  match (s.axis a).drive.holdAt with
  | none => s
  | some t =>
    let l := (s.door (doorOf a)).leaf
    let held := isLeaf a && (l == .sealTest || l == .locking || l == .closedNotLocked)
    let s := forwardTo (some t) s
    if (s.axis a).drive.state == .standstill then
      if held then s
      else s.modDrive a fun d => { d with holdAt := none, ramp := some (.hold, s.us + 1000 * s.axN a .holdRampMs) }
    else s.modDrive a fun d => { d with holdAt := none }

/-- The settling ends (R154): every axis that settles with this one is judged. -/
def effectHomeSettle (a : Nat) (s : State) : State :=
  if (s.axis a).home.phase == .settle then
    let s := forwardTo (s.axis a).home.until_ s
    let l := (homedWith s a).filter fun b => (s.axis b).home.phase == .settle
    let ok := l.all fun b => stopAgrees s b
    l.foldl (fun s b =>
      if ok then homeRedefine b ((s.axis b).fb.count + (s.axis b).fb.overflow) (s.axp b .homePos) true s
      else homeFail b 3 s) s
  else s

/-- The home switch changes (R152). -/
def effectHomeSwitch (a : Nat) (active : Bool) (s : State) : State :=
  let h := (s.axis a).home
  let t := s.axN a .homeType
  if s.axOn a && moving s a && (t = 2 || t = 3) then
    match h.phase with
    | .openSwitch | .creepBack =>
      if !active && !h.cleared then
        coast a (s.axp a .homeClear : Rat) (s.modHome a fun h => { h with cleared := true })
      else s
    | .search => if active then stopPath a .own (s.modHome a fun h => { h with cleared := true }) else s
    | .creep =>
      if active && h.refCount.isNone then
        let c := (s.axis a).fb.count + (s.axis a).fb.overflow
        let s := s.modHome a fun h => { h with refCount := some c }
        if t = 2 then stopPath a .own s
        else coast a (((s.axp a .indexPeriod + 2 * s.axp a .indexTol : Int) : Rat) * umCount s a) s
      else s
    | _ => s
  else s

/-- A recognised index ends the creep of type 3 (R152). -/
def homeIndex (a : Nat) (c : Int) (s : State) : State :=
  let h := (s.axis a).home
  if h.phase == .creep && s.axN a .homeType = 3 && !h.cleared then
    match h.refCount with
    | some e =>
      if absI (c - e) ≤ s.axp a .indexPeriod + 2 * s.axp a .indexTol then
        stopPath a .own (s.modHome a fun h => { h with refCount := some c, cleared := true })
      else homeFail a 5 s
    | none => s
  else s

/-- A Z edge (R140): taken by a homing of type 3, else checked against the reference. -/
def effectIndexEdge (a : Nat) (rising : Bool) (s : State) : State :=
  let s := wireGood a 2 true s
  if indexSeenNow s a rising then
    let c := (s.axis a).fb.raw
    let s := s.modFb a fun b => { b with indexSeen := some c }
    if (s.axis a).home.phase == .creep then homeIndex a c s else takeIndex a c s
  else s

/-- A search of an axis that has not met what it seeks. -/
def searching (s : State) (a : Nat) : Bool :=
  let h := (s.axis a).home
  s.axOn a && moving s a && (s.axis a).ramp.isNone && !h.cleared && h.refCount.isNone &&
    (h.phase == .search || h.phase == .openSwitch || h.phase == .creepBack || h.phase == .creep)

/-- A search has travelled `HOME_MAX_DIST` (R151 step 4). -/
def effectHomeMaxDist (a : Nat) (s : State) : State :=
  let x := s.axis a
  if searching s a && decide ((s.axp a .homeMaxDist : Rat) ≤ absR ((planNow x).1 - x.plan.startPos)) then homeFail a 4 s
  else s

/-- The tick watches every homing for its stop and its distance (R151, R153). -/
def watchHoming (a : Nat) (s : State) : State := effectHomeMaxDist a (effectHomeStop a s)

/-- A good SSI frame in the wait of type 4. -/
def homeSsi (a : Nat) (pos count : Int) (s : State) : State :=
  if (s.axis a).home.phase == .ssiWait then
    match (s.axis a).fb.ssiLast with
    | [x, y, z] =>
      let lo := min x (min y z)
      let hi := max x (max y z)
      if hi - lo ≤ s.dwp (doorOf a) .ssiTol then homeRedefine a (count + (s.axis a).fb.overflow) pos false s else s
    | _ => s
  else s

def effectSsiEnd (d value status : Nat) (wireBad : Bool) (s : State) : State :=
  let r := takeSsi d value status wireBad s
  match r.2 with
  | some (a, pos, count) => homeSsi a pos count r.1
  | none =>
    -- a wait of type 4 fails when the port is no longer usable
    match ssiAxisOf s d with
    | some a => if (r.1.axis a).home.phase == .ssiWait && !(r.1.axis a).fb.ssiOk then homeFail a 6 r.1 else r.1
    | none => r.1

/-- The retry delay ends (R155 step 4). -/
def effectHomeRetry (a : Nat) (s : State) : State :=
  let h := (s.axis a).home
  if h.until_.isSome && h.phase == .retryWait then homeBegin a false (forwardTo h.until_ s)
  else if h.until_.isSome && h.phase == .backOff then
    (forwardTo h.until_ s).modHome a fun h => { h with until_ := none }
  else s

/-- An axis in homing has come to rest: the next part of its procedure (R152, R155). -/
def homeArrived (a : Nat) (s : State) : State :=
  let h := (s.axis a).home
  let dir := searchDir s a
  match h.phase with
  | .toEnd => homeComplete a s
  | .openSwitch => if h.cleared then searchMove a dir (s.axp a .homeVSearch) (setHome a .search s) else homeFail a 4 s
  | .search => if h.cleared then searchMove a (-dir) (s.axp a .homeVSearch) (setHome a .creepBack s) else homeFail a 4 s
  | .creepBack => if h.cleared then searchMove a dir (s.axp a .homeVCreep) (setHome a .creep s) else homeFail a 4 s
  | .creep =>
    match h.refCount with
    | none => homeFail a 4 s
    | some c =>
      if s.axN a .homeType = 3 then
        if h.cleared then
          let s := homeRedefine a c (s.axp a .homePos) true s
          s.modFb a fun b => { b.mark 13 true with indexPos := truncR ((s.axp a .homePos : Rat) / umCount s a) }
        else homeFail a 5 s
      else homeRedefine a c (s.axp a .homePos) true s
  | .backOff =>
    if (s.axis a).plan.kind == .stopRamp then backOffMove a s
    else if h.until_.isNone then homeBegin a false (setHome a .retryWait s) else setHome a .retryWait s
  | _ => s

end Sys2Proof.Machine
end

