-- ==== Sys2Proof/Machine/Obstacle.lean ====
section
/-! DEFINITION. Obstacle detection (R159 to R176) and the seal compliance test (R177 to R183): force estimate, bins, which
detection a move evaluates, the reaction of the fabric, regulation and judgement of the seal test. -/

namespace Sys2Proof.Machine

/-! ## Force (R159, R160) -/

/-- Lag in microsteps, without LAG0. -/
def lagOf (s : State) (a : Nat) : Rat := (ustepOf s a : Rat) - (s.axis a).fb.xEst / umStep s a

/-- The axes that the seal test runs on. -/
def testedAxes (s : State) (d : Nat) : List Nat :=
  if s.dtype d = tBiparting then [axisOf d 0, axisOf d 1] else [axisOf d 0]

/-- The leaves are regulated at a thrust (R177, R181). -/
def regulated (s : State) (a : Nat) : Bool :=
  let d := s.door (doorOf a)
  isLeaf a && (testedAxes s (doorOf a)).contains a && (s.axis a).drive.state == .standstill &&
    ((d.leaf == .sealTest && d.sealTest.step.isSome) ||
      ((d.leaf == .locking || d.leaf == .closedNotLocked) && d.sealTest.hold))

/-- Direction of travel (R160). -/
def dirOf (s : State) (a : Nat) : Rat :=
  let x := s.axis a
  if moving s a then (if x.inward then -1 else 1) else -1

/-- Force estimate in 0.1 N from the two phase currents in mA. -/
def forceEst (s : State) (a : Nat) (cur : Int × Int) : Rat :=
  let i := sqrtR ((cur.1 * cur.1 + cur.2 * cur.2 : Int) : Rat) / 1000
  onGrid ((s.axp a .kf : Rat) * i * sinTurn ((lagOf s a - (s.axis a).det.lag0) / 1024))

/-- Duration of the first speed change of a plan. -/
def accDur (p : Plan) : Rat := planDur (p.phases.take 3)

/-- A sample of the present bin: `f` is the filtered force (R161); `push` and `acc` are the force estimate and the commanded
acceleration along travel, kept for the friction where `fric` holds (R85). -/
def binSample (b : Nat) (f push acc : Rat) (fric : Bool) (x : Axis) : Axis :=
  let new : BinRun := ⟨b, f, f, 1, if fric then push else 0, if fric then acc else 0, b2n fric⟩
  match x.det.curBin with
  | none => { x with det := { x.det with curBin := some new } }
  | some r =>
    if r.bin = b then { x with det := { x.det with curBin := some (r.join new) } }
    else
      let x := publishBin r x
      { x with det := { x.det with curBin := some new } }

/-- A tick of the acceleration phase for the mass regression (R82): one sample for every whole millisecond. -/
def regrSample (acc f : Rat) (r : Regr) : Regr :=
  let r := { r with pn := r.pn + 1, pa := r.pa + acc, pf := r.pf + f }
  if r.pn < 50 then r
  else
    let a := r.pa / 50
    let f := r.pf / 50
    { r with n := r.n + 1, sa := r.sa + a, sf := r.sf + f, saa := r.saa + a * a, saf := r.saf + a * f,
             sff := r.sff + f * f, pn := 0, pa := 0, pf := 0 }

/-- Step 3 of R137 for one axis: the force, its filter, the bins, the regression; at rest the lag is kept. With a bridge open
for a back-EMF measurement the previous estimate is held (R159). -/
def tickForce (a : Nat) (cur : Int × Int) (s : State) : State :=
  let x := s.axis a
  let s := s.modDet a fun d => { d with current := cur }
  if !x.drive.energised then s
  else
    let f := if x.drive.bridgeOpen then x.det.force else forceEst s a cur
    let s := s.modDet a fun d => { d with force := f }
    if moving s a then
      let dir := dirOf s a
      let along := (f - (x.snap.mass : Rat) * x.cmdA / 1000000) * dir
      let b := binOf (s.axp a .travel : Rat) (posExact s a)
      let closing := dir < 0
      let fric := if closing then decide (x.cmdA = 0) else decide (x.cmdA * dir ≤ 0)
      let inAcc := x.plan.base == .opening && x.ramp.isNone && (x.elapsed.getD 0) ≤ accDur x.plan
      s.modAxis a fun y =>
        let al := (along :: y.det.along).take 16
        let ff := al.foldl (· + ·) 0 / (al.length : Rat)
        let y := binSample b ff (f * dir) (x.cmdA * dir) fric { y with det := { y.det with along := al, forceF := ff } }
        if inAcc then { y with det := { y.det with regr := { regrSample (x.cmdA * dir) (f * dir) y.det.regr with
                                                               accUs := (accDur x.plan).floor.toNat } } } else y
    else if regulated s a then
      s.modDet a fun d =>
        let al := (-f :: d.along).take 16
        { d with along := al, forceF := al.foldl (· + ·) 0 / (al.length : Rat) }
    else
      let l := lagOf s a
      s.modDet a fun d => { d with lags := (l :: d.lags).take 10 }

/-- Measured kinetic energy of a closing in mJ (R80). -/
def kinetic (s : State) (d : Nat) : Rat :=
  ((s.leafAxes d).map fun a => if moving s a then energyOf ((s.axis a).snap.mass : Rat) (s.axis a).fb.vEst else 0).foldl
    (· + ·) 0

/-- The axes of the leaf path that move in a closing of the sequencer or in its stop ramp (R168). -/
def closingAxes (s : State) (d : Nat) : List Nat :=
  (movingLeaves s d).filter fun a => (s.axis a).plan.base == .closing && (s.axis a).by_ == .sequencer

/-- The ECAP with which the closing in progress began (R80, R94). -/
def closingCap (s : State) (d : Nat) : Int := match closingAxes s d with | a :: _ => (s.axis a).snap.ecap | [] => 0

/-- The energy of the closing in progress: its peak, and the ticks above the cap (R80). -/
def tickEnergy (d : Nat) (s : State) : State :=
  if closingAxes s d ≠ [] then
    let k := kinetic s d
    let e := rnd k
    let above := decide ((closingCap s d : Rat) < k)
    s.modDoor d fun x =>
      { x with ePeak := max x.ePeak e, cycle := { x.cycle with ePeak := max x.cycle.ePeak e.toNat },
               energyTicks := if above then x.energyTicks + 1 else 0, energyDone := above && x.energyDone }
  else s.modDoor d fun x => if x.energyTicks = 0 then x else { x with energyTicks := 0, energyDone := false }

/-! ## Which detection a move evaluates (R168) -/

inductive Detection where
  | envelope | deviation | loadAngle | edge | curtain | energy
  deriving DecidableEq, Repr

/-- Bit of `DW[d].OBST_CAUSE` (R173). -/
def Detection.bit : Detection → BitVec 8
  | .envelope => 1 | .deviation => 2 | .edge => 4 | .curtain => 8 | .loadAngle => 16 | .energy => 32

/-- A load-angle stall is evaluated in the present move. -/
def stallRow (s : State) (a : Nat) : Bool :=
  let x := s.axis a
  match x.plan.base with
  | .opening | .closing | .reopening | .step => bemfOn s a
  | .point | .jog => x.drive.recovery.isSome || x.by_ == .graze
  | .homing =>
    !(x.home.phase == .search && (s.axN a .homeType = 1 || s.axN a .homeType = 5)) && x.home.phase != .idle
  | _ => false

/-- The leaf path is in a state in which R168 evaluates no deviation: the seal test and the locking after it. -/
def heldAtSeal (s : State) (a : Nat) : Bool :=
  let l := (s.door (doorOf a)).leaf
  isLeaf a && (l == .sealTest || l == .locking || l == .closedNotLocked)

def evaluated (s : State) (a : Nat) (k : Detection) : Bool :=
  let x := s.axis a
  let base := x.plan.base
  match k with
  | .envelope => moving s a && x.by_ == .sequencer &&
      (base == .opening || base == .closing || base == .reopening || base == .step)
  | .deviation => (moving s a || (!heldAtSeal s a && (match x.devUntil with | some t => s.us ≤ t | none => false))) &&
      x.by_ != .graze && x.by_ != .homing && !bemfOn s a
  | .loadAngle => moving s a && stallRow s a
  | _ => moving s a

/-! ## Reaction (R173, R174) -/

/-- An obstacle ramp or a safe stop is in progress on an axis. -/
def inHardRamp (s : State) (a : Nat) : Bool :=
  (s.axis a).ramp == some .obstacle || (s.axis a).ramp == some .safeStop

def masterOf (s : State) (a : Nat) : Nat :=
  match (pathAxes s a).find? (fun b => (s.axis b).plan.leader) with
  | some b => b
  | none => a

/-- Record a detection in the fields of R173: a new one replaces them, one during an obstacle ramp adds its bits. Detections of
one tick are one: the fields then name the lowest axis with a cause of the fabric. -/
def recordDetection (d a : Nat) (k : Detection) (pinOnly added : Bool) (s : State) : State :=
  let pos := posUm s (masterOf s a)
  let f := rnd (s.axis a).det.forceF
  s.modDoor d fun x =>
    let x := { x with cycle := { x.cycle with causeOr := x.cycle.causeOr ||| k.bit } }
    if added then
      let lower := x.obstAt = some s.us && !pinOnly && (x.obstAxis = 0xFF || a < x.obstAxis)
      { x with obstCause := x.obstCause ||| k.bit, obstAxis := if lower then a else x.obstAxis,
               obstForce := if lower then f else x.obstForce }
    else
      { x with obstCause := k.bit, obstAxis := if pinOnly then 0xFF else a, obstPos := pos, obstAt := some s.us,
               obstForce := if pinOnly then 0 else f }

/-- Axis event of a deviation or a load-angle stall (R174, R456). -/
def raiseStall (a : Nat) (k : Detection) (inj : Bool) (s : State) : State :=
  if k = .deviation then raiseAxis a 0 1 inj s
  else if k = .loadAngle then raiseAxis a 0 2 inj s
  else s

/-- A detection on the leaf path of a sequencer move. One during an obstacle ramp or a safe stop only adds its cause, except
that a hit of the energy cap and a detection in the same pass raise both events (R173). -/
def detectLeaf (d a : Nat) (k : Detection) (inj : Bool) (s : State) : State :=
  let reop := (s.axis a).plan.base == .reopening
  let added := inHardRamp s a
  let withCap := (s.door d).energyHit && (s.door d).detected.isNone
  let pinOnly := k = .edge || k = .curtain
  let s := recordDetection d a k pinOnly added s
  if added && !withCap then s
  else
    let detail := (s.door d).obstCause.toNat + 256 * (s.door d).obstAxis
    let s := raiseDoor d 0 detail inj s
    if reop then s
    else
      let s := if inj && k = .deviation then s else raiseStall a k inj s
      let s := s.modDoor d fun x => { x with detected := some (x.obstCause ||| (x.detected.getD 0)) }
      stopAxes (movingLeaves s d) .obstacle s

/-- A detection on the step path (R174, R49). -/
def detectStep (d a : Nat) (k : Detection) (inj : Bool) (s : State) : State :=
  if inHardRamp s a then s
  else
    let s := raiseDoor d 7 1 inj s
    let s := if inj && k = .deviation then s else raiseStall a k inj s
    stopPath a .obstacle (s.modDoor d fun x => { x with stepDetected := true })

/-- A move of the step drive check, and its failure (R467). -/
def grazeMoves (s : State) (a : Nat) : Bool := (s.axis a).by_ == .graze && moving s a
def failStepCheck (s : State) : State := s.modGraze fun g => { g with stepVerdict := g.stepVerdict.map fun _ => false }

/-- A load-angle measurement of the step drive check is counted in its direction (R467). -/
def countStepLa (a : Nat) (s : State) : State :=
  if grazeMoves s a then
    s.modGraze fun g =>
      if (s.axis a).inward then { g with stepBack := g.stepBack + 1 } else { g with stepOut := g.stepOut + 1 }
  else s

/-- A detection in a move of the host, of a homing or of Graze. A stall fails the Graze item (R171). -/
def detectOther (a : Nat) (k : Detection) (inj : Bool) (s : State) : State :=
  let s := if (s.axis a).by_ == .graze && k = .loadAngle then failStepCheck s else s
  if inHardRamp s a then s
  else
    let s := if inj then s else raiseAxis a 0 (if k = .loadAngle then 2 else 1) false s
    requestStop a .obstacle s

/-- A completed detection of the fabric on an axis. -/
def detect (a : Nat) (k : Detection) (inj : Bool) (s : State) : State :=
  let x := s.axis a
  if x.by_ == .sequencer then
    if isLeaf a then detectLeaf (doorOf a) a k inj s else detectStep (doorOf a) a k inj s
  else detectOther a k inj s

/-- f_filt above the limit that the move brought for the bin of the measured position (R169). The check of the peak at the
exit of a bin is this same comparison on the published value; under the count of ENV_TICKS it finds nothing that the ticks in
the bin did not (DEDUCED, log 15). -/
def aboveEnvelope (s : State) (a : Nat) : Bool :=
  let x := s.axis a
  match x.snap.envLim[binOf (s.axp a .travel : Rat) (posExact s a)]? with
  | some l => decide (l < x.det.forceF)
  | none => false

/-- Outside the deviation window (R170). -/
def outsideWindow (s : State) (a : Nat) : Bool :=
  let x := s.axis a
  let um := umStep s a
  decide ((x.snap.devWin : Rat) < absR ((ustepOf s a : Rat) * um - posExact s a - x.det.lag0 * um))

/-- The comparisons of a tick (R169, R170). -/
def tickDetect (a : Nat) (s : State) : State :=
  let over_ := evaluated s a .envelope && aboveEnvelope s a
  let out := evaluated s a .deviation && outsideWindow s a
  let s := s.modDet a fun d =>
    { d with envTicks := if over_ then d.envTicks + 1 else 0, envDone := over_ && d.envDone,
             devTicks := if out then d.devTicks + 1 else 0, devDone := out && d.devDone }
  -- the step drive check fails outside the window (R467)
  if grazeMoves s a && outsideWindow s a then failStepCheck s else s

/-- An envelope breach is complete on an axis and has not acted yet. -/
def breachDue (s : State) (a : Nat) : Bool :=
  s.axOn a && evaluated s a .envelope && s.axN a .envTicks ≤ (s.axis a).det.envTicks && !(s.axis a).det.envDone
/-- A deviation is complete on an axis and has not acted yet. -/
def deviationDue (s : State) (a : Nat) : Bool :=
  s.axOn a && evaluated s a .deviation && s.axN a .devTicks ≤ (s.axis a).det.devTicks && !(s.axis a).det.devDone

/-- A completed breach acts. -/
def effectBreach (a : Nat) (s : State) : State :=
  if breachDue s a then detect a .envelope false (s.modDet a fun d => { d with envDone := true }) else s
/-- A completed deviation acts. -/
def effectDeviation (a : Nat) (s : State) : State :=
  if deviationDue s a then detect a .deviation false (s.modDet a fun d => { d with devDone := true }) else s

/-- An energy cap hit of a sequencer closing (R80, R173, R174). -/
def energyHit (d : Nat) (inj : Bool) (detail : Nat) (s : State) : State :=
  match movingLeaves s d with
  | [] => s
  | a :: _ =>
    let added := inHardRamp s a
    let samePass := (s.door d).detected.isSome
    let s := recordDetection d a .energy false added s
    let s := if !added || samePass then raiseDoor d 8 detail inj s else s
    if added then s.modDoor d fun x => { x with energyHit := x.energyHit || samePass }
    else stopAxes (movingLeaves s d) .obstacle (s.modDoor d fun x => { x with energyHit := true })

/-- The energy has been above ECAP for 50 consecutive ticks of a closing, and the hit has not acted yet (R80). -/
def capDue (s : State) (d : Nat) : Bool :=
  s.doorOn d && closingAxes s d != [] && 50 ≤ (s.door d).energyTicks && !(s.door d).energyDone

/-- A completed hit of the energy cap acts. -/
def effectEnergyCap (d : Nat) (s : State) : State :=
  if capDue s d then energyHit d false (rnd (kinetic s d)).toNat (s.modDoor d fun x => { x with energyDone := true }) else s

/-- Every completed detection of the fabric that no row of its own has reported acts now: before the next tick, before a pass
and before an arrival (R173, R174). -/
def actDetections (s : State) : State :=
  each 8 (fun s d => effectEnergyCap d s) (each 24 (fun s a => effectDeviation a (effectBreach a s)) s)

/-- A load-angle measurement, the stall that two of them form (R118, R171), and the stop that they show a search (R153). -/
def effectLoadAngle (a : Nat) (samples : List Int) (s : State) : State :=
  if s.axOn a then
    let seek := seeksStop s a
    let row := stallRow s a
    let s := if bemfMeasures s a && samples.length = 8 then countStepLa a s else s
    let r := takeLoadAngle a samples (s.axp a (if seek then .homeLaStop else .laStall)) s
    if r.2 && seek then homeHalt a r.1
    else if r.2 && row && moving r.1 a then detect a .loadAngle false r.1 else r.1
  else s

/-! ## Edge and curtain (R172) -/

def edgePressed (s : State) (d : Nat) : Bool :=
  let m := s.dwN d .edgeMode
  let n := s.dwN d .edgePin
  m ≠ 0 && (groupBad s (groupOf n) || (if m = 1 then !pinLevel s n else pinLevel s n))

def curtainCut (s : State) (d : Nat) : Bool :=
  let m := s.dwN d .curtainMode
  let n := s.dwN d .curtainPin
  m ≠ 0 && (groupBad s (groupOf n) || (if m = 1 then !pinLevel s n else pinLevel s n))

/-- The pin detections of a tick in a closing of the sequencer and in its stop ramp (R168). -/
def tickEdges (d : Nat) (s : State) : State :=
  match closingAxes s d with
  | [] => s
  | a :: _ =>
    let m := masterOf s a
    let s := if edgePressed s d && s.dwp d .edgeMutePos ≤ posUm s m && !((s.door d).obstCause.getLsbD 2 && inHardRamp s a)
             then detectLeaf d a .edge false s else s
    if curtainCut s d && !((s.door d).obstCause.getLsbD 3 && inHardRamp s a) then detectLeaf d a .curtain false s else s

/-! ## The seal compliance test (R177 to R183) -/

def sealF (s : State) (d k : Nat) : Int := s.dwp d (.sealF (k - 1))

/-- Target thrust of a step for an axis, 0.1 N (R177). -/
def sealTarget (s : State) (a k : Nat) : Rat :=
  let d := doorOf a
  (sealF s d k : Rat) + fricOf s a (binOf (s.axp a .travel : Rat) (s.dwp d .sealEntry : Rat))

/-- The doorway gap in µm, before rounding. -/
def gapOf (s : State) (d : Nat) : Rat := ((testedAxes s d).map fun a => posExact s a).foldl (· + ·) 0

/-- The learned reference applies. -/
def sealLearned (s : State) (d : Nat) : Bool := (s.door d).learn = 2

def refGaps (s : State) (d : Nat) : List Int :=
  if sealLearned s d then (List.range 4).map fun i => rnd (vget (s.door d).sealRef i SealRef.empty).ref else [0, 0, 0, 0]

/-- The test begins (R178): the tested axes take the current limit of their closing without hold reduction (R106, R177), LAG0
is taken, the results are those of a new test. -/
def sealStart (d : Nat) (s : State) : State :=
  let s := (testedAxes s d).foldl (fun s a =>
    let s := s.modDet a fun x => { x with lag0 := meanL x.lags, along := [] }
    let s := s.modDrive a fun x => { x with ramp := match x.ramp with | some (.hold, _) => none | r => r }
    selectCurrent a (s.axN a (.iLevel 0)) s) s
  let t := (List.range 4).map fun i => rnd (sealTarget s (axisOf d 0) (i + 1))
  let refs := refGaps s d
  let abs_ := !sealLearned s d
  let f := sealF s d 4 - sealF s d 1
  let cRef : Int := if abs_ || f = 0 then 0 else rnd (((lget refs 0 0 - lget refs 3 0) * 100 : Int) / (f : Rat))
  s.modDoor d fun x =>
    { x with sealTest := { x.sealTest with step := some 0, started := s.us, fastAt := s.us, window := [],
                                           seq := wrap32 (x.sealTest.seq + 1), cause := 0, steps := 0, absolute := abs_,
                                           low := false, g := [0, 0, 0, 0], gRef := refs, t := t, c := 0, cRef := cRef,
                                           durationMs := 0, hold := false } }

/-- The verdict of the test: 1 passes, unless an injected fail is pending (R455), and leaves the leaves regulated (R181). -/
def sealEnd (d cause : Nat) (s : State) : State :=
  s.modDoor d fun x =>
    { x with sealTest := { x.sealTest with step := none, cause := cause, hold := decide (cause = 1),
                                           durationMs := sat16 ((s.us - x.sealTest.started) / 1000) } }

/-- The cycle notes a test that has ended: its first cause and its gaps (R165, R389). -/
def noteSeal (d : Nat) (s : State) : State :=
  s.modDoor d fun x =>
    { x with cycle := { x.cycle with sealFirst := some (x.cycle.sealFirst.getD (x.sealTest.cause = 1)),
                                     sealCause := if x.cycle.sealFirst.isNone then x.sealTest.cause else x.cycle.sealCause,
                                     sealG := x.sealTest.g, tested := true } }

def settled (s : State) (d : Nat) : Bool := (s.door d).sealTest.fastAt + 10000 ≤ s.us

/-- The thrust check before a step (R177). -/
def sealForceOk (s : State) (d k : Nat) : Bool :=
  (testedAxes s d).all fun a =>
    sealTarget s a k ≤ 9 / 10 * (s.axp a .kf : Rat) * ((s.axis a).drive.iApplied : Rat) / 32

/-- A force step begins, or the test fails for want of thrust. -/
def sealStep (d k : Nat) (s : State) : State :=
  if sealForceOk s d k then s.modDoor d fun x => { x with sealTest := { x.sealTest with step := some k, window := [] } }
  else sealEnd d 10 s

def effectSealContact (d : Nat) (s : State) : State :=
  let t := (s.door d).sealTest
  if (s.door d).leaf == .sealTest && t.step = some 0 then
    let s := forwardTo (some (t.started + 1000 * s.dwN d .sealContactMs)) s
    if settled s d then sealStep d 1 s else sealEnd d 2 s
  else s

/-- The checks after step 4 (R179), in their order. -/
def sealJudge (d : Nat) (s : State) : State :=
  let t := (s.door d).sealTest
  let g1 := lget t.g 0 0
  let g4 := lget t.g 3 0
  let r1 := lget t.gRef 0 0
  let r4 := lget t.gRef 3 0
  let f := sealF s d 4 - sealF s d 1
  let c := if f = 0 then 0 else rnd (((g1 - g4) * 100 : Int) / (f : Rat))
  let tol := s.dwp d .sealGapTol
  let low := !t.absolute && decide (g4 - r4 < -tol)
  let s := s.modDoor d fun x => { x with sealTest := { x.sealTest with c := c, low := low }, sealLow := x.sealLow || low }
  let gapBad := if t.absolute then decide (s.dwp d .sealGapMax < g4) else decide (tol < g4 - r4)
  let compBad := !t.absolute && decide ((r1 - r4) * (100 + s.dwp d .sealCompTolPct) < (g1 - g4) * 100)
  if gapBad then sealEnd d 4 s
  else if compBad then sealEnd d 5 s
  else if !pairActive s (3 * d) then sealEnd d 7 s
  else sealEnd d 1 s

def effectSealStep (d : Nat) (s : State) : State :=
  let t := (s.door d).sealTest
  match t.step with
  | some k =>
    if (s.door d).leaf == .sealTest && 1 ≤ k then
      let s := forwardTo (some (t.started + 1000 * (s.dwN d .sealContactMs + k * s.dwN d .sealStepMs))) s
      if !settled s d then sealEnd d 6 s
      else
        let g := rnd (if t.window = [] then gapOf s d else meanL t.window)
        let s := s.modDoor d fun x => { x with sealTest := { x.sealTest with steps := k, g := x.sealTest.g.set (k - 1) g } }
        let abort := if t.absolute then decide (s.dwp d .sealGapMax + s.dwp d .sealAbortGap < g)
                     else decide (s.dwp d .sealAbortGap < g - lget t.gRef (k - 1) 0)
        if abort then sealEnd d 3 s
        else if k < 4 then sealStep d (k + 1) s
        else sealJudge d s
    else s
  | none => s

/-- The thrust asked of an axis now: a linear ramp over the first 10 ms of a step. -/
def thrustNow (s : State) (a : Nat) : Rat :=
  let d := doorOf a
  let t := (s.door d).sealTest
  match t.step with
  | some k =>
    if k ≤ 1 then sealTarget s a 1
    else
      let from_ := t.started + 1000 * (s.dwN d .sealContactMs + (k - 1) * s.dwN d .sealStepMs)
      let el : Rat := minR 1 (((s.us - from_ : Nat) : Rat) / 10000)
      let p := sealTarget s a (k - 1)
      p + (sealTarget s a k - p) * el
  | none => sealTarget s a 4

/-- Regulation of one tick on one axis (R177): at most 80° of lead. -/
def regulate (a : Nat) (us : Nat) (s : State) : State :=
  if regulated s a then
    let x := s.axis a
    let f := match x.det.along with | f :: _ => f | [] => 0
    let t := thrustNow s a
    let step : Rat := (s.dwp (doorOf a) .sealV : Rat) * us / mega
    let p := if f < t - 10 then x.cmd - step else if t + 10 < f then x.cmd + step else x.cmd
    let lead := absR (p / umStep s a - x.fb.xEst / umStep s a - x.det.lag0) * 360 / 1024
    let back := absR (p - x.fb.xEst) < absR (x.cmd - x.fb.xEst)
    if lead ≤ 80 || back then s.modAxis a (putCmd (counting s a) p 0 0) else s
  else s

/-- The seal test in a tick: speeds and gap of the last 10 ms, and the curtain (R178, R182). -/
def tickSeal (d us : Nat) (s : State) : State :=
  let x := s.door d
  if x.leaf == .sealTest && x.sealTest.step.isSome then
    let fast := (testedAxes s d).any fun a => s.dwp d .sealVSettle ≤ absI (speedOf s a)
    let g := gapOf s d
    let s := s.modDoor d fun x =>
      { x with sealTest := { x.sealTest with fastAt := if fast then s.us else x.sealTest.fastAt,
                                             window := (g :: x.sealTest.window).take 500 } }
    if curtainCut s d then
      sealEnd d 9 (recordDetection d (axisOf d 0) .curtain true false s)
    else (testedAxes s d).foldl (fun s a => regulate a us s) s
  else if x.leaf == .locking || x.leaf == .closedNotLocked then
    (testedAxes s d).foldl (fun s a => regulate a us s) s
  else s

end Sys2Proof.Machine
end

