-- ==== Sys2Proof/Machine/Crossing.lean ====
section
/-! DEFINITION. The doorway crossing: what both lanes compute of a doorway (R24, R34 to R38, R189 to R196), the demands of
the safe outputs (R198 to R200), safe stop requests (R207) and the module safe state (R26, R214, R215). -/

namespace Sys2Proof.Machine

/-- The session of a number. -/
def sessionOf (s : State) (id : Nat) : Option Session := s.kcp.sessions.find? fun x => x.id = id

/-! ## Pairs (R189 to R193) -/

/-- The type under which a pair is evaluated: a doorway of type NONE leaves its pairs out (R35). -/
def pairType (s : State) (p : Nat) : Nat := if p < 24 && !s.doorOn (p / 3) then 0 else s.safN (.pairType p)

/-- Whether a contact is in the active level of its pair's type. -/
def contactActive (type : Nat) (second closed : Bool) : Bool := if second && type = 2 then !closed else closed

/-- One evaluation of a pair in a slot (R191). -/
def evalPair (type discMs now : Nat) (p : PairLane) : PairLane :=
  if type = 0 then { p with result := .none, timer := none, latched := false }
  else
    let a1 := contactActive type false p.c1.filt
    let a2 := contactActive type true p.c2.filt
    let p :=
      if a1 && a2 then
        if p.latched || !p.seenInactive then { p with result := .inactive }
        else { p with result := .active, timer := none }
      else if a1 != a2 then { p with result := .inactive, seenInactive := true, timer := some (p.timer.getD now) }
      else { p with result := .inactive, seenInactive := true, timer := none, latched := false }
    match p.timer with
    | some t => if t + 1000 * discMs ≤ now then { p with latched := true, result := .discrepancy } else
                if p.latched then { p with result := .discrepancy } else p
    | none => if p.latched then { p with result := .discrepancy } else p

/-- A pair restarts its evaluation as at a start (R229 step 3, R190). -/
def restartPair (p : PairLane) : PairLane :=
  { p with c1 := { p.c1 with filt := false }, c2 := { p.c2 with filt := false }, timer := none, latched := false }

/-- A latched discrepancy in either lane. -/
def discrepant (s : State) (p : Nat) : Bool := (s.pair .ibex p).latched || (s.pair .chamois p).latched

/-! ## Proof (R34, R36) -/

def laneActive (s : State) (lane : Lane) (p : Nat) : Bool := pairResult s lane p == .active

/-- Both lanes' counts of the step lie at or below `STEP_SAFE_POS`; true where no step is configured. -/
def stepIn (s : State) (d : Nat) : Bool :=
  !s.hasStep d ||
    (let a := axisOf d 2
     let lim : Rat := (s.dwp d .stepSafePos : Rat)
     posAt s a (s.axis a).fb.count ≤ lim && posAt s a (s.axis a).fb.dup ≤ lim)

/-- Proof of closed and locked as a lane computes it (R34). -/
def proven (s : State) (lane : Lane) (d : Nat) : Bool :=
  s.doorOn d && laneActive s lane (3 * d) && laneActive s lane (3 * d + 1) && laneActive s lane (3 * d + 2) && stepIn s d

def isolatedState (x : Doorway) : Bool := x.leaf == .isolated || x.leaf == .manual
/-- Isolation as each lane keeps it: Ibex by the state, Chamois by its copy (R36). -/
def laneIsolated (s : State) (lane : Lane) (d : Nat) : Bool :=
  match lane with
  | .ibex => isolatedState (s.door d)
  | .chamois => (s.door d).isolatedChamois

/-- The stored isolation of a doorway; Chamois, while it runs, takes it into its copy (R36). -/
def setIsolated (d : Nat) (b : Bool) (s : State) : State :=
  s.modDoor d fun x => { x with isolated := b, isolatedChamois := if s.saf.lanes.chamoisUp then b else x.isolatedChamois }

/-- What a doorway contributes to the door loop (R198 condition 2). -/
def loopPart (s : State) (lane : Lane) (d : Nat) : Bool :=
  if laneIsolated s lane d then laneActive s lane (3 * d) else proven s lane d

def doorList (s : State) : List Nat := (List.range 8).filter fun d => s.doorOn d

/-- Conditions 1 and 2 of R198. -/
def loopCond (s : State) (lane : Lane) : Bool := doorList s ≠ [] && (doorList s).all fun d => loopPart s lane d
/-- The condition of SP's own with ALL_PROVEN (R200). -/
def allProven (s : State) (lane : Lane) : Bool :=
  doorList s ≠ [] && (doorList s).all fun d => proven s lane d && !laneIsolated s lane d

/-! ## Release (R38, R195, R196) -/

def kscOf (s : State) (lane : Lane) : Ksc := match lane with | .ibex => s.saf.kscI | .chamois => s.saf.kscC
def laneCrc (s : State) (lane : Lane) : Nat := match lane with | .ibex => s.saf.configCrc | .chamois => s.saf.configCrcC

/-- The KSC part of condition 2 for a car side, without the doorway mask. -/
def kscSide (s : State) (lane : Lane) (side : Nat) : Bool :=
  let k := kscOf s lane
  k.state == .run && k.release.getLsbD side && (k.expected = 0 || k.expected = laneCrc s lane)

/-- Condition 2 given its KSC part. -/
def condTwo (s : State) (lane : Lane) (side : Nat) (ksc : Bool) : Bool :=
  let wired := laneActive s lane (25 + side)
  let src := s.safp .releaseSrc
  if src = 0 then wired else if src = 1 then ksc else wired && ksc

/-- The car's side release for a side, as a lane forms it (R195). -/
def carRelease (s : State) (lane : Lane) (side : Nat) : Bool :=
  laneActive s lane 24 && condTwo s lane side (kscSide s lane side)

/-- Side release of a doorway before the herd grant (R24, R196). -/
def doorRelease (s : State) (lane : Lane) (d : Nat) : Bool :=
  let side := s.dwN d .side
  s.doorOn d && laneActive s lane 24 && condTwo s lane side (kscSide s lane side && (kscOf s lane).mask.getLsbD d)

/-- The train side of a car side (R38 condition 3). -/
def trainSide (s : State) (side : Nat) : Nat := if s.herdp .carOrient = 1 then 1 - side else side

/-- The herd's grant for a doorway, or a mode or role in which it is not required (R38, R60, R62). -/
def granted (s : State) (d : Nat) : Bool :=
  let m := s.effMode
  m == .depot || m == .maintenance || m == .test || s.herd.role == .solo ||
    s.herd.grant.getLsbD (trainSide s (s.dwN d .side))

/-- Side release of a doorway (R38, R195): both lanes' permission and the grant (R23). -/
def sideRelease (s : State) (d : Nat) : Bool := doorRelease s .ibex d && doorRelease s .chamois d && granted s d

/-! ## Demands of the safe outputs (R197 to R200) -/

def Safety.dlReady (x : Safety) : Lane → Bool | .ibex => x.dlReadyI | .chamois => x.dlReadyC
def Safety.spReady (x : Safety) : Lane → Bool | .ibex => x.spReadyI | .chamois => x.spReadyC

/-- A latched fault locks a pair off (R205: bits 8 to 4). -/
def SafeOut.locked (o : SafeOut) : Bool := (o.status &&& 0x1F0#16) != 0

/-- A start without the stored safety configuration holds every demand off (R409, R413). -/
def demandsHeld (s : State) : Bool := s.saf.heldOff || s.boot.info.getLsbD 7

/-- Demand of one safe output pair in a lane. -/
def demandOf (s : State) (lane : Lane) (o : Nat) : Bool :=
  let ok := !s.saf.lanes.safe && !demandsHeld s && !(s.out o).locked
  let door := loopCond s lane && s.saf.dlReady lane
  let rel := (let r := s.safp .rlSide
              if r = 0 then carRelease s lane 0 || carRelease s lane 1
              else if r = 1 then carRelease s lane 0 else carRelease s lane 1)
  ok && (match o with
    | 0 | 1 => door
    | 2 => rel
    | _ =>
      let f := s.safp .spFunc
      if f = 1 then door else if f = 2 then rel else if f = 3 then allProven s lane && s.saf.spReady lane else false)

/-! ## Safe stops and STO demands (R207, R112) -/

/-- The reasons for which a lane holds an STO demand on an axis: the module safe state, an operated egress pair of a
doorway that is not isolated (R207). -/
def stoReason (s : State) (lane : Lane) (a : Nat) : Bool :=
  s.saf.lanes.safe ||
    (let d := doorOf a
     s.doorOn d && !isolatedState (s.door d) && !laneActive s lane (3 * d + 2))

def markDemand (a : Nat) (lane : Lane) (b : Bool) (s : State) : State :=
  s.modDrive a fun d => match lane with
    | .ibex => { d with demandIbex := b }
    | .chamois => { d with demandChamois := b }

/-- Velocity of an axis as a lane measures it (R24): the observer, or the difference of the duplicate counts over 1 ms. -/
def laneVel (s : State) (lane : Lane) (a : Nat) : Rat :=
  match lane with
  | .ibex => (s.axis a).fb.vEst
  | .chamois => (((s.axis a).fb.dup - (s.axis a).fb.dupPrev : Int) : Rat) * umCount s a * 1000
def laneSpeed (s : State) (lane : Lane) (a : Nat) : Rat := absR (laneVel s lane a)

/-- Safe stop of one axis on the demand of a lane (R207): a moving axis runs the monitored ramp with its path, an axis at
rest enters STO. -/
def safeStopAxis (a : Nat) (lane : Lane) (s : State) : State :=
  if !s.axOn a then s
  else if moving s a then
    let axes := (pathAxes s a).filter fun b => moving s b
    let s := markDemand a lane true s
    if (s.axis a).ramp == some .safeStop then s
    else
      let s := requestStop a .safeStop s
      axes.foldl (fun s b => s.modAxis b fun x => { x with safeStop := some (s.us, laneSpeed s .ibex b, laneSpeed s .chamois b) }) s
  else if (s.axis a).drive.state == .sto || (s.axis a).drive.state == .fault then markDemand a lane true s
  else demandSto a lane s

/-- STO at once for every axis of a doorway (R208, R98). -/
def stoDoor (d : Nat) (lane : Lane) (s : State) : State :=
  (s.axesOf d).foldl (fun s a => demandSto a lane s) s

/-! ## The module safe state (R26, R213 to R215) -/

/-- `SAF.SAFE_STATE` without READY. -/
def safeWord (s : State) : Nat := (s.saf.lanes.cause &&& 0xFC#16).toNat + 32768 * b2n s.saf.lanes.safe

/-- The conditions of R214 other than the edge. -/
def safeReady (s : State) : Bool :=
  let l := s.saf.lanes
  l.safe && 100 ≤ l.goodRun && s.saf.configCrc = s.saf.configCrcC && l.ibexUp && l.chamoisUp &&
    (List.range 24).all fun a => !(s.axis a).drive.enBad

/-- The module safe state is taken (R26): every test pulse ends, the safe outputs open, axes stop or enter STO, the lane
event is raised, both running lanes write their record and the journal is sealed (R394). Doorways follow in the next sequencer pass (R42). -/
def takeSafeState (causeBit : Nat) (s : State) : State :=
  let was := s.saf.lanes.safe
  let s := s.modLanes fun l => { l with safe := true, cause := setBit l.cause causeBit true }
  if was then s
  else
    let s := s.modSaf fun x => { x with pulse := none, outs := x.outs.map fun o =>
      { o with demandIbex := false, demandChamois := false, hsCmd := false, lsCmd := false } }
    let s := s.modSaf fun x => { x with dlSinceI := none, dlSinceC := none, spSinceI := none, spSinceC := none,
                                        dlReadyI := false, dlReadyC := false, spReadyI := false, spReadyC := false }
    let s := s.modLanes fun l => { l with goodRun := 0 }
    let s := each 24 (fun s a => safeStopAxis a .chamois (safeStopAxis a .ibex s)) s
    let w := safeWord s
    let s := if s.saf.lanes.ibexUp then raiseBy 194 0 w false s else s
    let s := if s.saf.lanes.chamoisUp then
        if s.saf.lanes.ibexUp then recordRaise 194 1 w false s else raiseBy 194 1 w false s
      else s
    if s.saf.lanes.ibexUp then sealJournal 0xFFFF0002 s else s

/-- The module safe state is left (R214). -/
def leaveSafeState (s : State) : State := s.modLanes fun l => { l with safe := false, cause := 0 }

end Sys2Proof.Machine
end

