-- ==== Sys2Proof/Machine/Cycle.lean ====
section
/-! DEFINITION. What a door cycle leaves behind: bins at the end of a move (R161), learning (R164, R165, R180), the cycle record
(R389), signatures (R184, R390, R391), `SEAL_RESULT` and `LEARN_STATE` (R183, R167). -/

namespace Sys2Proof.Machine

/-! ## Bins -/

/-- The end of a move publishes the last bin; its bins join those of the cycle (R161, R166). -/
def endBins (a : Nat) (s : State) : State := s.modAxis a closeBins

/-- Samples of the force signature: the per-bin peak of f_filt of each leaf-path axis while the capture runs (R184). -/
def tickCapture (d : Nat) (s : State) : State :=
  let x := s.door d
  if x.capture.on then
    let put_ (sl : Nat) (l : List (Nat × Rat)) : List (Nat × Rat) :=
      if s.slotOn d sl then
        let a := axisOf d sl
        let b := binOf (s.axp a .travel : Rat) (posExact s a)
        let f := (s.axis a).det.forceF
        put l b (maxR f ((get l b).getD f))
      else l
    s.modDoor d fun x => { x with capture := { x.capture with bins0 := put_ 0 x.capture.bins0,
                                                              bins1 := put_ 1 x.capture.bins1 } }
  else s

/-- One peak per bin. -/
def peaksOf (l : List BinRun) : List (Nat × Rat) :=
  l.foldl (fun m b => put m b.bin (maxR b.peak ((get m b.bin).getD b.peak))) []

/-! ## Learning (R165, R180) -/

/-- The cycle that ends now is good. -/
def goodCycle (s : State) (d : Nat) : Bool :=
  let c := (s.door d).cycle
  c.unlockAt.isSome && (s.door d).obstCount = 0 && !c.path.getLsbD 0 && c.sealFirst == some true &&
    (c.kinds &&& 0x183#12) == 0 && !c.posLost && (s.axesOf d).all (fun a => posValid s a) && !c.bemf && !c.modeBad &&
    !c.injected

/-- One sample enters a bin. -/
def envLearn (learned : Bool) (rate drift : Rat) (e : EnvBin) (p : Rat) : EnvBin :=
  let p := if learned && e.window ≠ [] then minR p (e.ref + rate) else p
  let w := (p :: e.window).take 64
  let r := onGrid (meanL w)
  let base := if learned && e.baseline.isNone then some p else e.baseline
  match learned, base with
  | true, some b => if b + drift < r then { e with window := w, ref := b + drift, baseline := base, held := true }
                    else { e with window := w, ref := r, baseline := base, held := false }
  | _, _ => { e with window := w, ref := r, baseline := base, held := false }

def sealLearn (learned : Bool) (rate drift : Rat) (e : SealRef) (g : Rat) : SealRef :=
  let g := if learned && e.window ≠ [] then minR g (e.ref + rate) else g
  let w := (g :: e.window).take 64
  let r := onGrid (meanL w)
  if learned && e.baseline + drift < r then { e with window := w, ref := e.baseline + drift, held := true }
  else { e with window := w, ref := r, held := false }

def learnAxis (d a : Nat) (s : State) : State :=
  let learned := (s.door d).learn = 2
  let rate : Rat := (s.axp a .envRate : Rat)
  let drift : Rat := (s.axp a .envDriftMax : Rat)
  let feed (l : List (Nat × Rat)) (v : Vector EnvBin 128) : Vector EnvBin 128 :=
    l.foldl (fun v x => vset v x.1 (envLearn learned rate drift (vget v x.1 EnvBin.empty) x.2)) v
  s.modAxis a fun x =>
    { x with learned := { x.learned with envClose := feed (peaksOf x.cycClose) x.learned.envClose,
                                         envOpen := feed (peaksOf x.cycOpen) x.learned.envOpen,
                                         envCycles := inc32 x.learned.envCycles } }

/-- The last teaching cycle sets every baseline and the doorway is LEARNED (R164). -/
def endTeaching (d : Nat) (s : State) : State :=
  let fixB (e : EnvBin) : EnvBin := { e with baseline := if e.window = [] then none else some e.ref }
  let s := (s.axesOf d).foldl (fun s a => s.modAxis a fun x =>
    { x with learned := { x.learned with envClose := x.learned.envClose.map fixB, envOpen := x.learned.envOpen.map fixB } }) s
  s.modDoor d fun x => { x with learn := 2, sealRef := x.sealRef.map fun e => { e with baseline := e.ref } }

/-- A good cycle at its end. -/
def learnCycle (d : Nat) (s : State) : State :=
  let x := s.door d
  if x.learn = 0 ∨ goodCycle s d = false then s
  else
    let s := (s.axesOf d).foldl (fun s a => learnAxis d a s) s
    let rate : Rat := (s.dwp d .sealRate : Rat)
    let drift : Rat := (s.dwp d .sealDriftMax : Rat)
    let g := x.sealTest.g
    let s := s.modDoor d fun y =>
      { y with sealRef := Vector.ofFn fun i : Fin 4 =>
          sealLearn (x.learn = 2) rate drift (vget y.sealRef i.val SealRef.empty) (lget g i.val 0 : Rat) }
    if x.learn = 1 then
      let s := s.modDoor d fun y => { y with teachLeft := y.teachLeft - 1 }
      if (s.door d).teachLeft = 0 then endTeaching d s else s
    else s

/-- TEACH of R164: windows emptied, the remaining count set. -/
def startTeaching (d : Nat) (s : State) : State :=
  let clr (e : EnvBin) : EnvBin := { EnvBin.empty with lastPeak := e.lastPeak }
  let s := (s.axesOf d).foldl (fun s a => s.modAxis a fun x =>
    { x with learned := { x.learned with envClose := x.learned.envClose.map clr, envOpen := x.learned.envOpen.map clr,
                                         envCycles := 0 } }) s
  s.modDoor d fun x => { x with learn := 1, teachLeft := s.dwN d .teachCycles, sealRef := .replicate 4 SealRef.empty }

def envHeld (s : State) (d : Nat) : Bool :=
  (s.axesOf d).any fun a => (s.axis a).learned.envClose.toList.any EnvBin.held || (s.axis a).learned.envOpen.toList.any EnvBin.held
def sealHeld (s : State) (d : Nat) : Bool := (s.door d).sealRef.toList.any SealRef.held

/-- `DW[d].LEARN_STATE` (R167). -/
def learnState (s : State) (d : Nat) : Nat :=
  let x := s.door d
  256 * sat8 x.teachLeft + 32 * b2n x.sealLow + 16 * b2n (sealHeld s d) + 8 * b2n (envHeld s d) + x.learn

/-! ## Seal result (R183) -/

def sealResult (s : State) (d : Nat) : Bytes :=
  let t := (s.door d).sealTest
  let gs (l : List Int) : Bytes := (List.range 4).flatMap fun i => leI 4 (lget l i 0)
  le 4 t.seq ++ le 1 t.cause ++ le 1 t.steps ++ le 2 (b2n t.absolute + 2 * b2n t.low) ++ gs t.g ++ gs t.gRef ++
    ((List.range 4).flatMap fun i => leI 2 (satI 16 (lget t.t i 0))) ++ leI 2 (satI 16 t.c) ++ leI 2 (satI 16 t.cRef) ++
    le 2 t.durationMs ++ [0, 0]

/-! ## The signature record (R184, R390, R391) -/

def peak16 (r : Rat) : Bytes := leI 2 (satI 16 (rnd r))

def signatureBytes (s : State) (d : Nat) (final : Bool) : Bytes :=
  let x := s.door d
  let ks := if final then x.cycle.kinds else x.cycle.closingKinds
  let trig := b2n (ks.getLsbD 0) + 2 * b2n (ks.getLsbD 1) + 4 * b2n (ks.getLsbD 7) + 8 * b2n (ks.getLsbD 8)
  let c := x.capture
  let bins := (c.bins0 ++ c.bins1).map (·.1)
  let first := bins.foldl min 127
  let last := bins.foldl max 0
  let det := x.obstCause != 0
  let arr (l : List (Nat × Rat)) : Bytes :=
    (List.range 128).flatMap fun b => match get l b with | some p => peak16 p | none => le 2 0x8000
  let lim (sl : Nat) : Bytes := (List.range 128).map fun b =>
    if s.slotOn d sl then
      BitVec.ofNat 8 (min 255 (rnd (lget (s.axis (axisOf d sl)).closeLims b 0 / 10)).toNat)
    else 0
  let mass (sl : Nat) : Bytes := le 2 (if s.slotOn d sl then sat16 (s.axis (axisOf d sl)).closeMass.toNat else 0)
  let tested := x.cycle.tested
  recHead s ++ le 1 d ++ le 1 (recFlags s 2 + 8 * b2n (((if final then x.cycle.injKinds else x.cycle.closingInj) &&& 0x183#12) != 0)
      + 16 * b2n final) ++ le 1 trig ++ le 1 x.obstCount ++ le 1 (if bins = [] then 0 else first) ++ le 1 last ++
    le 1 x.obstCause.toNat ++ le 1 (if det then x.obstAxis else 0xFF) ++
    (if det then leI 4 x.obstPos else le 4 0x80000000) ++ leI 2 (if det then satI 16 x.obstForce else 0) ++ [0, 0] ++
    arr c.bins0 ++ arr c.bins1 ++ lim 0 ++ lim 1 ++ (if tested then sealResult s d else zeros 56) ++
    le 2 (sat16 x.ePeak.toNat) ++ le 2 (sat16 x.ePlan.toNat) ++ mass 0 ++ mass 1 ++ zeros 156

/-- A capture is written, or discarded where nothing was captured. -/
def writeSignature (d : Nat) (final : Bool) (s : State) : State :=
  let x := s.door d
  if x.capture.bins0 = [] ∧ x.capture.bins1 = [] then s
  else
    let n := (s.region 2).next
    let s := putSignature (signatureBytes s d final) s
    s.modDoor d fun x => { x with cycle := { x.cycle with sigKept := x.cycle.sigKept || n != (s.region 2).next } }

/-- A closing ends in an obstacle stop, a failed seal test or an energy cap hit (R390). -/
def closeSignature (d : Nat) (s : State) : State :=
  let s := writeSignature d false s
  s.modDoor d fun x => { x with capture := Capture.empty }

/-! ## The cycle record (R389) -/

def maxPeak (l : List BinRun) : Option Rat := l.foldl (fun m b => optMax m (some b.peak)) none

/-- Smallest margin over the closing bins of slots 0 and 1: margin, bin, slot. -/
def minMargin (s : State) (d : Nat) : Option (Rat × Nat × Nat) :=
  ([0, 1].filter fun sl => s.slotOn d sl).foldl (fun m sl =>
    let a := axisOf d sl
    (peaksOf (s.axis a).cycClose).foldl (fun m p =>
      let v := lget (s.axis a).closeLims p.1 0 - p.2
      match m with
      | some (w, b, t) => if v < w then some (v, p.1, sl) else some (w, b, t)
      | none => some (v, p.1, sl)) m) none

def msOf (us : Nat) : Nat := sat16 (us / 1000)

def cycleBytes (s : State) (d : Nat) (margin : Option (Rat × Nat × Nat)) : Bytes :=
  let x := s.door d
  let c := x.cycle
  let t := x.sealTest
  let on (sl : Nat) : Bool := s.slotOn d sl
  let mass (sl : Nat) : Bytes := le 2 (if on sl then sat16 (s.axis (axisOf d sl)).learned.mass.toNat else 0)
  let close (sl : Nat) : List BinRun := if on sl then (s.axis (axisOf d sl)).cycClose else []
  let open_ (sl : Nat) : List BinRun := if on sl then (s.axis (axisOf d sl)).cycOpen else []
  let pk (l : List BinRun) : Bytes := peak16 ((maxPeak l).getD 0)
  let means := (close 0 ++ close 1).map fun b => b.sum / (b.n : Rat)
  let test := c.sealFirst.isSome
  let dg : Int := if !test || t.steps < 4 then 0
    else if t.absolute then lget t.g 3 0 - s.dwp d .sealGapMax else lget t.g 3 0 - lget t.gRef 3 0
  let path := (c.path &&& 0x7F#8).toNat + 128 * b2n c.unlockAt.isNone
  let span (a b : Option Nat) : Nat := match a, b with | some p, some q => msOf (q - p) | _, _ => 0
  let m := margin.getD (0, 0, 0)
  recHead s ++ le 1 d ++
    le 1 (recFlags s 1 + 8 * b2n (envHeld s d) + 16 * b2n (sealHeld s d) + 32 * b2n x.sealLow + 64 * b2n c.sigKept
      + 128 * b2n c.injected) ++
    le 1 path ++ le 1 (s.herd.mode.code + 8 * x.learn + 32 * b2n (s.logic.state != .run)) ++
    le 1 c.obstMax ++ le 1 c.causeOr.toNat ++ le 1 (sat8 c.redrives) ++ le 1 (if test then t.cause else 0) ++
    le 2 (span c.unlockAt c.openAt) ++ le 2 (msOf c.dwellUs) ++
    le 2 (match c.closeAt with | some k => msOf (s.us - k) | none => 0) ++ le 2 (msOf c.staggerUs) ++
    le 2 (sat16 c.ePeak) ++ le 2 (if c.closeAt.isSome then sat16 x.ePlan.toNat else 0) ++ mass 0 ++ mass 1 ++
    pk (close 0) ++ pk (close 1) ++ pk (open_ 0 ++ open_ 1) ++ peak16 (meanL means) ++
    leI 2 (satI 16 dg) ++ leI 2 (if test then satI 16 t.c else 0) ++ pk (open_ 2 ++ close 2) ++
    leI 2 (satI 16 s.sup.baseTemp) ++ peak16 m.1 ++ le 1 m.2.1 ++ le 1 m.2.2

/-- The end of a cycle at the entry into LOCKED_CLOSED: final signature, learning, record, counters (R44, R165, R333,
R389, R390). -/
def endCycle (d : Nat) (s : State) : State :=
  let margin := minMargin s d
  let keep := ((s.door d).cycle.kinds &&& 0x183#12) != 0
  let s := if keep then writeSignature d true s else s
  let s := learnCycle d s
  let inj := (s.door d).cycle.injected
  let s := putCycle (cycleBytes s d margin) s
  let s := (s.axesOf d).foldl (fun s a => s.modAxis a fun x => { x with cycOpen := [], cycClose := [] }) s
  s.modDoor d fun x =>
    { x with cycle := Cycle.empty, capture := Capture.empty, cycles := wrap32 (x.cycles + 1),
             ltCycles := if inj then x.ltCycles else inc32 x.ltCycles,
             sealTest := { x.sealTest with injFail := false } }

end Sys2Proof.Machine
end

