-- ==== Sys2Proof/Machine/Coverage.lean ====
section
/-! DEFINITION. The items and instances of Graze (R465), their coverage and the results they leave (R469). -/

namespace Sys2Proof.Machine

/-- A wire pair of an encoder in use: A and B always, Z where an index is used (R131). -/
def wireInUse (s : State) (k : Nat) : Bool :=
  if k < 72 then s.axOn (k / 3) && s.axp (k / 3) .encMode ≠ 3 && (k % 3 ≠ 2 || s.axp (k / 3) .indexUse = 1)
  else k < 80 && s.doorOn (k - 72) && (ssiAxisOf s (k - 72)).isSome

/-- Whether a Graze item has an instance of a number (R465). Segments, quantities, switches, pages, lines and records are
counted from 0; item 5 numbers the two paths of axis a 2a and 2a + 1, item 6 the doorways, item 7 the pairs A, B, Z of axis
a 3a to 3a + 2 and the SSI pair of doorway d 72 + d, item 8 the pins. -/
def grazeHas (s : State) (i k : Nat) : Bool :=
  match i with
  | 1 => k < 16384
  | 2 => k < 2048
  | 3 => k < 60
  | 4 => k < 8
  | 5 => k < 48 && s.axOn (k / 2)
  | 6 => k < 8 && s.hasStep k
  | 7 => wireInUse s k
  | 8 => k < 112 && (isOutput s k || (pinMode s k = 1 && 20 ≤ s.ioN k .filtUs))
  | 9 => k < 8192
  | 10 => k < 16777216
  | 11 => k < 8192
  | 12 => k = 0
  | _ => false
/-- Number of instances of an item. -/
def grazeCount (s : State) (i : Nat) : Nat :=
  match i with
  | 1 => 16384 | 2 => 2048 | 3 => 60 | 4 => 8 | 9 => 8192 | 10 => 16777216 | 11 => 8192 | 12 => 1
  | _ => ((List.range 112).filter fun k => grazeHas s i k).length
def grazeItem (s : State) (i : Nat) : GrazeItem := vget s.graze.items i GrazeItem.reset
/-- COVERAGE_PCT (R469). -/
def coverPct (s : State) (i : Nat) : Nat :=
  let n := grazeCount s i
  if n = 0 then 0 else 100 * ((grazeItem s i).passed.filter fun k => grazeHas s i k).length / n

/-- The result of one instance (R469): coverage, FAILS, E218 once per instance and cycle, the end of a coverage cycle. A
completed cycle stays shown until the first result of the next one. -/
def grazeResult (i k : Nat) (pass : Bool) (s : State) : State :=
  if !grazeHas s i k then s
  else
    let g := grazeItem s i
    let full := grazeCount s i ≤ (g.passed.filter fun k => grazeHas s i k).length
    let g : GrazeItem := if full then { g with passed := [], failed := [], cycleFrom := s.jrn.opTime, overdue := false } else g
    let first := !pass && !(g.failed.any fun x => x = k)
    let g : GrazeItem :=
      if pass then { g with passed := k :: g.passed.filter fun x => x ≠ k }
      else { g with passed := g.passed.filter fun x => x ≠ k, failed := k :: g.failed.filter fun x => x ≠ k, fails := inc32 g.fails }
    let done := grazeCount s i ≤ (g.passed.filter fun k => grazeHas s i k).length
    let g : GrazeItem :=
      { g with result := if g.failed = [] then 1 else 2, lastRun := if done then s.jrn.opTime else g.lastRun }
    let s := s.modGraze fun z =>
      { z with items := vset z.items i g, runs := inc32 z.runs,
               cycleH := if done then max z.cycleH ((s.jrn.opTime - g.cycleFrom) / 3600000) else z.cycleH,
               overdue := if done then z.overdue &&& ~~~(1#16 <<< (i - 1)) else z.overdue,
               lastFail := if pass then z.lastFail else 65536 * i + k % 65536,
               status := if pass then z.status else z.status ||| 4#16 }
    if first then raise 218 (65536 * i + 4096 + k % 4096) s else s

end Sys2Proof.Machine
end

