-- ==== Sys2Proof/Machine/Doors.lean ====
section
/-! DEFINITION. The doorway's own actions (R33, R42 to R49): entering each state, preparing and starting the moves of the two
paths, timeouts, faults. When a move may start is decided by power staggering (R57). -/

namespace Sys2Proof.Machine

/-- Codes of R33. -/
def DState.code : DState → Nat
  | .unconfigured => 0x00 | .homing => 0x01 | .lockedClosed => 0x02 | .released => 0x03 | .unlocking => 0x04
  | .stepDeploying => 0x05 | .opening => 0x06 | .openDwell => 0x07 | .closeWarning => 0x08 | .closing => 0x09
  | .obstacleStop => 0x0A | .reopening => 0x0B | .sealTest => 0x0C | .locking => 0x0D | .stepRetracting => 0x0E
  | .closedNotLocked => 0x0F | .egress => 0x10 | .isolated => 0x11 | .faultHold => 0x12 | .manual => 0x13

def DriveState.code : DriveState → Nat
  | .disabled => 0 | .sto => 1 | .parked => 2 | .standstill => 3 | .moving => 4 | .stopping => 5 | .safeStopping => 6
  | .homing => 7 | .fault => 8

/-- `DW[d].STEP_STATE` (R33). -/
def stepShown (s : State) (d : Nat) : DState :=
  let x := s.door d
  if s.hasStep d then
    match x.step with
    | .deploying => .stepDeploying
    | .retracting => .stepRetracting
    | _ => x.leaf
  else x.leaf

/-! ## Entering a state -/

/-- PATH bit of a state in the cycle record (R389). -/
def pathBit : DState → BitVec 8
  | .reopening => 1 | .obstacleStop => 2 | .closedNotLocked => 4 | .faultHold => 8 | .egress => 16 | .homing => 32
  | .isolated | .manual => 64 | _ => 0

/-- The leaf path enters a state: timers of the old state end, the time in OPEN_DWELL is added up, the cycle and the
lifetime counters note it (R389, R333). -/
def setLeaf (d : Nat) (st : DState) (s : State) : State :=
  s.modDoor d fun x =>
    let dw := match x.cycle.dwellSince with | some t => x.cycle.dwellUs + (s.us - t) | none => x.cycle.dwellUs
    let new := x.leaf != st
    let lt (b : Bool) (n : Nat) : Nat := if b && !x.cycle.injected then inc32 n else n
    { x with
      leaf := st, shown := st, dwellEnd := none, suspend := .none, suspendSince := none, warnEnd := none, timeout := none,
      lockEnd := none, relock := false, obstPauseEnd := none, waitSince := none, armedOn := none, staggerForce := false,
      parkAt := if x.leaf == .lockedClosed && st == .released || x.leaf == .released && st == .lockedClosed then x.parkAt
                else none
      reopenAfterStop := false, detected := none, energyHit := false,
      sealTest := { x.sealTest with hold := x.sealTest.hold && (st == .locking || st == .closedNotLocked) },
      closedAt := if st == .lockedClosed then s.us else x.closedAt,
      ltReopens := lt (st == .reopening && new) x.ltReopens, ltEgress := lt (st == .egress && new) x.ltEgress,
      ltFaults := lt (st == .faultHold && new) x.ltFaults, ltIsol := lt (st == .isolated && new) x.ltIsol,
      cycle := { x.cycle with path := x.cycle.path ||| pathBit st, dwellSince := none, dwellUs := dw } }

def clearPins (d : Nat) (s : State) : State :=
  seqPin (s.dwN d .warnPin) false (seqPin (s.dwN d .lockPin) false (seqPin (s.dwN d .unlockPin) false s))

def warn (d : Nat) (b : Bool) (s : State) : State := seqPin (s.dwN d .warnPin) b s
def unlockPulse (d : Nat) (s : State) : State := seqPulse (s.dwN d .unlockPin) (1000 * s.dwN d .lockPulseMs) s
def lockPulse (d : Nat) (s : State) : State := seqPulse (s.dwN d .lockPin) (1000 * s.dwN d .lockPulseMs) s

/-- Discard the moves armed on the axes of a doorway. -/
def disarm (d : Nat) (s : State) : State := (s.axesOf d).foldl (fun s a => s.modAxis a fun x => { x with armed := none }) s

/-- A seal test ends without a verdict (R182). -/
def sealInterrupted (d : Nat) (s : State) : State :=
  if (s.door d).sealTest.step.isSome then noteSeal d (sealEnd d 9 s) else s

/-- The capture of a closing that a safety demand or a fault cuts off: written where the closing has already ended in
OBSTACLE_STOP or in an energy cap hit, else discarded (R390). -/
def dropCapture (d : Nat) (s : State) : State :=
  let x := s.door d
  if (x.leaf == .obstacleStop && !x.cameFromOpening) || (x.leaf == .closing && x.energyHit) then closeSignature d s
  else s.modDoor d fun x => { x with capture := Capture.empty }

/-- The homing of every axis of a doorway ends (R156). -/
def endHomings (d : Nat) (s : State) : State :=
  (s.axesOf d).foldl (fun s a =>
    let s := (abortHoming a s).modHome a fun h => { h with phase := .idle, until_ := none }
    if moving s a then s
    else s.modDrive a fun x => { x with state := if x.state == .homing then .standstill else x.state }) s

/-- The resting state of the step path after a fault, by its place. -/
def stepRest (s : State) (d : Nat) : StepPath := if stepIn s d then .retracted else .deployed

/-- What every way out of normal running does: moves in progress stop, pins are cleared, the capture is discarded. -/
def halt (d : Nat) (s : State) : State :=
  let s := endHomings d (sealInterrupted d s)
  let s := stopAxes ((s.axesOf d).filter fun a => moving s a) .quick s
  let s := dropCapture d (clearPins d (disarm d s))
  s.modDoor d fun x => { x with step := stepRest s d, stepTimeout := none, stepFault := false, stepDetected := false,
                                heldOpen := false }

/-- Entry into FAULT_HOLD. -/
def enterFault (d : Nat) (s : State) : State :=
  if (s.door d).leaf == .faultHold then s
  else
    -- a MANUAL doorway that leaves for FAULT_HOLD is no longer isolated, in either lane (DEDUCED, log 19)
    let s := if (s.door d).leaf == .manual then setIsolated d false s else s
    setLeaf d .faultHold (halt d s)

/-- A timeout of the leaf path (R46). -/
def timeoutLeaf (d : Nat) (s : State) : State := enterFault d (raiseDoor d 11 (s.door d).leaf.code false s)

/-- Entry into EGRESS on the operated pair (R42): moving axes safe-stop, then STO. -/
def enterEgress (d : Nat) (s : State) : State :=
  let s := raiseDoor d 5 (3 * d + 2) false s
  let s := endHomings d (sealInterrupted d s)
  let s := (s.axesOf d).foldl (fun s a => safeStopAxis a .ibex s) s
  let s := dropCapture d (clearPins d (disarm d s))
  let s := s.modDoor d fun x => { x with step := stepRest s d, stepTimeout := none, stepFault := false,
                                         stepDetected := false, heldOpen := false }
  setLeaf d .egress s

/-! ## The leaf-clock points of the sequencer (R51, R48, R50) -/

def lcFlags (en pos neg : Bool) : BitVec 8 := BitVec.ofNat 8 (b2n en + 2 * b2n pos + 4 * b2n neg + 8)

/-- The slide position at the outer end of the swing (R50). -/
def camEnd (s : State) (d : Nat) : Int :=
  match camAt s d with
  | some c => rnd (camEval c (s.axp (axisOf d 0) .travel : Rat))
  | none => 0

/-- A point is written at rest, or with the move that begins now: a move runs with the table it started with (R55). -/
def setPoint (a i : Nat) (p : LcPoint) (s : State) : State :=
  if moving s a && !starting s a then s else s.modAxis a fun x => { x with lcTable := vset x.lcTable i p }

/-- Points 0 to 7 of the axes of a doorway (R51); a START_AXIS point is enabled while a move is armed on its target. -/
def writePoints (d : Nat) (s : State) : State :=
  let a0 := axisOf d 0
  let a1 := axisOf d 1
  let a2 := axisOf d 2
  let plug := s.dtype d = tPlug
  let armed (a : Nat) : Bool := (s.axis a).armed.isSome
  let check : LcPoint := ⟨s.dwp d .closedCheckPos, 0x81, lcFlags true true false, 0⟩
  let s := (s.axesOf d).foldl (fun s a => each 8 (fun s i => setPoint a i LcPoint.blank s) s) s
  let s := setPoint a0 0 check s
  let s := if s.dtype d = tBiparting then setPoint a1 0 check s else s
  let s :=
    if s.dwp d .stepMode = 2 then
      setPoint a0 1 ⟨s.dwp d .stepRetractPos, 3, lcFlags (armed a2) false true, a2⟩
        (setPoint a2 1 ⟨s.dwp d .stepOverlapPos, 3, lcFlags (armed a0 || (plug && armed a1)) true false,
          if plug && !armed a0 && armed a1 then a1 else a0⟩ s)
    else s
  if plug then
    setPoint a0 2 ⟨s.axp a0 .travel, 3, lcFlags (armed a1) true false, a1⟩
      (setPoint a1 2 ⟨camEnd s d, 3, lcFlags (armed a0) false true, a0⟩ s)
  else s

/-! ## Arming the moves -/

def arm (a : Nat) (target : Int) (kind : MoveKind) (s : State) : State :=
  s.modAxis a fun x => { x with armed := some ⟨false, target, 0, 0, 0, kind, .sequencer, 0⟩ }

/-- The move to the open position, or its first part on a plug doorway (R42, R50). -/
def armOpen (d : Nat) (kind : MoveKind) (s : State) : State :=
  let t (a : Nat) : Int := s.axp a .travel
  if s.dtype d = tPlug then
    if (s.axis (axisOf d 0)).cmd < (t (axisOf d 0) : Rat) then arm (axisOf d 0) (t (axisOf d 0)) kind s
    else arm (axisOf d 1) (t (axisOf d 1)) kind s
  else (s.leafAxes d).foldl (fun s a => arm a (t a) kind s) s

/-- The closing move, or its first part on a plug doorway. -/
def armClose (d : Nat) (s : State) : State :=
  let a0 := axisOf d 0
  let a1 := axisOf d 1
  let e := s.dwp d .sealEntry
  if s.dtype d = tPlug then
    if (s.axp a0 .travel : Rat) ≤ (s.axis a0).cmd ∧ (camEnd s d : Rat) < (s.axis a1).cmd then arm a1 (camEnd s d) .closing s
    else arm a0 e .closing s
  else (s.leafAxes d).foldl (fun s a => arm a e .closing s) s

/-- The master axis of the doorway's last path. -/
def pathMaster (s : State) (d : Nat) : Nat :=
  match (s.leafAxes d).find? (fun a => absR (s.axis a).ratio = 1) with
  | some a => a
  | none => axisOf d 0

/-- The reopening after an obstacle or a failed seal test (R176): by `REOPEN_DIST`, or to full open. -/
def armReopen (d : Nat) (full fromSeal : Bool) (s : State) : State :=
  if full then armOpen d .reopening s
  else
    let dist : Rat := (s.dwp d .reopenDist : Rat)
    let base (a : Nat) : Rat := if fromSeal then (s.dwp d .sealEntry : Rat) else (s.axis a).cmd
    let target (a : Nat) (k : Rat) : Int := truncR (minR (s.axp a .travel : Rat) (base a + dist * k))
    if s.dtype d = tPlug then
      let a0 := axisOf d 0
      let m := if (s.axis a0).cmd < (s.axp a0 .travel : Rat) then a0 else axisOf d 1
      arm m (target m 1) .reopening s
    else
      let m := absR (s.axis (pathMaster s d)).ratio
      (s.leafAxes d).foldl (fun s a => arm a (target a (if m = 0 then 1 else absR (s.axis a).ratio / m)) .reopening s) s

/-! ## Starting a move -/

/-- Every configured axis of a doorway is ready (R63). -/
def axesReady (s : State) (d : Nat) : Bool := (s.axesOf d).all fun a => readyToMove s a
def wakeAll (d : Nat) (s : State) : State := (s.axesOf d).foldl (fun s a => wakeAxis a s) s

/-- The path request of the moves armed on some axes of a doorway. -/
def seqReq (s : State) (d : Nat) (axes : List Nat) (byPoint : Bool) : Option PathReq :=
  let ms := axes.filterMap fun a => (s.axis a).armed.map fun r => (a, r.target, r.kind)
  match ms with
  | [] => none
  | (_, _, kind) :: _ =>
    let swing := s.dtype d = tPlug && ms.any (fun m => m.1 = axisOf d 0)
    some { moves := ms.map fun m => (m.1, m.2.1), kind := kind, by_ := .sequencer, given := [],
           slave := if swing then some (axisOf d 1, d) else none, fromQueue := false, byPoint := byPoint }

/-- A plug doorway needs its cam table to move its swing (DESIGN CHOICE: without one the move cannot start). -/
def camReady (s : State) (d : Nat) : Bool :=
  s.dtype d ≠ tPlug || (s.axis (axisOf d 0)).armed.isNone || (camAt s d).isSome

/-- The deadline of a move that starts now (R46): 1.5 × its planned duration + 500 ms. -/
def moveDeadline (s : State) (us : Nat) : Nat := s.us + us * 3 / 2 + 500000

/-- The acceleration-end point of a path (R73, R57), on its leading axis, with no doorway armed on it yet. -/
def writeAccEnd (a : Nat) (s : State) : State :=
  let x := s.axis a
  let p := x.plan.startPos + planDist (x.plan.phases.take 3)
  let up := x.plan.startPos < (x.plan.endPos : Rat)
  setPoint a 3 ⟨if up then p.ceil else p.floor, 0x80, lcFlags true up (!up), 0⟩ s

/-- The leading axis of the doorway's present move. -/
def movingLeader (s : State) (d : Nat) : Option Nat :=
  let m := (s.axesOf d).filter fun a => moving s a && (s.axis a).camOf.isNone
  match m.find? (fun a => (s.axis a).plan.leader) with
  | some a => some a
  | none => m.head?

/-- The signature capture of a closing begins at its start where no leaf axis has a SIGNATURE_START point (R184). -/
def captureAtStart (s : State) (d : Nat) : Bool :=
  (s.leafAxes d).all fun a => (s.axis a).lcTable.toList.all fun p => !(p.flags.getLsbD 0 && p.action = 5)

/-- A closing is planned (R68, R75): its mass, and the energy event where the ceiling lies below V_CLOSE_MIN. -/
def notePlanned (d : Nat) (p : PathPlan) (s : State) : State :=
  let s := s.modDoor d fun x => { x with massPlan := p.mass }
  if p.slow then raiseDoor d 8 p.energy.toNat false s else s

/-- A closing starts (R75): its planned energy is published; the later part of one closing keeps the greater of the two. The
event is raised here where no planning before the start has raised it. -/
def noteStart (d : Nat) (p : PathPlan) (raised : Bool) (s : State) : State :=
  let s := s.modDoor d fun x => { x with massPlan := p.mass, ePlan := max x.ePlan p.energy, slowRaised := false }
  if p.slow && !raised then raiseDoor d 8 p.energy.toNat false s else s

/-- What a doorway takes from the plan of its leaf move at the start (R46, R72): planned duration, deadline, figures of a
closing. -/
def takePlan (d : Nat) (p : PathPlan) (s : State) : State :=
  let dur := (planDur p.phases).floor.toNat
  s.modDoor d fun y => { y with plannedUs := dur, timeout := some (moveDeadline s dur) }

/-- The armed leaf move of a doorway starts (R42, R46, R58). -/
def startLeaf (d : Nat) (byPoint : Bool) (s : State) : State :=
  let x := s.door d
  let s := if x.leaf == .closeWarning then
      let s := setLeaf d .closing s
      let s := (s.leafAxes d).foldl (fun s a => s.modAxis a fun y =>
        { y with cycClose := [], closeLims := envLimits s a true, closeMass := planMass s a }) s
      -- the event of a slow plan, raised at the planning, belongs to the closing that starts (R75, R391)
      let keep : BitVec 12 := if x.slowRaised then 0x100 else 0
      s.modDoor d fun y =>
        { y with ePeak := 0, ePlan := 0, capture := { Capture.empty with on := captureAtStart s d },
                 cycle := { y.cycle with closeAt := some s.us, closingKinds := y.cycle.closingKinds &&& keep,
                                          closingInj := y.cycle.closingInj &&& keep, tested := false } }
    else s
  let s := s.modDoor d fun y =>
    { y with waitSince := none, armedOn := none, staggerForce := false,
             cycle := { y.cycle with staggerUs := y.cycle.staggerUs +
               (match x.waitSince with | some t => s.us - t | none => 0) } }
  let axes := s.leafAxes d
  match seqReq s d axes byPoint with
  | none => s
  | some r =>
    let clear := axes.foldl (fun s a => s.modAxis a fun y => { y with armed := none })
    match planPath s d r with
    | none => clear s
    | some p =>
      let s := startPath r p s
      let s := takePlan d p (clear s)
      let s := if r.kind == .closing then noteStart d p (x.leaf == .closeWarning && x.slowRaised) s else s
      let has (a : Nat) : Bool := r.moves.any fun m => m.1 = a
      let a0 := axisOf d 0
      let a1 := axisOf d 1
      -- the second part of a plug doorway's way is armed for leaf-clock point 2
      let s :=
        if s.dtype d = tPlug then
          if r.kind == .closing then (if has a1 then arm a0 (s.dwp d .sealEntry) .closing s else s)
          else if has a0 && (r.kind == .opening || (s.door d).reopenFull) then arm a1 (s.axp a1 .travel) r.kind s
          else s
        else s
      let s := writePoints d s
      match movingLeader s d with
      | some a => writeAccEnd a s
      | none => s

/-- The armed step move starts. -/
def startStep (d : Nat) (byPoint : Bool) (s : State) : State :=
  let a := axisOf d 2
  let wait := (s.door d).waitSince
  let s := s.modDoor d fun y =>
    { y with waitSince := none, armedOn := none, staggerForce := false,
             cycle := { y.cycle with staggerUs := y.cycle.staggerUs + (match wait with | some t => s.us - t | none => 0) } }
  match seqReq s d [a] byPoint with
  | none => s
  | some r =>
    let clear := fun (s : State) => s.modAxis a fun y => { y with armed := none }
    match planPath s d r with
    | none => clear s
    | some p =>
      let s := clear (startPath r p s)
      let dur := (planDur p.phases).floor.toNat
      let s := s.modDoor d fun y => { y with stepTimeout := some (moveDeadline s dur) }
      let s := writePoints d s
      writeAccEnd a s

/-! ## The step path (R48, R49) -/

/-- The step path enters a moving state and waits for its start. -/
def enterStep (d : Nat) (deploy : Bool) (s : State) : State :=
  let a := axisOf d 2
  let s := arm a (if deploy then s.axp a .travel else 0) .step s
  s.modDoor d fun x => { x with step := if deploy then .deploying else .retracting,
                                shown := if deploy then .stepDeploying else .stepRetracting,
                                stepTimeout := none, stepFault := false }

/-- The whole doorway is stopped by its step (R49, R127): the step event with its detail, then FAULT_HOLD. -/
def stepFaultHold (d detail : Nat) (s : State) : State := enterFault d (raiseDoor d 7 detail false s)

/-- A fault of a step move (R49): a deploying step is stopped and will be retracted, a retracting one takes the doorway
to FAULT_HOLD. The event has been raised. -/
def stepFailed (d : Nat) (s : State) : State :=
  let s := stopPath (axisOf d 2) .obstacle s
  -- a move that has not started is given up with its wait
  let waiting := (s.axis (axisOf d 2)).armed.isSome && !moving s (axisOf d 2)
  let s := s.modAxis (axisOf d 2) fun x => { x with armed := none }
  let s := if waiting then s.modDoor d fun x => { x with waitSince := none, armedOn := none } else s
  match (s.door d).step with
  | .deploying =>
    if (s.door d).stepFault then enterFault d s
    else s.modDoor d fun x => { x with stepFault := true, stepTimeout := none }
  | .retracting => enterFault d (raiseDoor d 7 4 false s)
  | _ => s

/-- The step has come to rest, or its stop after a fault has. -/
def advanceStep (d : Nat) (s : State) : State :=
  if !s.hasStep d then s else
  let a := axisOf d 2
  let s := if (s.door d).stepDetected then stepFailed d (s.modDoor d fun x => { x with stepDetected := false }) else s
  let s := if due s (s.door d).stepTimeout ∧ ((s.door d).step = .deploying ∨ (s.door d).step = .retracting) then
      stepFailed d (raiseDoor d 7 3 false (s.modDoor d fun x => { x with stepTimeout := none })) else s
  let x := s.door d
  if moving s a ∨ (s.axis a).armed.isSome = true then s
  else
    match x.step with
    | .deploying =>
      if x.stepFault then
        -- retraction to 0 after a failed deployment, not held back; without a position the doorway stops (R127)
        if !posValid s a then stepFaultHold d 3 s
        else if readyToMove s a then startStep d false (enterStep d false s)
        else wakeAxis a s
      else s.modDoor d fun x => { x with step := .deployed, stepTimeout := none, shown := x.leaf }
    | .retracting =>
      if stepIn s d then s.modDoor d fun x => { x with step := .retracted, stepTimeout := none, shown := x.leaf }
      else enterFault d (raiseDoor d 7 4 false s)
    | _ => s

/-! ## Dwell (R42, R39, R60) -/

def Suspend.any (x : Suspend) : Bool := x.byKcp || x.byPlan ≠ [] || x.byLatch || x.byDepot

/-- OPEN_DWELL is entered with a dwell of a length. -/
def enterDwell (d ms : Nat) (s : State) : State :=
  let s := setLeaf d .openDwell (writePoints d (disarm d s))
  s.modDoor d fun x =>
    { x with dwellEnd := some (s.us + 1000 * ms), overrunRaised := false,
             cycle := { x.cycle with dwellSince := some s.us, openAt := some (x.cycle.openAt.getD s.us) } }

def restartDwell (d : Nat) (s : State) : State :=
  s.modDoor d fun x => { x with dwellEnd := if x.suspend.any then none else some (s.us + 1000 * s.dwN d .dwellMs) }

/-- The dwell is suspended for a reason. -/
def suspendDwell (d : Nat) (f : Suspend → Suspend) (s : State) : State :=
  s.modDoor d fun x => { x with suspend := f x.suspend, dwellEnd := none, suspendSince := some (x.suspendSince.getD s.us) }

/-- Reasons are lifted; when none is left the dwell runs for a time from now. -/
def liftDwell (d : Nat) (f : Suspend → Suspend) (ms : Nat) (s : State) : State :=
  s.modDoor d fun x =>
    let was := x.suspend.any
    let n := f x.suspend
    if was && !n.any && x.leaf == .openDwell then
      { x with suspend := n, suspendSince := none, dwellEnd := some (s.us + 1000 * ms) }
    else { x with suspend := n }

/-! ## Opening and closing -/

/-- Entry into UNLOCKING (R42, R43): from RELEASED the count, the latch and the detection fields are cleared. -/
def enterUnlocking (d : Nat) (fresh : Bool) (s : State) : State :=
  let s := setLeaf d .unlocking s
  let s := wakeAll d s
  let s := seqPin (s.dwN d .lockPin) false s
  let s := unlockPulse d s
  let s := s.modDoor d fun x =>
    { x with timeout := some (s.us + 1000 * s.dwN d .unlockTimeMs), heldOpen := false,
             cycle := { x.cycle with unlockAt := some (x.cycle.unlockAt.getD s.us) } }
  if fresh then
    s.modDoor d fun x => { x with obstCount := 0, latch := false, obstCause := 0, obstAxis := 0, obstPos := 0, obstForce := 0 }
  else s

/-- A doorway begins to wait for its start, with a place in the staggering order. -/
def beginWait (d : Nat) (s : State) : State :=
  let n := s.waitNo + 1
  ({ s with waitNo := n }).modDoor d fun x => { x with waitSince := some s.us, waitNo := n, armedOn := none }

def waitBound (s : State) : Nat := s.us + 1000 * (s.modN .staggerMaxMs + 100)

/-- Entry into OPENING (R42, R48): with a step in its retracted place the step goes first. -/
def enterOpening (d : Nat) (s : State) : State :=
  let step := s.hasStep d && (s.door d).step == .retracted
  let s := if step then enterStep d true s else s
  let s := setLeaf d .opening s
  let s := armOpen d .opening s
  let s := writePoints d (beginWait d s)
  s.modDoor d fun x => { x with timeout := if step then none else some (waitBound s),
                                stepTimeout := if step then some (waitBound s) else x.stepTimeout }

/-- The close warning (R42). -/
def enterWarning (d : Nat) (s : State) : State :=
  let s := warn d true (setLeaf d .closeWarning s)
  let w := s.dwN d .warnMs
  s.modDoor d fun x => { x with warnEnd := some (s.us + 1000 * w),
                                timeout := some (s.us + 1000 * (w + s.modN .staggerMaxMs + 100)) }

/-- The warning time has elapsed: the closing is planned and waits for its start (R42, R59). -/
def prepareClose (d : Nat) (s : State) : State :=
  let s := s.modDoor d fun x => { x with warnEnd := none }
  let s := armClose d (wakeAll d s)
  let s := if s.dwp d .stepMode = 2 ∧ (s.door d).step = .deployed then arm (axisOf d 2) 0 .step s else s
  let s := match (seqReq s d (s.leafAxes d) false).bind fun r => planPath s d r with
    | some p => (notePlanned d p s).modDoor d fun x => { x with slowRaised := p.slow }
    | none => s
  beginWait d s

/-- REOPENING begins (R42, R176): never held back. -/
def enterReopening (d : Nat) (full fromSeal : Bool) (s : State) : State :=
  let s := setLeaf d .reopening s
  let s := s.modDoor d fun x => { x with reopenFull := full }
  let s := armReopen d full fromSeal (disarm d s)
  let s := beginWait d s
  s.modDoor d fun x => { x with timeout := some (waitBound s) }

/-- Reopening under the retry rules (R42, R43): by the distance while attempts are left, else to full open with the latch. -/
def retryReopen (d : Nat) (fromSeal : Bool) (s : State) : State :=
  let x := s.door d
  if x.obstCount < s.dwN d .obstRetries then enterReopening d false fromSeal s
  else enterReopening d true fromSeal (s.modDoor d fun x => { x with latch := true })

def countObst (d : Nat) (s : State) : State :=
  s.modDoor d fun x =>
    let n := min 7 (x.obstCount + 1)
    { x with obstCount := n, cycle := { x.cycle with obstMax := max x.cycle.obstMax n } }

/-- Entry into OBSTACLE_STOP (R42, R174); a trigger without a fabric ramp starts the ramp here (R96). -/
def enterObstacle (d : Nat) (opening : Bool) (s : State) : State :=
  let s := if opening then s else warn d false (countObst d s)
  let s := stopAxes (movingLeaves s d) .obstacle s
  let s := setLeaf d .obstacleStop (disarm d s)
  s.modDoor d fun x => { x with cameFromOpening := opening }

/-- Lock pulse and LOCKING (R42). -/
def enterLocking (d : Nat) (s : State) : State :=
  let s := lockPulse d (setLeaf d .locking s)
  s.modDoor d fun x => { x with lockEnd := some (s.us + 1000 * s.dwN d .lockTimeMs) }

/-- Entry into LOCKED_CLOSED after proof of R34 (R44). -/
def enterLocked (d : Nat) (s : State) : State :=
  let s := setLeaf d .lockedClosed s
  let s := clearPins d s
  let s := endCycle d (disarm d s)
  let s := writePoints d s
  let live := (s.axesOf d).any fun a => (s.axis a).drive.energised
  s.modDoor d fun x => { x with redrives := 0, step := stepRest s d,
                                parkAt := if live then some (s.us + 1000 * s.dwN d .parkDelayMs) else none }

/-- Energised axes at rest are parked when their delay is over; the delay stands while one is still moving. -/
def parkDue (d : Nat) (s : State) : State :=
  if due s (s.door d).parkAt then
    let s := (s.axesOf d).foldl (fun s a =>
      if (s.axis a).drive.state == .standstill && !parking (s.axis a).drive && !disabling (s.axis a).drive && !moving s a
      then (reqPark a s).1 else s) s
    if (s.axesOf d).any fun a => moving s a then s else s.modDoor d fun x => { x with parkAt := none }
  else s

/-! ## The seal test's end (R42, R179) -/

/-- The verdict of a seal test that has ended (R42, R178, R181, R455). -/
def sealVerdict (d : Nat) (s : State) : State :=
  let s := noteSeal d s
  let t := (s.door d).sealTest
  if t.cause = 1 && !t.injFail then
    let clean := ((s.door d).cycle.closingKinds &&& 0x001#12) == 0
    let s := if clean then (s.leafAxes d).foldl (fun s a => s.modAxis a (learnFric false)) s else s
    enterLocking d (s.modDoor d fun x => { x with redrives := 0 })
  else
    let s := if t.injFail then s else raiseDoor d 1 t.cause false s
    let s := countObst d (s.modDoor d fun x => { x with sealTest := { x.sealTest with injFail := false } })
    let s := closeSignature d s
    let early := t.cause = 8
    let s := retryReopen d true s
    if early then unlockPulse d s else s

/-! ## Recovery and homing (R42, R155) -/

/-- The cause of a FAULT_HOLD is cleared. -/
def causeCleared (s : State) (d : Nat) : Bool :=
  !s.saf.lanes.safe && !discrepant s (3 * d) && !discrepant s (3 * d + 1) && laneActive s .ibex (3 * d + 2) &&
    (s.axesOf d).all fun a => (s.axis a).drive.state != .fault && !(s.axis a).drive.grazeHold

def enterHoming (d : Nat) (s : State) : State :=
  let s := setLeaf d .homing s
  let s := (s.axesOf d).foldl (fun s a => s.modHome a fun h => { h with done := false, failRaised := false, phase := .idle }) s
  s.modDoor d fun x => { x with timeout := some (s.us + 1000000 * s.dwN d .homeTimeoutS) }

/-- An accepted reset edge or CLOSE_REQUEST in FAULT_HOLD (R42, R121). -/
def recover (d : Nat) (s : State) : State :=
  let s := (s.axesOf d).foldl (fun s a => clearStage a 0x0EFE s) s
  if !causeCleared s d then s
  else if (s.axesOf d).all fun a => posValid s a then enterWarning d s
  else if s.effMode == .wash then s
  else enterHoming d s

/-- The groups in which the axes of a doorway are homed (R155). -/
def homeGroups (s : State) (d : Nat) : List (List Nat) :=
  let step := if s.hasStep d then [[axisOf d 2]] else []
  if s.dtype d = tPlug then step ++ [[axisOf d 1], [axisOf d 0]] else step ++ [s.leafAxes d]

/-- HOMING goes on: the next group begins, axes that have become ready search, and at the end the doorway leaves it. -/
def advanceHoming (d : Nat) (s : State) : State :=
  match (homeGroups s d).find? (fun g => g.any fun a => !(s.axis a).home.done) with
  | some g =>
    g.foldl (fun s a =>
      let h := (s.axis a).home
      if h.done then s
      else if h.phase == .idle then homeBegin a false s
      else homeContinue a (wakeAxis a s)) s
  | none =>
    let s := s.modDoor d fun x => { x with step := stepRest s d }
    let inner := (if s.dtype d = tPlug then [axisOf d 0] else s.leafAxes d).all fun a =>
      posUm s a ≤ s.dwp d .sealEntry
    if inner then enterLocking d (s.modDoor d fun x => { x with redrives := 0 }) else enterWarning d s

end Sys2Proof.Machine
end

