-- ==== Sys2Proof/Machine/Stagger.lean ====
section
/-! DEFINITION. Power staggering (R56 to R59) and the leaf clock (R51 to R54). -/

namespace Sys2Proof.Machine

/-! ## Power figures (R56) -/

def powerOf (s : State) (f : AxP) (l : List Nat) : Int := (l.map fun a => s.axp a f).foldl (· + ·) 0

/-- Axes of a doorway that move now. -/
def movingAxes (s : State) (d : Nat) : List Nat := (s.axesOf d).filter fun a => moving s a

/-- The step path starts first: it has an armed move of its own and the leaf path is not the one waiting to close. -/
def stepFirst (s : State) (d : Nat) : Bool :=
  (s.axis (axisOf d 2)).armed.isSome && ((s.door d).step == .deploying || (s.door d).step == .retracting)

/-- The axes that take part in the move a doorway waits to start. With STEP_MODE SEQUENTIAL the step starts alone (R48). -/
def waitingAxes (s : State) (d : Nat) : List Nat :=
  let armed := (s.axesOf d).filter fun a => (s.axis a).armed.isSome
  if stepFirst s d && s.dwp d .stepMode = 1 then [axisOf d 2]
  else if armed.any isLeaf then s.leafAxes d ++ armed.filter (fun a => !isLeaf a) else armed

/-- A moving doorway whose axes have not passed the end of their acceleration phase. -/
def stillAccelerating (s : State) (d : Nat) : Bool :=
  (movingAxes s d).any fun a =>
    let x := s.axis a
    x.camOf.isNone && x.ramp.isNone && (match x.elapsed with | some t => t < accDur x.plan | none => false)

/-- Time to the end of the acceleration phase. -/
def accLeft (s : State) (d : Nat) : Rat :=
  (movingAxes s d).foldl (fun m a =>
    let x := s.axis a
    match x.elapsed with
    | some t => if x.camOf.isNone then maxR m (accDur x.plan - t) else m
    | none => m) 0

/-- Present figure of a doorway. -/
def figure (s : State) (d : Nat) : Int :=
  let m := movingAxes s d
  if m ≠ [] then (if stillAccelerating s d then powerOf s .pAccW m else powerOf s .pRunW m)
  else if (s.door d).waitSince.isSome then powerOf s .pHoldW (waitingAxes s d)
  else powerOf s .pHoldW (s.axesOf d)

def needOf (s : State) (w : Nat) : Int := powerOf s .pAccW (waitingAxes s w) - powerOf s .pHoldW (waitingAxes s w)
def freedOf (s : State) (x : Nat) : Int := powerOf s .pAccW (movingAxes s x) - powerOf s .pRunW (movingAxes s x)

/-- The budget in W (R56). -/
def budgetOf (s : State) : Int := if s.modp .driveBudgetW = 0 then (8 * s.sup.driveVolt / 1000 : Nat) else s.modp .driveBudgetW

/-! ## Starting a waiting doorway -/

/-- The leaf path waits for the step (R48, R49): a start of the leaves is not due yet. -/
def leafBlocked (s : State) (d : Nat) : Bool :=
  (s.door d).leaf == .opening && ((s.door d).step == .deploying || (s.door d).step == .retracting)

/-- Start what a doorway waits for, once its axes are ready; axes without a valid position end the wait as a timeout
(R127, R46). -/
def startWaiting (d : Nat) (byPoint : Bool) (s : State) : State :=
  if stepFirst s d then
    let a := axisOf d 2
    if !posValid s a then stepFaultHold d 3 s else startStep d byPoint s
  else if !((s.leafAxes d).all fun a => posValid s a) || !camReady s d then timeoutLeaf d s
  else startLeaf d byPoint s

/-- No opening move starts under REGEN_LOCK or BASE_LIMIT (R436, R448). -/
def openingBlocked (s : State) (d : Nat) : Bool :=
  (s.door d).leaf == .opening && (s.sup.regenLockEnd.isSome || s.sup.tempStatus.getLsbD 6)

/-- Whether a doorway is waiting for its start and could start in this pass. -/
def waitingReady (s : State) (d : Nat) : Bool :=
  (s.door d).waitSince.isSome && axesReady s d && (stepFirst s d || (!leafBlocked s d && !openingBlocked s d))

/-- Insertion by order number, then doorway. -/
def insertWait (s : State) (d : Nat) : List Nat → List Nat
  | [] => [d]
  | e :: r => if (s.door d).waitNo < (s.door e).waitNo then d :: e :: r else e :: insertWait s d r

/-- Waiting doorways, oldest request first, then lowest d. -/
def waiters (s : State) : List Nat :=
  ((List.range 8).filter fun d => waitingReady s d && (s.door d).armedOn.isNone).foldl (fun l d => insertWait s d l) []

/-- Doorways still accelerating with no doorway armed on them, earliest acceleration end first. -/
def insertAcc (s : State) (d : Nat) : List Nat → List Nat
  | [] => [d]
  | e :: r => if accLeft s d < accLeft s e then d :: e :: r else e :: insertAcc s d r
def accelList (s : State) : List Nat :=
  ((List.range 8).filter fun x => stillAccelerating s x &&
    (List.range 8).all fun w => (s.door w).armedOn ≠ some x).foldl (fun l d => insertAcc s d l) []

/-- Arm a waiting doorway on the acceleration-end point of another. -/
def armOn (w x : Nat) (s : State) : State :=
  let s := s.modDoor w fun y => { y with armedOn := some x }
  match movingLeader s x with
  | some a => s.modAxis a fun y =>
      let p := vget y.lcTable 3 LcPoint.empty
      { y with lcTable := vset y.lcTable 3 { p with operand := p.operand ||| 2 ^ w } }
  | none => s

/-- One waiting doorway of the loop of R57, with the committed sum. -/
def staggerOne (acc : State × Int) (w : Nat) : State × Int :=
  let s := acc.1
  let committed := acc.2
  let x := s.door w
  let need := needOf s w
  let waited := match x.waitSince with | some t => (s.us - t) / 1000 | none => 0
  if x.leaf == .reopening || x.staggerForce || s.modN .staggerMaxMs ≤ waited || committed + need ≤ budgetOf s then
    (startWaiting w false s, committed + need)
  else
    match (accelList s).find? (fun y => committed - freedOf s y + need ≤ budgetOf s) with
    | some y => (armOn w y s, committed + max (need - freedOf s y) 0)
    | none => acc

/-- Arming whose doorway stopped before the point is undone (R57). -/
def dropArming (s : State) : State :=
  each 8 (fun s w =>
    match (s.door w).armedOn with
    | some x =>
      let live := (movingAxes s x).any fun a => (s.axis a).ramp.isNone
      if live then s else s.modDoor w fun y => { y with armedOn := none }
    | none => s) s

/-- R57, once per pass. -/
def stagger (s : State) : State :=
  let s := each 8 (fun s d => if (s.door d).waitSince.isSome then wakeAll d s else s) (dropArming s)
  let base := (List.range 8).foldl (fun c d => c + figure s d) 0
  let armed := (List.range 8).foldl (fun c w =>
    match (s.door w).armedOn with
    | some x => c + max (needOf s w - freedOf s x) 0
    | none => c) base
  ((waiters s).foldl staggerOne (s, armed)).1

/-- The wait of a doorway has reached its bound (R58): it starts regardless. -/
def effectStaggerMax (d : Nat) (s : State) : State :=
  match (s.door d).waitSince with
  | some t =>
    let s := forwardTo (some (t + 1000 * s.modN .staggerMaxMs)) s
    let s := s.modDoor d fun x => { x with staggerForce := true }
    if waitingReady s d && (s.door d).armedOn.isNone then startWaiting d false s else s
  | none => s

/-! ## The leaf clock (R53, R54) -/

/-- At rest for a leaf-clock point: an axis that comes to rest in this tick counts (R53). -/
def restNow (s : State) (a : Nat) : Bool := if moving s a then planDone (s.axis a) else atRest s a

/-- An axis that has reached its end in this tick is brought to rest before a point starts it again. -/
def settleAxis (a : Nat) (s : State) : State := if moving s a && planDone (s.axis a) then arriveAxis a (endBins a s) else s

def pointEvent (d : Nat) (s : State) : State := raiseDoor d 11 (s.door d).leaf.code false s

/-- START_AXIS (R54). -/
def startAxis (d b : Nat) (s : State) : State :=
  let armed := (s.axis b).armed.isSome
  if armed && restNow s b then
    let s := settleAxis b s
    if isLeaf b then
      let s := (s.leafAxes d).foldl (fun s a => settleAxis a s) s
      if (s.leafAxes d).all fun a => posValid s a then startLeaf d true s else timeoutLeaf d s
    else
      let s := if (s.door d).step == .deployed then
          s.modDoor d fun x => { x with step := .retracting, shown := .stepRetracting } else s
      if posValid s b then startStep d true s else stepFaultHold d 3 s
  else
    let s := if armed then s.modAxis b fun x => { x with armed := none } else s
    pointEvent d s

/-- STAGGER_RELEASE for one doorway (R54). -/
def releaseDoor (x w : Nat) (s : State) : State :=
  if (s.door w).armedOn = some x then
    let s := s.modDoor w fun y => { y with armedOn := none }
    if (waitingAxes s w).all (fun a => restNow s a) && waitingReady s w then startWaiting w true s else s
  else s

/-- CLOSED_CHECK (R42, R52): the closed pair must have dropped. -/
def closedCheck (d : Nat) (s : State) : State :=
  if (s.door d).leaf == .opening && pairActive s (3 * d) then
    enterFault d (raiseDoor d 3 (3 * d) false s)
  else s

/-- The action of a fired point of axis a (R52). -/
def pointAction (a : Nat) (p : LcPoint) (s : State) : State :=
  let d := doorOf a
  let op := p.operand
  match p.action with
  | 0x01 => positionPin op true s
  | 0x02 => positionPin op false s
  | 0x03 => startAxis d (op % 256) s
  | 0x04 => selectCurrent a (s.axN a (.iLevel (op % 4))) s
  | 0x05 => if closingAxes s d != [] then s.modDoor d fun x => { x with capture := { x.capture with on := true } } else s
  | 0x06 => if captureAtStart s d then s else s.modDoor d fun x => { x with capture := { x.capture with on := false } }
  | 0x07 => planEvent (op / 4096) (op % 4096) s
  | 0x80 => each 8 (fun s w => if bit op w then releaseDoor d w s else s) s
  | 0x81 => closedCheck d s
  | _ => s

/-- Whether a point is passed in this tick (R53). -/
def pointPassed (x : Axis) (i : Nat) (p : LcPoint) : Bool :=
  let pos : Rat := (p.pos : Rat)
  p.flags.getLsbD 0 && !x.lcFired.getLsbD i &&
    ((p.flags.getLsbD 1 && x.cmdPrev < pos && pos ≤ x.cmd) || (p.flags.getLsbD 2 && pos < x.cmdPrev && x.cmd ≤ pos))

/-- Step 4 of R137 for one axis: points passed in the tick act in ascending order. -/
def tickPoints (a : Nat) (s : State) : State :=
  let x := s.axis a
  if x.elapsed.isSome then
    ((List.range 32).filter fun i => pointPassed x i (vget x.lcTable i LcPoint.empty)).foldl (fun s i =>
      let p := vget x.lcTable i LcPoint.empty
      let op := (vget (s.axis a).lcTable i LcPoint.empty).operand
      let s := s.modAxis a fun y => { y with lcFired := y.lcFired ||| (1#32 <<< i) }
      pointAction a { p with operand := op } s) s
  else s

end Sys2Proof.Machine
end

