-- ==== Sys2Proof/Machine/Moves.lean ====
section
/-! DEFINITION. Moves asked for by the host (R65, R66, R81, R92, R93, R114, R127, R306, R307), the end of a move, and what follows
it in the same tick (R95, R93). -/

namespace Sys2Proof.Machine

/-! ## What the mode and the doorway permit (R60, R64, R114) -/

/-- The JOG row of R60, which ENABLE, DISABLE and PARK follow too (R114). -/
def driveGate (s : State) (a : Nat) : Option Status :=
  if !s.axOn a then some .doorwayStateForbids
  else if s.effMode != .maintenance then some .modeForbids
  else if isolatedState (s.door (doorOf a)) then none
  else some .doorwayStateForbids

/-- A target of the host for a doorway axis. The exception of R64 (AXIS_BUSY while the sequencer moves the axis) is tested
after the mode and before the doorway state. -/
def motionGate (s : State) (a : Nat) : Option Status :=
  if s.axOn a && s.effMode == .maintenance && moving s a && (s.axis a).by_ == .sequencer then some .axisBusy
  else driveGate s a

/-- Homing of the host: MAINTENANCE or TEST; a MANUAL doorway has no axis in HOMING (R33). -/
def homeGate (s : State) (a : Nat) : Option Status :=
  if !s.axOn a then some .doorwayStateForbids
  else if s.effMode != .maintenance && s.effMode != .test then some .modeForbids
  else if (s.door (doorOf a)).leaf == .manual then some .doorwayStateForbids
  else none

/-! ## Limits (R65, R66, R307) -/

/-- Speed, acceleration and jerk of a request lie within those of the axis; 0 selects the axis's own, when the move is planned
(R65, R306). -/
def limitsOk (s : State) (a : Nat) (m : MoveReq) : Bool :=
  let ok (x dflt top : Int) : Bool := let y := if x = 0 then dflt else x; 0 < y && y ≤ top
  ok m.v (s.axp a .vOpen) (s.axp a .vmax) && ok m.acc (s.axp a .accOpen) (s.axp a .amax)
    && ok m.jerk (s.axp a .jerkOpen) (s.axp a .jmax)

/-- The absolute target of a request at its start. -/
def targetOf (s : State) (a : Nat) (m : MoveReq) : Int := if m.rel then rnd (s.axis a).cmd + m.target else m.target

/-- A target outside the soft limits is refused while the position is valid. -/
def targetOk (s : State) (a : Nat) (m : MoveReq) : Bool :=
  !posValid s a || m.kind == .homing ||
    (let t := targetOf s a m; s.axp a .softMin ≤ t && t ≤ s.axp a .softMax)

/-- Checks of a request that do not depend on rest. -/
def requestOk (s : State) (a : Nat) (m : MoveReq) : Option Status :=
  match (if m.kind == .homing then homeGate s a else motionGate s a) with
  | some st => some st
  | none =>
    if m.kind == .homing then none
    else if m.kind == .point && !m.rel && !posValid s a then some .doorwayStateForbids
    else if !limitsOk s a m then some .outOfRange
    else if !targetOk s a m then some .outOfRange
    else none

/-- What an axis at rest answers before it can start or be enabled (R111, R113, R414). -/
def driveRefuses (s : State) (a : Nat) : Option Status :=
  let d := (s.axis a).drive
  if d.state == .fault then some .doorwayStateForbids
  else if parking d || disabling d then some .shutdownInProgress
  else if !d.energised && d.demanded then some .safetyLocked
  else if !d.energised && !s.sup.precharged then some .doorwayStateForbids
  else none

/-- At rest and with no move of the host waiting for its enable ramp. -/
def freeForMove (s : State) (a : Nat) : Bool := atRest s a && (s.axis a).drive.afterEnable.isNone && !moving s a

/-! ## Starting -/

/-- Axes that a request moves together. -/
def groupAxes (a : Nat) (m : MoveReq) : List Nat :=
  if m.slots = 0 then [a] else ([0, 1, 2].filter fun sl => bit m.slots sl).map fun sl => axisOf (doorOf a) sl

/-- Start the move of a group of axes that are all ready. A move of a leaf or swing axis toward 0 is planned as a closing, with
its energy event and figures (R81, R75). -/
def startHost (d : Nat) (ms : List (Nat × MoveReq)) (s : State) : State :=
  match ms with
  | [] => s
  | (a, m) :: _ =>
    let r : PathReq :=
      { moves := ms.map fun x => (x.1, targetOf s x.1 x.2), kind := m.kind, by_ := m.by_,
        given := ms.map fun x => (x.1, x.2.v, x.2.acc, x.2.jerk), slave := none,
        fromQueue := (s.axis a).queueStatus = 0x0002, byPoint := false }
    match planPath s d r with
    | some p =>
      let closing := pathClosing s r
      let s := if closing then s.modDoor d fun x => { x with ePlan := 0 } else s
      let s := startPath r p s
      if closing then noteStart d p false s else s
    | none => s

/-- A request of the host, checked and its axes at rest: a homing begins, a move starts, or its axes are enabled first
(R42 for an ISOLATED doorway, R111). -/
def beginHost (ms : List (Nat × MoveReq)) (s : State) : State :=
  match ms with
  | [] => s
  | (a, m) :: _ =>
    let d := doorOf a
    if m.kind == .homing then homeBegin a true s
    else
      let go_ := ms.filter fun x => (targetOf s x.1 x.2 : Rat) ≠ (s.axis x.1).cmd
      if go_ = [] then s
      else
        let s := if (s.door d).leaf == .isolated then setLeaf d .manual s else s
        if go_.all fun x => readyToMove s x.1 then startHost d go_ s
        else
          go_.foldl (fun s x =>
            let s := if (s.axis x.1).drive.energised then s else enableAxis x.1 s
            s.modDrive x.1 fun dr => { dr with afterEnable := some x.2 }) s

/-- The enable ramp of an axis has ended: a move of the host that waited for it starts when all its axes are ready. -/
def startAfterEnable (a : Nat) (s : State) : State :=
  match (s.axis a).drive.afterEnable with
  | none => s
  | some m =>
    let l := (groupAxes a m).filter fun b => (s.axis b).drive.afterEnable.isSome
    if l.all fun b => readyToMove s b then
      let ms := l.filterMap fun b => (s.axis b).drive.afterEnable.map fun r => (b, r)
      let s := l.foldl (fun s b => s.modDrive b fun d => { d with afterEnable := none }) s
      startHost (doorOf a) ms s
    else s

/-- A request of the host on one or several axes (R92, R93, R113, R127, R306). -/
def hostMove (ms : List (Nat × MoveReq)) (queue : Bool) (s : State) : State × Status :=
  match ms.findSome? fun x => requestOk s x.1 x.2 with
  | some st => (s, st)
  | none =>
    match ms with
    | [] => (s, .outOfRange)
    | _ :: _ =>
      if ms.all fun x => freeForMove s x.1 then
        match ms.findSome? fun x => driveRefuses s x.1 with
        | some .shutdownInProgress =>
          (ms.foldl (fun s x =>
            let d := (s.axis x.1).drive
            if parking d || disabling d then s.modDrive x.1 fun d => { d with enableQueued := true } else s) s,
           .shutdownInProgress)
        | some st => (s, st)
        | none => (beginHost ms s, .ok)
      else if !queue || ms.any fun x => (s.axis x.1).queued.isSome then (s, .axisBusy)
      else (ms.foldl (fun s x => s.modAxis x.1 fun y => { y with queued := some x.2 }) s, .okQueued)

/-! ## JOG (R307) -/

/-- The target of a jog: the soft limit in its direction, or as far as a position can be written without one. -/
def jogTarget (s : State) (a : Nat) (v : Int) : Int :=
  if posValid s a then (if v < 0 then s.axp a .softMin else s.axp a .softMax)
  else if v < 0 then -2147483647 else 2147483647

def jogReq (s : State) (a : Nat) (v : Int) : MoveReq :=
  ⟨false, jogTarget s a v, absI v, 0, 0, .jog, .host, 0⟩

/-- JOG of a session: start, renewal, or stop with a speed of 0; with QUEUE it is held while the axis is not at rest (R92,
R93). -/
def hostJog (a : Nat) (v : Int) (payload : Bytes) (session : Nat) (queue : Bool) (s : State) : State × Status :=
  let until_ := s.us + 1000 * s.netN .jogRefreshMs
  let mark (s : State) : State := s.modAxis a fun x => { x with jog := some (session, until_, payload) }
  match motionGate s a with
  | some st => (s, st)
  | none =>
    if s.axp a .vJog < absI v ∨ s.axp a .vmax < absI v then (s, .outOfRange)
    else if v = 0 then (if (s.axis a).jog.isSome then requestStop a .own s else s, .ok)
    else
      match (s.axis a).jog with
      | some j => if j.2.2 = payload then (mark s, .ok) else (s, .axisBusy)
      | none =>
        if !freeForMove s a then
          if queue && (s.axis a).queued.isNone then
            (s.modAxis a fun x => { x with queued := some (jogReq s a v), jogQueued := some (session, payload) }, .okQueued)
          else (s, .axisBusy)
        else
          match driveRefuses s a with
          | some .shutdownInProgress => (s.modDrive a fun d => { d with enableQueued := true }, .shutdownInProgress)
          | some st => (s, st)
          | none =>
            let s := beginHost [(a, jogReq s a v)] s
            (if moving s a || (s.axis a).drive.afterEnable.isSome then mark s else s, .ok)

/-- A jog ends along its own ramp: its renewal has not come, or its session ends. -/
def endJog (a : Nat) (s : State) : State :=
  if (s.axis a).jog.isSome then
    let s := s.modAxis a fun x => { x with jog := none, drive := { x.drive with afterEnable := none } }
    requestStop a .own s
  else s

def effectJogTimeout (a : Nat) (s : State) : State :=
  match (s.axis a).jog with
  | some j => endJog a (forwardTo (some j.2.1) s)
  | none => s

/-! ## Stops of the host (R96, R98) -/

/-- A stop of the host on some axes: a move takes the ramp, a homing at rest is aborted (R156), a move that waits for its
enable ramp and a held target are discarded (R93). -/
def hostStop (axes : List Nat) (r : RampKind) (s : State) : State :=
  axes.foldl (fun s a =>
    if moving s a || (s.axis a).home.phase != .idle then requestStop a r s
    else (discardQueue a s).modDrive a fun d => { d with afterEnable := none }) s

/-! ## Motion commands in the pass (R31, R306, R307, R114) -/

/-- The axes of a target: the axis itself, or the slots of the mask. -/
def moveAxes (q : Req) (mask : Nat) : List (Nat × Nat) :=
  if tKind q.target = 2 then [(tIndex q.target, 0)]
  else ([0, 1, 2].filter fun sl => bit mask sl).map fun sl => (axisOf (tIndex q.target) sl, sl)

def doorOfTarget (q : Req) : Nat := if tKind q.target = 2 then doorOf (tIndex q.target) else tIndex q.target

/-- The axes that a move command asks for, each with its target and limits. -/
def moveReqs (rel : Bool) (q : Req) : List (Nat × MoveReq) :=
  let m := movePay q.payload
  (moveAxes q m.mask).map fun x =>
    (x.1, ⟨rel, lget m.targets x.2 0, m.v, m.acc, m.jerk, .point, .host, if tKind q.target = 2 then 0 else m.mask⟩)

/-- The axes that a stop command reaches: the axis, or the moving axes of the doorway as a path (R98, R306). -/
def stopAxesOf (s : State) (q : Req) : List Nat :=
  let d := tIndex q.target
  if tKind q.target = 2 then [d]
  else
    let l := (s.axesOf d).filter fun a => moving s a
    if l = [] then s.axesOf d else l

/-- The axis whose entry the reply of a motion command shows (R306). -/
def replyAxis (s : State) (op : DoorOp) (q : Req) : Nat :=
  match op with
  | .moveAbs | .moveRel => (((moveAxes q (movePay q.payload).mask).head?).map Prod.fst).getD 0
  | .stop | .quickStop => ((stopAxesOf s q).head?).getD (if tKind q.target = 2 then tIndex q.target else axisOf (tIndex q.target) 0)
  | _ => tIndex q.target

/-- An axis takes no current before the DRIVE is precharged (R414). -/
def enableCmd (a : Nat) (s : State) : State × Status :=
  if !s.sup.precharged && !(s.axis a).drive.energised then (s, .doorwayStateForbids) else reqEnable a s

/-- ENABLE, DISABLE and PARK of the host (R114). -/
def driveCmd (h : Nat → State → State × Status) (a : Nat) (s : State) : State × Status :=
  match driveGate s a with
  | some st => (s, st)
  | none => h a s

def isMotion (op : DoorOp) : Bool :=
  match op with
  | .moveAbs | .moveRel | .stop | .quickStop | .home | .jog | .park | .enable | .disable => true
  | _ => false

/-- A motion command on the state it finds in its pass. -/
def motionRequest (op : DoorOp) (q : Req) (s : State) : State × Status :=
  let a := tIndex q.target
  match op with
  | .moveAbs => hostMove (moveReqs false q) (movePay q.payload).queue s
  | .moveRel => hostMove (moveReqs true q) (movePay q.payload).queue s
  | .stop => (hostStop (stopAxesOf s q) .own s, .ok)
  | .quickStop => (hostStop (stopAxesOf s q) .quick s, .ok)
  | .home => hostMove [(a, ⟨false, 0, 0, 0, 0, .homing, .homing, 0⟩)] (bit (rd q.payload 0 4) 0) s
  | .jog => hostJog a (rdI q.payload 0 4) q.payload q.session (bit (rd q.payload 4 4) 0) s
  | .park => driveCmd reqPark a s
  | .enable => driveCmd enableCmd a s
  | .disable => driveCmd reqDisable a s
  | _ => (s, .ok)

/-! ## The end of a move -/

/-- A queued target is taken up at rest, checked as if newly received (R93). Axes queued together start together. -/
def takeQueue (a : Nat) (s : State) : State :=
  match (s.axis a).queued, (s.axis a).jogQueued with
  | none, _ => s
  | some _, some j =>
    if freeForMove s a then
      let s := s.modAxis a fun x => { x with queued := none, jogQueued := none, queueStatus := 0x0002 }
      let r := hostJog a (rdI j.2 0 4) j.2 j.1 false s
      r.1.modAxis a fun x => { x with queueStatus := r.2.code }
    else s
  | some m, none =>
    let l := (groupAxes a m).filter fun b => (s.axis b).queued.isSome
    if l.all fun b => freeForMove s b then
      let ms := l.filterMap fun b => (s.axis b).queued.map fun r => (b, r)
      let s := l.foldl (fun s b => s.modAxis b fun x => { x with queued := none, queueStatus := 0x0002 }) s
      let r := hostMove ms false s
      l.foldl (fun s b => s.modAxis b fun x => { x with queueStatus := r.2.code }) r.1
    else s

/-- The identification of an opening that ends (R82 to R85): clean where it started at or below `SEAL_ENTRY` and ends at the
open position with no stop. An opening that ran to its end from above SEAL_ENTRY reports code 3 as one that was interrupted
(DESIGN CHOICE, log 68: R83 has no code for it). Every opening gives the friction of the bins it passed. -/
def learnOpening (a : Nat) (plan : Plan) (s : State) : State :=
  if plan.base == .opening && isLeaf a then
    let d := doorOf a
    let clean := plan.kind == .opening && plan.startPos ≤ (s.dwp d .sealEntry : Rat) && plan.endPos = s.axp a .travel
    (identify a clean s).modAxis a (learnFric true)
  else s

/-- An axis reaches the end of its profile or of its ramp. -/
def moveEnd (a : Nat) (s : State) : State :=
  if moving s a then
    let x := s.axis a
    let homing := x.by_ == .homing
    let s := arriveAxis a (endBins a s)
    let s := if x.by_ == .sequencer then learnOpening a x.plan s else s
    let s := if homing && (s.axis a).elapsed.isNone then homeArrived a s else s
    takeQueue a s
  else s

/-- The rest of a profile passes: the commanded position runs to its end and every point on the way acts. -/
def runToEnd (a : Nat) (s : State) : State :=
  let x := s.axis a
  let rest : Rat := match x.camOf with
    | some _ => 0
    | none => maxR 0 (planDur x.plan.phases - x.elapsed.getD 0)
  let s := s.modAxis a fun x => { x with elapsed := some (x.elapsed.getD 0 + rest) }
  tickPoints a (followPlan a rest s)

/-- The end of a profile (R170, R111, R95, R93). A detection that is complete by then takes precedence over the arrival
(R173). -/
def effectProfileEnd (a : Nat) (s : State) : State :=
  if moving s a && (s.axis a).ramp.isNone then
    let s := actDetections s
    if (s.axis a).ramp.isSome && !planDone (s.axis a) then s else moveEnd a (runToEnd a s)
  else s

/-- The end of a stop ramp (R111, R112). -/
def effectStopRampEnd (a : Nat) (s : State) : State :=
  if moving s a && (s.axis a).ramp.isSome then moveEnd a (runToEnd a s) else s

/-- The end of the enable ramp (R115): a homing goes on, a move of the host that waited for it starts. -/
def effectEnableRampEnd (a : Nat) (s : State) : State :=
  match (s.axis a).drive.ramp with
  | some (.enable, t) =>
    let s := endEnableRamp a (forwardTo (some t) s)
    let s := if (s.axis a).by_ == .homing then homeContinue a s else s
    startAfterEnable a s
  | _ => s

def effectParkRampEnd (a : Nat) (s : State) : State :=
  match (s.axis a).drive.ramp with
  | some (.park, t) => endParkRamp a (forwardTo (some t) s)
  | _ => s

def effectDisableRampEnd (a : Nat) (s : State) : State :=
  match (s.axis a).drive.ramp with
  | some (.disable, t) => endDisableRamp a (forwardTo (some t) s)
  | _ => s

/-- The dwell of an STO sequence ends (R112 step 5). -/
def effectStoDwell (a : Nat) (s : State) : State :=
  match (s.axis a).drive.stoSince with
  | some t => endStoDwell a (forwardTo (some (t + 50000)) s)
  | none => s

/-- The readback of the two enables (R112 step 3): a lane that reads either as on takes the module safe state. -/
def effectStoReadback (a : Nat) (ibexOff chamoisOff : Bool) (s : State) : State :=
  let d := (s.axis a).drive
  if d.state == .sto then
    let s := s.modDrive a fun d => { d with enBad := !(ibexOff && chamoisOff) }
    if ibexOff && chamoisOff then s else takeSafeState 7 s
  else s

end Sys2Proof.Machine
end

