-- ==== Sys2Proof/Machine/Sequencer.lean ====
section
/-! DEFINITION. The sequencer pass (R31, R38 to R50, R60, R64, R463): safety demands, injected reactions, side release, the
doorway's own triggers and timers, requests in their order, power staggering. -/

namespace Sys2Proof.Machine

/-! ## Graze tests that a request or a demand meets (R64, R466, R467) -/

/-- A Graze STO test or step check runs on an axis of a doorway. -/
def grazeOn (s : State) (d : Nat) : Bool :=
  (match s.graze.sto with | some t => doorOf t.1 == d | none => false) ||
    (match s.graze.stepCheck with | some a => doorOf a == d | none => false)

/-- The test ends without a result: the STO in progress completes with its dwell (R64), a step check returns to 0 (R467).
A demand sets ABORT_SEEN. -/
def grazeAbort (seen : Bool) (s : State) : State :=
  let s := match s.graze.sto with
    | some t => s.modDrive t.1 fun d => { d with grazeHold := false }
    | none => s
  let s := match s.graze.stepCheck with
    | some a => requestStop a .own s
    | none => s
  s.modGraze fun g => { g with sto := none, stepVerdict := none, status := if seen then setBit g.status 1 true else g.status }

/-- A stopped step check brings the step back to 0 and ends (R467). -/
def grazeStepBack (s : State) : State :=
  match s.graze.stepCheck with
  | none => s
  | some a =>
    if moving s a then s
    else if (s.axis a).cmd ≤ 0 then
      let s := match s.graze.stepVerdict with
        | some v => grazeResult 6 (doorOf a) (v && 8 ≤ s.graze.stepOut && 8 ≤ s.graze.stepBack) s
        | none => s
      (reqPark a (s.modGraze fun g => { g with stepCheck := none, stepVerdict := none })).1
    else if readyToMove s a then
      let r : PathReq :=
        { moves := [(a, 0)], kind := .point, by_ := .graze, given := [], slave := none, fromQueue := false, byPoint := false }
      match planPath s (doorOf a) r with
      | some p => startPath r p s
      | none => s
    else s

/-! ## Safety demands (R42) -/

def bothActive (s : State) (p : Nat) : Bool := laneActive s .ibex p && laneActive s .chamois p
/-- Proof of R34 in both lanes. -/
def provenBoth (s : State) (d : Nat) : Bool := proven s .ibex d && proven s .chamois d

/-- The pairs of R34 that do not prove, as the DETAIL of k = 10 (R455). -/
def unproven (s : State) (d : Nat) : Nat :=
  [3 * d, 3 * d + 1, 3 * d + 2].foldl (fun n p => if bothActive s p then n else n + 2 ^ p) 0

def axisFault (s : State) (d : Nat) : Bool := (s.axesOf d).any fun a => (s.axis a).drive.state == .fault

/-- Both contacts of a pair have their active level in a lane, filtered or not. -/
def rawActive (s : State) (lane : Lane) (p : Nat) : Bool :=
  let x := s.pair lane p
  let t := pairType s p
  t ≠ 0 && contactActive t false x.c1.raw && contactActive t true x.c2.raw

/-- The proof of a doorway lapses only through the restart of pairs at a commit: each pair without proof is one of those, and
waits for its filter alone (R229 step 3). -/
def restartOnly (s : State) (d : Nat) : Bool :=
  stepIn s d && [3 * d, 3 * d + 1, 3 * d + 2].all fun p =>
    bothActive s p || ((s.door d).proofRestart.contains p && rawActive s .ibex p && rawActive s .chamois p)

/-- The rows of R42 for safety demands, egress and lost proof. -/
def doorSafety (d : Nat) (s : State) : State :=
  let x := s.door d
  let iso := x.leaf == .isolated || x.leaf == .manual
  if x.leaf == .unconfigured then s
  else if !iso && x.leaf != .egress && !bothActive s (3 * d + 2) then enterEgress d (if grazeOn s d then grazeAbort true s else s)
  else if x.leaf != .isolated && x.leaf != .egress && x.leaf != .faultHold
      && (s.saf.lanes.safe || axisFault s d || discrepant s (3 * d) || discrepant s (3 * d + 1)) then
    let s := if grazeOn s d then grazeAbort true s else s
    let stepOut := s.hasStep d && (s.axis (axisOf d 2)).drive.state == .fault
    enterFault d (if stepOut then raiseDoor d 7 2 false s else s)
  else if (x.leaf == .lockedClosed || x.leaf == .released) && !provenBoth s d then
    if restartOnly s d then s
    else enterFault d (raiseDoor d 10 (unproven s d) false s)
  else if x.leaf == .egress && bothActive s (3 * d + 2) then
    if provenBoth s d then enterLocked d s else enterFault d s
  else s.modDoor d fun y => { y with proofRestart := y.proofRestart.filter fun p => !bothActive s p }

/-! ## Injected reactions (R455, R456, R463) -/

/-- A state with a timeout of R46 other than the suspended dwell. -/
def timedState (s : State) (d : Nat) : Bool :=
  let x := s.door d
  x.leaf == .unlocking || x.leaf == .opening || x.leaf == .reopening || x.leaf == .closing || x.leaf == .sealTest ||
    x.leaf == .closeWarning || x.leaf == .homing || x.step == .deploying || x.step == .retracting

def injectDoor (d : Nat) (s : State) : State :=
  let k := (s.door d).injected
  if k = 0 then s
  else
    let s := s.modDoor d fun x => { x with injected := 0 }
    let leaf := (s.door d).leaf
    let s := if k.getLsbD 0 && (leaf == .opening || leaf == .closing) then
        s.modDoor d fun x => { x with detected := some (x.detected.getD 0) } else s
    let s := if k.getLsbD 1 then
        s.modDoor d fun x => { x with sealTest := { x.sealTest with injFail := true } } else s
    let s := if k.getLsbD 2 && leaf == .locking then setLeaf d .closedNotLocked s else s
    let s := if k.getLsbD 7 && moving s (axisOf d 2) && ((s.door d).step == .deploying || (s.door d).step == .retracting) then
        stopPath (axisOf d 2) .obstacle (s.modDoor d fun x => { x with stepDetected := true }) else s
    let s := if k.getLsbD 8 && leaf == .closing then
        let a := ((movingLeaves s d).head?).getD (axisOf d 0)
        let s := recordDetection d a .energy false (inHardRamp s a) s
        let s := raiseDoor d 0 ((s.door d).obstCause.toNat + 256 * (s.door d).obstAxis) true s
        s.modDoor d fun x => { x with energyHit := true, detected := some (x.detected.getD 0) } else s
    let s := if k.getLsbD 10 && ((s.door d).leaf == .lockedClosed || (s.door d).leaf == .released) then enterFault d s else s
    if k.getLsbD 11 && timedState s d then enterFault d s else s

def injectAxis (a : Nat) (s : State) : State :=
  let k := (s.axis a).injected
  if k = 0 then s
  else
    let s := s.modAxis a fun x => { x with injected := 0 }
    let s := if k.getLsbD 0 && evaluated s a .deviation then detect a .deviation true s else s
    let s := if k.getLsbD 1 then clearPosValid a s else s
    if k.getLsbD 3 then injectedStage a s else s

/-! ## Arrival (R170) -/

/-- An axis at rest within `DEV_WIN` of its commanded position. -/
def axisArrived (s : State) (a : Nat) : Bool :=
  !moving s a && (s.axis a).drive.state == .standstill && absR (posExact s a - (s.axis a).cmd) ≤ (s.axp a .devWin : Rat)

/-- Nothing of a leaf move is left to run. -/
def leafDone (s : State) (d : Nat) : Bool :=
  (s.door d).waitSince.isNone && (s.leafAxes d).all fun a => axisArrived s a && (s.axis a).armed.isNone

/-- The leaf path has reached the target of its state. -/
def leafArrived (s : State) (d : Nat) : Bool :=
  leafDone s d &&
    (match (s.door d).leaf with
     | .opening => (s.leafAxes d).all fun a => (s.axp a .travel : Rat) ≤ (s.axis a).cmd
     | .closing => (testedAxes s d).all fun a => (s.axis a).cmd ≤ (s.dwp d .sealEntry : Rat)
     | .reopening => (s.leafAxes d).all fun a =>
         !((s.axis a).plan.kind == .stopRamp && (s.axis a).plan.base == .reopening)
     | _ => false)

def leavesAtRest (s : State) (d : Nat) : Bool :=
  (s.leafAxes d).all fun a => !moving s a && (s.axis a).drive.state == .standstill

/-! ## The doorway's own triggers, state by state (R42 to R46) -/

def timedOut (s : State) (d : Nat) : Bool := due s (s.door d).timeout

/-- The dwell has ended: the warning, or the suspension of DEPOT (R42, R60). -/
def dwellEnded (d : Nat) (s : State) : State :=
  if s.effMode == .depot && (s.door d).released then suspendDwell d (fun x => { x with byDepot := true }) s
  else enterWarning d s

def overrun (d : Nat) (s : State) : State :=
  let x := s.door d
  match x.suspendSince with
  | some t =>
    if x.leaf == .openDwell && x.suspend.any && !x.overrunRaised then
      raiseDoor d 6 ((s.us - t) / 1000000) false (s.modDoor d fun y => { y with overrunRaised := true })
    else s
  | none => s

def overrunDue (s : State) (d : Nat) : Bool :=
  match (s.door d).suspendSince with
  | some t => t + 1000000 * s.dwN d .dwellOverrunS ≤ s.us
  | none => false

def inDwell (d : Nat) (s : State) : State :=
  let x := s.door d
  if s.effMode == .wash then enterWarning d s
  else
    let s := if x.suspend.byDepot && s.effMode != .depot then liftDwell d (fun y => { y with byDepot := false }) 0 s else s
    if due s (s.door d).dwellEnd then dwellEnded d s
    else if overrunDue s d then overrun d s
    else s

def inWarning (d : Nat) (s : State) : State :=
  if due s (s.door d).warnEnd || (s.effMode == .wash && (s.door d).warnEnd.isSome) then prepareClose d s else s

/-- The lock timer (R42): re-drives, then CLOSED_NOT_LOCKED. -/
def lockExpired (d : Nat) (s : State) : State :=
  let x := s.door d
  if x.redrives < s.dwN d .lockRetries then
    (unlockPulse d s).modDoor d fun y =>
      { y with redrives := y.redrives + 1, relock := true, lockEnd := none, ltRedrives := inc32 y.ltRedrives,
               cycle := { y.cycle with redrives := y.cycle.redrives + 1 } }
  else setLeaf d .closedNotLocked (raiseDoor d 2 x.redrives false s)

/-- Closed and locked are proven; only the step may still be out. -/
def lockProven (s : State) (d : Nat) : Bool := bothActive s (3 * d) && bothActive s (3 * d + 1)

def inLocking (d : Nat) (s : State) : State :=
  let x := s.door d
  if provenBoth s d && x.step != .deploying && x.step != .retracting then enterLocked d s
  else if lockProven s d then
    let s := s.modDoor d fun y => { y with lockEnd := none, relock := false }
    if s.hasStep d && x.step == .deployed && !stepIn s d then
      let s := beginWait d (wakeAxis (axisOf d 2) (enterStep d false s))
      s.modDoor d fun y => { y with stepTimeout := some (waitBound s) }
    else s
  else if x.relock && !(s.pin (s.dwN d .unlockPin)).cmd then
    (lockPulse d s).modDoor d fun y => { y with relock := false, lockEnd := some (s.us + 1000 * s.dwN d .lockTimeMs) }
  else if x.lockEnd.isNone && !x.relock then
    s.modDoor d fun y => { y with lockEnd := some (s.us + 1000 * s.dwN d .lockTimeMs) }
  else if due s x.lockEnd then lockExpired d s
  else s

/-- A step or a leaf that can start now begins its wait under Power staggering. -/
def leafTurn (d : Nat) (s : State) : State :=
  let x := s.door d
  let armed := (s.leafAxes d).any fun a => (s.axis a).armed.isSome
  if armed && x.waitSince.isNone && x.step != .deploying && x.step != .retracting && !(movingLeaves s d != []) then
    (beginWait d s).modDoor d fun y => { y with timeout := some (waitBound s) }
  else s

def inOpening (d : Nat) (s : State) : State :=
  if (s.door d).detected.isSome then enterObstacle d true s
  else if leafArrived s d then enterDwell d (s.dwN d .dwellMs) s
  else leafTurn d s

def inClosing (d : Nat) (s : State) : State :=
  let x := s.door d
  if x.detected.isSome || x.energyHit then enterObstacle d false s
  else if leafArrived s d then
    let s := sealStart d (setLeaf d .sealTest (warn d false s))
    s.modDoor d fun y => { y with timeout := some (s.us + 1000000), capture := { y.capture with on := false } }
  else s

def inObstacle (d : Nat) (s : State) : State :=
  let x := s.door d
  if !leavesAtRest s d then s
  else if x.cameFromOpening then
    match x.obstPauseEnd with
    | none => s.modDoor d fun y => { y with obstPauseEnd := some (s.us + 1000 * s.dwN d .obstPauseMs) }
    | some t =>
      if t ≤ s.us then
        let s := writePoints d (armOpen d .opening (setLeaf d .opening s))
        -- while the step moves the leaf path has no bound of its own: its wait begins with the step at rest (R46)
        if x.step == .deploying || x.step == .retracting then s
        else (beginWait d s).modDoor d fun y => { y with timeout := some (waitBound s) }
      else s
  else retryReopen d false (closeSignature d s)

def inReopening (d : Nat) (s : State) : State :=
  let x := s.door d
  if x.reopenAfterStop then (if leavesAtRest s d then enterReopening d true false s else s)
  else if leafArrived s d then
    let s := enterDwell d (s.dwN d .obstPauseMs) s
    if x.latch then suspendDwell d (fun y => { y with byLatch := true }) s else s
  else s

/-- The seal test's verdict is taken; a locked pair that reports active before the lock pulse fails it (R181). -/
def inSealTest (d : Nat) (s : State) : State :=
  let t := (s.door d).sealTest
  if pairActive s (3 * d + 1) && (t.step.isSome || t.cause = 1) then sealVerdict d (sealEnd d 8 s)
  else if t.step.isSome then s
  else sealVerdict d s

def inUnlocking (d : Nat) (s : State) : State :=
  if pairInactive s (3 * d + 1) && !laneActive s .chamois (3 * d + 1) then enterOpening d s else s

/-- The end of MANUAL (R42). -/
def inManual (d : Nat) (s : State) : State :=
  let parked := (s.axesOf d).all fun a =>
    let st := (s.axis a).drive.state
    st == .parked || (st == .sto && (s.axis a).drive.stoDone)
  if s.effMode != .maintenance then
    let s := (s.axesOf d).foldl (fun s a =>
      (requestStop a .own s).modAxis a fun x => { x with jog := none, drive := { x.drive with afterEnable := none } }) s
    let s := setLeaf d .isolated s
    parkDue d (s.modDoor d fun x => { x with parkAt := some s.us })
  else if parked then setLeaf d .isolated s
  else s

/-- One look at a doorway's own triggers. -/
def advance (d : Nat) (s : State) : State :=
  let s := advanceStep d s
  match (s.door d).leaf with
  | .homing => advanceHoming d s
  | .lockedClosed | .released | .isolated => parkDue d s
  | .unlocking => inUnlocking d s
  | .opening => inOpening d s
  | .openDwell => inDwell d s
  | .closeWarning => inWarning d s
  | .closing => inClosing d s
  | .obstacleStop => inObstacle d s
  | .reopening => inReopening d s
  | .sealTest => inSealTest d s
  | .locking => inLocking d s
  | .manual => inManual d s
  | _ => s

/-! ## Side release (R38, R39) -/

/-- The release of this pass acts on the doorway; the result says whether it appeared in it. -/
def takeRelease (d : Nat) (s : State) : State × Bool :=
  let was := (s.door d).released
  let rel := sideRelease s d
  let s := s.modDoor d fun x => { x with released := rel }
  let leaf := (s.door d).leaf
  let wash := s.effMode == .wash
  let s :=
    if leaf == .lockedClosed && rel && !wash then setLeaf d .released s
    else if leaf == .released && (!rel || wash) then enterLocked d (s.modDoor d fun x => { x with heldOpen := false })
    else if leaf == .unlocking && !rel && (testedAxes s d).all fun a => posUm s a ≤ s.dwp d .sealEntry then
      enterLocking d (seqPin (s.dwN d .unlockPin) false s)
    else if leaf == .openDwell && was && !rel then
      liftDwell d (fun _ => Suspend.none) (s.dwN d .dwellMs) s
    else s
  (s, rel && !was)

/-! ## Requests (R31, R40, R42, R60, R64) -/

def inStates (s : State) (d : Nat) (l : List DState) : Bool := l.contains (s.door d).leaf

/-- An open request (R40, R42). -/
def reqOpen (d : Nat) (s : State) : State × Status :=
  let x := s.door d
  if s.effMode == .wash then (s, .modeForbids)
  else if !x.released then (s, .doorwayStateForbids)
  else
    match x.leaf with
    | .released =>
      if x.heldOpen then (s, .okQueued)
      else if grazeOn s d then ((grazeAbort false s).modDoor d fun y => { y with heldOpen := true }, .okQueued)
      else (enterUnlocking d true s, .ok)
    | .openDwell => (restartDwell d s, .ok)
    | .closeWarning => (enterDwell d (s.dwN d .dwellMs) (warn d false s), .ok)
    | .closing =>
      if s.dwp d .reopenOnReq = 1 then
        let s := stopAxes (movingLeaves s d) .own (warn d false s)
        let s := setLeaf d .reopening (disarm d s)
        (s.modDoor d fun y => { y with reopenAfterStop := true, reopenFull := true, capture := Capture.empty }, .ok)
      else (s, .doorwayStateForbids)
    | .closedNotLocked => (enterUnlocking d false s, .ok)
    | _ => (s, .doorwayStateForbids)

/-- CLOSE_REQUEST: answered OK in every state (R40). -/
def reqClose (d : Nat) (s : State) : State × Status :=
  match (s.door d).leaf with
  | .openDwell => (enterWarning d s, .ok)
  | .closedNotLocked => (enterLocking d (s.modDoor d fun x => { x with redrives := 0 }), .ok)
  | .faultHold => (recover d s, .ok)
  | _ => (s, .ok)

/-- HOLD_OPEN, of KCP or of a plan instance (R42, R60, R273). -/
def reqHold (d : Nat) (f : Suspend → Suspend) (s : State) : State × Status :=
  let x := s.door d
  if s.effMode == .wash then (s, .modeForbids)
  else if !x.released then (s, .doorwayStateForbids)
  else
    match x.leaf with
    | .openDwell => (suspendDwell d f s, .ok)
    | .closeWarning => (suspendDwell d f (enterDwell d (s.dwN d .dwellMs) (warn d false s)), .ok)
    | _ => (s, .doorwayStateForbids)

/-- ISOLATE (R42, R36): the isolation is stored, and Chamois keeps its copy. -/
def reqIsolate (d : Nat) (s : State) : State × Status :=
  if inStates s d [.lockedClosed, .released, .closedNotLocked, .faultHold] && bothActive s (3 * d)
      && (s.axesOf d).all (fun a => atRest s a && !moving s a) then
    let s := setLeaf d .isolated (clearPins d (disarm d s))
    let s := (setIsolated d true s).modDoor d fun x => { x with parkAt := some s.us, heldOpen := false }
    (parkDue d s, .ok)
  else (s, .doorwayStateForbids)

/-- DEISOLATE (R42, R64). -/
def reqDeisolate (d : Nat) (s : State) : State × Status :=
  if (s.door d).leaf == .isolated then
    let s := setIsolated d false s
    (if provenBoth s d then enterLocked d s else enterFault d s, .ok)
  else (s, .doorwayStateForbids)

/-- A door request on the state it finds. -/
def doorRequest (src : DoorSrc) (op : DoorOp) (d : Nat) (s : State) : State × Status :=
  match op with
  | .open_ => reqOpen d s
  | .close => reqClose d s
  | .hold =>
    (match src with
     | .plan i => reqHold d (fun x => { x with byPlan := i :: x.byPlan.filter (· ≠ i) }) s
     | _ => reqHold d (fun x => { x with byKcp := true }) s)
  | .holdLift =>
    (match src with
     | .plan i => (liftDwell d (fun x => { x with byPlan := x.byPlan.filter (· ≠ i) }) (s.dwN d .dwellMs) s, .ok)
     | _ => (s, .ok))
  | .isolate => reqIsolate d s
  | .deisolate => reqDeisolate d s
  | _ => (s, .ok)

/-- Conflicts of R31. -/
def conflicts (a b : DoorOp) : Bool :=
  let motion (o : DoorOp) : Bool := match o with | .jog | .moveAbs | .moveRel => true | _ => false
  let iso (o : DoorOp) : Bool := match o with | .isolate | .deisolate => true | _ => false
  let door (o : DoorOp) : Bool := match o with
    | .open_ | .close | .hold | .isolate | .deisolate => true | _ => false
  let pair (p q : DoorOp) : Bool :=
    (match p, q with
     | .open_, .close | .hold, .close | .isolate, .deisolate => true
     | _, _ => false) ||
    (iso p && (match q with | .open_ | .close | .hold => true | _ => false)) || (motion p && door q)
  pair a b || pair b a

/-- What a pass has done so far: the state, what it accepted for which doorway, and the outcomes. -/
structure Pass where
  s : State
  taken : List (Nat × DoorOp × Status)
  done : List (DoorReq × Status)

/-- A request on the state it finds. -/
def anyRequest (r : DoorReq) (s : State) : State × Status :=
  match r.src with
  | .kcp _ q => if isMotion r.op then motionRequest r.op q s else doorRequest r.src r.op r.d s
  | _ => doorRequest r.src r.op r.d s

/-- Take one request (R31). Door requests of one kind are merged; motion commands name axes and targets of their own and are
each taken (DEDUCED, log 13). -/
def takeRequest (p : Pass) (r : DoorReq) : Pass :=
  match p.taken.find? fun t => t.1 = r.d && t.2.1 = r.op && r.op != .holdLift && !isMotion r.op with
  | some t => { p with done := p.done ++ [(r, t.2.2)] }
  | none =>
    if p.taken.any fun t => t.1 = r.d && conflicts t.2.1 r.op then
      { p with done := p.done ++ [(r, .doorwayStateForbids)] }
    else
      let q := anyRequest r p.s
      { s := q.1, taken := if q.2.good then (r.d, r.op, q.2) :: p.taken else p.taken, done := p.done ++ [(r, q.2)] }

/-- The outcome of a plan request shows on its instance (R272, R273). -/
def noteInst (i : Nat) (st : Status) (s : State) : State :=
  s.modLogic fun g =>
    match g.active with
    | some p =>
      { g with data := (p.insts.zip g.data).map fun x =>
                 if x.1.id = i then { x.2 with req := st.code, reqDone := true } else x.2 }
    | none => g

/-! ## The pass -/

/-- A doorway that has come to rest has its points 0 to 7 written anew (R51). -/
def restPoints (d : Nat) (s : State) : State :=
  if (s.door d).moved && !((s.axesOf d).any fun a => moving s a) then
    writePoints d (s.modDoor d fun x => { x with moved := false })
  else s

/-- The part of a pass before the requests, for one doorway. -/
def passDoor (p : Pass) (d : Nat) : Pass :=
  let s := p.s
  if !s.doorOn d then p
  else
    let s := doorSafety d s
    -- the first part of R42 goes before every other row
    let s := if timedOut s d then timeoutLeaf d s else s
    let s := (s.axesOf d).foldl (fun s a => injectAxis a s) (injectDoor d s)
    let m := s.herd.mode
    let s := if m == .wash || m == .test then
        s.modDoor d fun x => { x with cycle := { x.cycle with modeBad := true } } else s
    let s := if s.herd.mode != .test && s.herd.mode != .maintenance then
        s.modDoor d fun x => { x with sealTest := { x.sealTest with injFail := false } } else s
    let r := takeRelease d s
    -- a doorway that lost its release in UNLOCKING drives its lock first and looks at it in the next pass
    let relocked := (s.door d).leaf == .unlocking && (r.1.door d).leaf == .locking
    let s := if relocked then r.1 else advance d r.1
    let s := if (s.door d).heldOpen && (s.door d).leaf == .released && !grazeOn s d
        then enterUnlocking d true s else s
    let s := restPoints d s
    if r.2 && s.dwp d .autoOpen = 1 then takeRequest { p with s := s } ⟨.auto, .open_, d⟩ else { p with s := s }

def isPlan (r : DoorReq) : Bool := match r.src with | .plan _ => true | _ => false

/-- The sequencers run while Ibex is up, the start is complete and the supply is on. -/
def sequencerRuns (s : State) : Bool := s.saf.lanes.ibexUp && s.boot.step = 0 && s.boot.power == .on

/-- One pass: every doorway, then the plan's requests, then those of KCP in arrival order, then staggering (R31, R57). -/
def sequencerPass (s : State) : State × List (DoorReq × Status) :=
  if !sequencerRuns s then (s, [])
  else
    let alive (r : DoorReq) : Bool := match r.src with
      | .kcp _ q => q.session = 0 || (sessionOf s q.session).isSome
      | _ => true
    let reqs := s.reqs.filter alive
    let dead := (s.reqs.filter fun r => !alive r).map fun r => (r, Status.authRequired)
    let s := grazeStepBack (actDetections { s with reqs := [] })
    let p : Pass := (List.range 8).foldl passDoor ⟨s, [], []⟩
    let p := (reqs.filter isPlan).foldl takeRequest p
    let p := (reqs.filter fun r => !isPlan r).foldl takeRequest p
    let s := p.done.foldl (fun s r => match r.1.src with | .plan i => noteInst i r.2 s | _ => s) p.s
    (stagger s, p.done ++ dead)

/-! ## Expiries as steps of their own: the clock has reached the deadline -/

def effectDwellEnd (d : Nat) (s : State) : State :=
  let x := s.door d
  if x.leaf == .openDwell && x.dwellEnd.isSome then dwellEnded d (forwardTo x.dwellEnd s) else s

def effectWarnEnd (d : Nat) (s : State) : State :=
  let x := s.door d
  if x.leaf == .closeWarning && x.warnEnd.isSome then prepareClose d (forwardTo x.warnEnd s) else s

/-- A timeout of R46: of the leaf path, or of the step path where only that one runs. -/
def effectSeqTimeout (d : Nat) (s : State) : State :=
  let x := s.door d
  match x.timeout, x.stepTimeout with
  | some t, none => timeoutLeaf d (forwardTo (some t) s)
  | some t, some u => if t ≤ u then timeoutLeaf d (forwardTo (some t) s) else advanceStep d (forwardTo (some u) s)
  | none, some u => advanceStep d (forwardTo (some u) s)
  | none, none => s

def effectLockTime (d : Nat) (s : State) : State :=
  let x := s.door d
  if x.leaf == .locking && x.lockEnd.isSome && !lockProven s d then lockExpired d (forwardTo x.lockEnd s) else s

def effectDwellOverrun (d : Nat) (s : State) : State :=
  match (s.door d).suspendSince with
  | some t => overrun d (forwardTo (some (t + 1000000 * s.dwN d .dwellOverrunS)) s)
  | none => s

def effectObstPause (d : Nat) (s : State) : State :=
  let x := s.door d
  if x.leaf == .obstacleStop && x.obstPauseEnd.isSome then inObstacle d (forwardTo x.obstPauseEnd s) else s

def effectParkDelay (d : Nat) (s : State) : State :=
  let x := s.door d
  if (x.leaf == .lockedClosed || x.leaf == .released || x.leaf == .isolated) && x.parkAt.isSome then parkDue d (forwardTo x.parkAt s) else s

end Sys2Proof.Machine
end

