-- ==== Sys2Proof/Machine/Sessions.lean ====
section
/-! DEFINITION. The end of a KCP session (R296, R307, R328, R310). -/

namespace Sys2Proof.Machine

/-- What a session leaves behind is cleared: its pins, its jogs, its stream, its transfers and, for a SAFETY session, the
safety shadow with its verified image. -/
def endSession (x : Session) (s : State) : State :=
  let s := each 112 (fun s n =>
    if (s.pin n).writer = x.id && ownedBy s n 3 then safePin n (s.modPin n fun p => { p with writer := 0 }) else s) s
  let s := each 24 (fun s a =>
    let s := match (s.axis a).jog with
      | some j => if j.1 = x.id then endJog a s else s
      | none => s
    match (s.axis a).jogQueued with
    | some j => if j.1 = x.id then discardQueue a s else s
    | none => s) s
  let s := s.modKcp fun k =>
    { k with sessions := k.sessions.filter (·.id ≠ x.id), transfers := k.transfers.filter (·.session ≠ x.id),
             stream := match k.stream with
               | some t => if t.session = x.id then none else some t
               | none => none }
  let s := s.modBoot fun b =>
    match b.fwSize with
    | some f =>
      if f.2 = x.id then { b with fwImage := [], fwSize := none, fwVerifying := false } else b
    | none => b
  if x.role = 3 then { s with safShadow := [], saf := { s.saf with verified := none, shadowOwner := none, shadowC := [] },
                              boot := { s.boot with revertSet := none } } else s

/-- Every session that meets a condition ends. -/
def endSessions (f : Session → Bool) (s : State) : State :=
  (s.kcp.sessions.filter f).foldl (fun s x => endSession x s) s

/-- The isolation key pair as both lanes see it (R227, R292, R298): a halted lane sees nothing. -/
def keyTurned (s : State) : Bool := s.saf.lanes.ibexUp && s.saf.lanes.chamoisUp && bothActive s 28

/-- The SAFETY session ends with the key (R292). -/
def endSafety (s : State) : State := if keyTurned s then s else endSessions (fun x => x.role = 3) s

def effectKeepaliveExpiry (id : Nat) (s : State) : State :=
  match s.kcp.sessions.find? fun x => x.id = id with
  | some x => endSession x (forwardTo (some x.aliveUntil) s)
  | none => s

/-- The lockout of an address ends (R297). -/
def effectLockoutEnd (src : Nat) (s : State) : State :=
  match get s.kcp.lockouts src with
  | some t => (forwardTo (some t) s).modKcp fun k => { k with lockouts := drop_ k.lockouts src }
  | none => s

end Sys2Proof.Machine
end

