-- ==== Sys2Proof/Machine/Lanes.lean ====
section
/-! DEFINITION. The two lanes: contacts and pairs (R189 to R193), the reset pair (R211 to R213), the slot of a lane with its
demands and switches (R191, R197 to R208), switch tests (R202 to R205), the closing current monitor (R209), the exchange and
the comparison of the lanes (R16, R24 to R26). -/

namespace Sys2Proof.Machine

def laneUp (s : State) : Lane → Bool | .ibex => s.saf.lanes.ibexUp | .chamois => s.saf.lanes.chamoisUp
def otherLane : Lane → Lane | .ibex => .chamois | .chamois => .ibex

/-- A raise by a lane: Ibex raises the source; while Ibex is down Chamois writes the record. -/
def laneRaise (e detail : Nat) (s : State) : State :=
  raiseBy e (if s.saf.lanes.ibexUp then 0 else 1) detail false s

/-- The start has reached step 7 (R419). -/
def started (s : State) : Bool := s.boot.step = 0 && s.boot.power == .on
/-- The safe output demands may be formed: the start is complete and the module is not in STANDBY (R446). -/
def outsOn (s : State) : Bool := started s && s.sup.powerMode = 0

/-! ## Contacts (R190) -/

def PairLane.contact (p : PairLane) (second : Bool) : Contact := if second then p.c2 else p.c1
def PairLane.setContact (p : PairLane) (second : Bool) (c : Contact) : PairLane :=
  if second then { p with c2 := c } else { p with c1 := c }

def effectContactChange (p : Nat) (second : Bool) (lane : Lane) (closed : Bool) (s : State) : State :=
  s.modPair lane p fun x =>
    let c := x.contact second
    if c.raw = closed then x else x.setContact second { c with raw := closed, since := s.us }

/-- The feed of a contact: connector c < 8 has the pairs 3c to 3c + 2, connector 8 the pairs 24 to 31, and CF-1 feeds
contact 1, CF-2 contact 2 (R443). -/
def feedOf (p : Nat) (second : Bool) : Nat := 2 * (if p < 24 then p / 3 else 8) + b2n second
def feedOff (s : State) (p : Nat) (second : Bool) : Bool := s.sup.cfOff.getLsbD (feedOf p second)

/-- The raw level has held for the filter time; a closed one counts only while its feed is on. -/
def effectFilterExpiry (p : Nat) (second : Bool) (lane : Lane) (s : State) : State :=
  let c := (s.pair lane p).contact second
  if c.raw = c.filt || (c.raw && feedOff s p second) then s
  else
    let s := forwardTo (some (c.since + 1000 * s.safN (.inFiltMs p))) s
    s.modPair lane p fun x => x.setContact second { x.contact second with filt := c.raw }

/-! ## Pairs (R191) -/

/-- The event of a discrepancy (R191), raised by the lane that latches first. -/
def discrepancyEvent (p : Nat) (s : State) : State :=
  if p < 24 then raiseDoor (p / 3) (3 + p % 3) p false s else laneRaise 197 p s

def latchDiscrepancy (p : Nat) (lane : Lane) (s : State) : State :=
  if (s.pair lane p).latched then s
  else
    let first := !(s.pair (otherLane lane) p).latched
    let s := s.modPair lane p fun x => { x with latched := true, result := .discrepancy }
    if first then discrepancyEvent p s else s

/-- One pair in a slot; a newly latched discrepancy raises its event. -/
def slotPair (lane : Lane) (s : State) (p : Nat) : State :=
  let old := s.pair lane p
  let new := evalPair (pairType s p) (s.safN (.disc p)) s.us old
  let first := new.latched && !old.latched && !(s.pair (otherLane lane) p).latched
  let s := s.modPair lane p fun _ => new
  if first then discrepancyEvent p s else s

/-! ## The reset pair (R211 to R214) -/

def resetOf (s : State) (lane : Lane) : ResetLane := match lane with | .ibex => s.saf.resetI | .chamois => s.saf.resetC
def setReset (lane : Lane) (r : ResetLane) (s : State) : State :=
  s.modSaf fun x => match lane with | .ibex => { x with resetI := r } | .chamois => { x with resetC := r }

def raiseStuck (s : State) : State :=
  if s.saf.stuck then s else laneRaise 198 0 (s.modSaf fun x => { x with stuck := true })

/-- An edge that both lanes accepted (R213): it ends the module safe state where R214 allows, else recovers doorways and
clears overloads. -/
def resetEdge (s : State) : State :=
  if s.saf.lanes.safe then (if safeReady s then leaveSafeState s else s)
  else
    let s := each 4 (fun s o =>
      if (s.out o).overLock then s else s.modOut o fun x => { x with status := setBit x.status 8 false }) s
    if sequencerRuns s then
      each 8 (fun s d =>
        match (s.door d).leaf with
        | .faultHold => recover d s
        | .closedNotLocked => enterLocking d (s.modDoor d fun x => { x with redrives := 0 })
        | _ => s) s
    else s

/-- The reset pair in a slot of a lane. Its first evaluation is in the first slot in which the filter time has passed since
the feeds returned (R415). -/
def slotReset (lane : Lane) (s : State) : State :=
  let p := s.pair lane 27
  let t := s.safN (.pairType 27)
  let act := t ≠ 0 && contactActive t false p.c1.filt && contactActive t true p.c2.filt && !p.latched
  let r := resetOf s lane
  if !r.evaluated && s.us < r.feedAt + 1000 * s.safN (.inFiltMs 27) then s
  else if act then
    let s := if r.evaluated then s else raiseStuck s
    let since := r.activeSince.getD s.us
    let s := setReset lane { r with evaluated := true, activeSince := some since } s
    let s := s.modPair lane 27 fun x => { x with result := .active, timer := none }
    if since + 3000000 < s.us then raiseStuck s else s
  else
    let s := slotPair lane s 27
    let s := s.modPair lane 27 fun x =>
      { x with result := if x.latched then .discrepancy else if t = 0 then .none else .inactive, seenInactive := true }
    let accepted := match r.activeSince with
      | some t => !s.saf.stuck && !(s.pair lane 27).latched && t + 100000 ≤ s.us && s.us ≤ t + 3000000
      | none => false
    let s := s.modSaf fun x => { x with stuck := false }
    if accepted then
      let o := resetOf s (otherLane lane)
      match o.edgeAt with
      | some u =>
        let s := setReset (otherLane lane) { o with edgeAt := none } (setReset lane ⟨none, none, true, r.feedAt⟩ s)
        if s.us ≤ u + 20000 then resetEdge s else setReset lane ⟨none, some s.us, true, r.feedAt⟩ s
      | none => setReset lane ⟨none, some s.us, true, r.feedAt⟩ s
    else
      let keep : Bool := match r.edgeAt with | some u => decide (s.us ≤ u + 20000) | none => false
      setReset lane ⟨none, if keep then r.edgeAt else none, true, r.feedAt⟩ s

def effectResetStuck (lane : Lane) (s : State) : State :=
  match (resetOf s lane).activeSince with
  | some t => raiseStuck (forwardTo (some (t + 3000000)) s)
  | none => s

/-! ## Safe stops (R207, R208) -/

/-- The limit of R208 at a time after the request. -/
def stopLimit (s : State) (a : Nat) (t0 : Nat) (v0 : Rat) : Rat :=
  let sl := slotOf a
  let tol : Rat := (s.safp (.ssVTol sl) : Rat)
  let d : Rat := (s.safp (.ssDecel sl) : Rat) * (s.safp .ssMonPct : Rat) / 100
  let delay := 1000 * s.safN .ssDelayMs
  let t := s.us - t0
  if t ≤ delay then v0 + tol else maxR (v0 - d * ((t - delay : Nat) : Rat) / mega) 0 + tol

/-- A failed safe stop: the event, and STO at once for every axis of the doorway. Their monitoring ends with it. -/
def stopFailed (a : Nat) (lane : Lane) (s : State) : State :=
  let s := stoDoor (doorOf a) lane (laneRaise 202 a s)
  (s.axesOf (doorOf a)).foldl (fun s b => s.modAxis b fun x => { x with safeStop := none }) s

/-- Not at rest for the monitor: the profile is unfinished, or the observer sees more than one full step a second. -/
def stillMoving (s : State) (a : Nat) : Bool := moving s a || decide (256 * umStep s a < absR (s.axis a).fb.vEst)

/-- The monitor of a lane, against its own speed at the request. -/
def slotStop (lane : Lane) (s : State) (a : Nat) : State :=
  match (s.axis a).safeStop with
  | some (t0, vI, vC) =>
    let v0 := match lane with | .ibex => vI | .chamois => vC
    if !stillMoving s a then s.modAxis a fun x => { x with safeStop := none }
    else if stopLimit s a t0 v0 < laneSpeed s lane a || t0 + 1000 * s.safN .ssTmaxMs < s.us then stopFailed a lane s
    else s
  | none => s

def effectSafeStopTimeout (a : Nat) (s : State) : State :=
  match (s.axis a).safeStop with
  | some (t0, _) =>
    let s := forwardTo (some (t0 + 1000 * s.safN .ssTmaxMs)) s
    if stillMoving s a then stopFailed a .ibex s else s.modAxis a fun x => { x with safeStop := none }
  | none => s

/-! ## STO demands (R112) -/

def laneDemand (s : State) (lane : Lane) (a : Nat) : Bool :=
  match lane with | .ibex => (s.axis a).drive.demandIbex | .chamois => (s.axis a).drive.demandChamois

/-- A lane sets and withdraws its demands, and drops its enable of an axis in STO (R112 step 1). -/
def slotDemand (lane : Lane) (s : State) (a : Nat) : State :=
  if !s.axOn a then s
  else
    let want := stoReason s lane a || !started s
    let s :=
      if want && !laneDemand s lane a then safeStopAxis a lane s
      else if !want && laneDemand s lane a then withdrawSto a lane s
      else s
    if (s.axis a).drive.state == .sto then
      s.modDrive a fun d => match lane with
        | .ibex => { d with enIbex := false }
        | .chamois => { d with enChamois := false }
    else s

/-! ## Safe outputs (R197 to R201) -/

def dlSince (s : State) : Lane → Option Nat | .ibex => s.saf.dlSinceI | .chamois => s.saf.dlSinceC
def spSince (s : State) : Lane → Option Nat | .ibex => s.saf.spSinceI | .chamois => s.saf.spSinceC
def setDl (lane : Lane) (t : Option Nat) (r : Bool) (s : State) : State :=
  s.modSaf fun x => match lane with
    | .ibex => { x with dlSinceI := t, dlReadyI := r }
    | .chamois => { x with dlSinceC := t, dlReadyC := r }
def setSp (lane : Lane) (t : Option Nat) (r : Bool) (s : State) : State :=
  s.modSaf fun x => match lane with
    | .ibex => { x with spSinceI := t, spReadyI := r }
    | .chamois => { x with spSinceC := t, spReadyC := r }

/-- The on-delays of a lane (R198 condition 3, R200). -/
def slotDelays (lane : Lane) (s : State) : State :=
  let delay := 1000 * s.safN .dlOnDelayMs
  let run := outsOn s && !s.saf.lanes.safe && !demandsHeld s
  let s :=
    if run && loopCond s lane then
      let t := (dlSince s lane).getD s.us
      setDl lane (some t) (t + delay ≤ s.us) s
    else setDl lane none false s
  if run && allProven s lane then
    let t := (spSince s lane).getD s.us
    setSp lane (some t) (t + delay ≤ s.us) s
  else setSp lane none false s

/-- The on-delay of a lane has run (R198). -/
def effectOnDelay (lane : Lane) (s : State) : State :=
  let delay := 1000 * s.safN .dlOnDelayMs
  match dlSince s lane, s.saf.dlReady lane with
  | some t, false => setDl lane (some t) true (forwardTo (some (t + delay)) s)
  | _, _ =>
    match spSince s lane, s.saf.spReady lane with
    | some t, false => setSp lane (some t) true (forwardTo (some (t + delay)) s)
    | _, _ => s

/-- A pulse in progress on a pair is discarded by a change of its demand (R204): an on-pulse ends at once under an OFF demand,
and the test is repeated at least 1 s later. -/
def discardPulse (o : Nat) (demand : Bool) (s : State) : State :=
  match s.saf.pulse with
  | some (p, high, _, on) =>
    if p = o then
      (s.modSaf fun x => { x with pulse := none, pulseAt := s.us }).modOut o fun x =>
        let drop := !on && !demand
        { x with status := setBit x.status 3 true, hsCmd := x.hsCmd && !(drop && high), lsCmd := x.lsCmd && !(drop && !high) }
    else s
  | none => s

/-- A switch of a pair is in a test pulse now: for `SO_PULSE_US` at most (R203). -/
def underTest (s : State) (o : Nat) (high : Bool) : Bool :=
  match s.saf.pulse with
  | some (p, h, t, _) => p = o && h = high && s.us ≤ t + s.safN .soPulseUs
  | none => false

/-- A lane computes the demand of a pair and drives its own switch to match: Ibex the high side, Chamois the low side. -/
def slotOut (lane : Lane) (m : SlotIn) (s : State) (o : Nat) : State :=
  let d := outsOn s && demandOf s lane o
  let x := s.out o
  let was := match lane with | .ibex => x.demandIbex | .chamois => x.demandChamois
  let s := if d = was then s else discardPulse o d (s.modOut o fun y => { y with changedAt := s.us })
  let high := lane == .ibex
  let hold := underTest s o high
  s.modOut o fun y =>
    let hs := lget m.hsSense o false
    let ls := lget m.lsSense o false
    let cur := lget m.soCurrent o 0
    let y := { y with hsSense := hs, lsSense := ls, current := cur, status := setBit y.status 9 (hs && ls && cur < 5) }
    match lane with
    | .ibex => { y with demandIbex := d, hsCmd := if hold then y.hsCmd else d }
    | .chamois => { y with demandChamois := d, lsCmd := if hold then y.lsCmd else d }

/-- Lock a pair off on a latched bit, with its event (R201, R205). -/
def lockOut (o bitNo : Nat) (s : State) : State :=
  if (s.out o).status.getLsbD bitNo then s
  else
    let s := discardPulse o false s
    let s := s.modOut o fun x => { x with status := setBit x.status bitNo true, hsCmd := false, lsCmd := false,
                                          demandIbex := false, demandChamois := false, changedAt := s.us }
    laneRaise 199 (o + 256 * bitNo) s

/-- Bit of a switch that failed to block or to conduct. -/
def failBit (high off : Bool) : Nat := if off then (if high then 6 else 7) else if high then 4 else 5

/-- A switch is seen in the wrong state outside a test pulse (R201). -/
def effectSwitchFail (o : Nat) (high conducting : Bool) (s : State) : State :=
  let cmd := if high then (s.out o).hsCmd else (s.out o).lsCmd
  if underTest s o high || cmd = conducting then s else lockOut o (failBit high conducting) s

def effectSoOverload (o mA : Nat) (s : State) : State :=
  let s := s.modOut o fun x => { x with current := mA }
  if 2500 < mA then
    let s := s.modOut o fun x =>
      let l := s.us :: x.overTimes.filter fun t => s.us ≤ t + 600000000
      { x with overTimes := l, overLock := x.overLock || decide (3 ≤ l.length) }
    lockOut o 8 s
  else s

def effectSoOpenLoad (o mA : Nat) (s : State) : State :=
  s.modOut o fun x => { x with current := mA, status := setBit x.status 9 (x.hsCmd && x.lsCmd && mA < 5) }

/-! ## Switch tests (R202 to R205) -/

/-- The rotation of R202: pair and side of each place. -/
def testPlaces : List (Nat × Bool) :=
  [(0, true), (1, false), (2, true), (3, false), (0, false), (1, true), (2, false), (3, true)]

/-- The switch is held open because the other one of its pair has failed to block (R201): it takes no pulse. -/
def heldOpen (x : SafeOut) (high : Bool) : Bool := x.status.getLsbD (if high then 7 else 6)

/-- The rotation waits: its eight tests are done and the test period has not passed since it began (R202). -/
def rotationDone (s : State) : Bool :=
  s.saf.testPlace = 0 &&
    (match s.saf.testFrom with | some t => decide (s.us < t + 1000000 * s.safN .soTestPeriodS) | none => false)

/-- A test pulse begins, or is deferred by 1 s (R202). -/
def effectTestPulse (s : State) : State :=
  if !started s || s.saf.lanes.safe || s.saf.pulse.isSome || s.us < s.saf.pulseAt + 1000000 || rotationDone s then s
  else
    let t := lget testPlaces s.saf.testPlace (0, true)
    let x := s.out t.1
    if s.us < x.changedAt + 100000 then s.modSaf fun y => { y with pulseAt := s.us }
    else
      let s := if s.saf.testPlace = 0 then s.modSaf fun y => { y with testFrom := some s.us } else s
      if heldOpen x t.2 then s.modSaf fun y => { y with testPlace := (y.testPlace + 1) % 8, pulseAt := s.us }
      else
        let on := x.hsCmd && x.lsCmd
        let s := s.modSaf fun y => { y with pulse := some (t.1, t.2, s.us, on), pulseAt := s.us }
        s.modOut t.1 fun y => if t.2 then { y with hsCmd := !on } else { y with lsCmd := !on }

/-- The pulse ends with the senses of both lanes (R203): at the first sample that shows the pass condition, but not before
20 µs, or at `SO_PULSE_US`. A fail locks the pair off. -/
def effectTestPulseEnd (during after : Bool) (s : State) : State :=
  match s.saf.pulse with
  | none => s
  | some (o, high, from_, on) =>
    let s := forwardTo (some (from_ + (if during != on then 20 else s.safN .soPulseUs))) s
    let s := s.modSaf fun x => { x with pulse := none, testPlace := (x.testPlace + 1) % 8 }
    let s := s.modOut o fun x =>
      let x := { x with status := setBit x.status 3 false }
      if high then { x with hsCmd := on } else { x with lsCmd := on }
    -- the switch tests are item 4 of Graze (R465)
    let s := grazeResult 4 (2 * o + b2n (!high)) (during != on && after == on) s
    if during = on then lockOut o (failBit high on) s
    else if after ≠ on then lockOut o (failBit high !on) s
    else s

/-- The tests that a clear of the switch faults waits for (R205): both must pass, one second apart. -/
def effectClearTest (o : Nat) (passed : Bool) (s : State) : State :=
  match (s.out o).clearMask with
  | none => s
  | some m =>
    let s := if (s.out o).clearPassed = 0 then s else forwardTo (some ((s.out o).clearAt + 1000000)) s
    if !passed then s.modOut o fun x => { x with clearMask := none, clearPassed := 0 }
    else if (s.out o).clearPassed = 0 then s.modOut o fun x => { x with clearPassed := 1, clearAt := s.us }
    else
      s.modOut o fun x =>
        { x with status := x.status &&& ~~~m, clearMask := none, clearPassed := 0,
                 overTimes := if m.getLsbD 8 then [] else x.overTimes, overLock := x.overLock && !m.getLsbD 8 }

/-- `SAF.SO_STATUS[o]` as read (R205). -/
def soStatus (s : State) (o : Nat) : Nat :=
  let x := s.out o
  (x.status &&& 0x03F8#16).toNat + 32768 * b2n x.locked + 4 * b2n x.lsSense + 2 * b2n x.hsSense
    + b2n (x.demandIbex && x.demandChamois)

/-! ## The closing current monitor (R209) -/

/-- Axes whose closing force Chamois limits. -/
def monitored (s : State) (a : Nat) : Bool :=
  s.axOn a && (slotOf a = 0 || (slotOf a = 1 && s.dtype (doorOf a) ≠ tPlug))

/-- The limit applies now. -/
def limitApplies (s : State) (a : Nat) : Bool :=
  let x := s.axis a
  x.drive.energised && !x.det.openSide && x.drive.state != .homing &&
    (match x.det.roseAt with | some t => t + 20000 < s.us | none => true)

/-- The trip level in mA, from Chamois's own copies of FCAP and KF (R209): the values of the active configuration. -/
def tripLevel (s : State) (a : Nat) : Nat :=
  (s.val (.dw (doorOf a) .fcap) * 32 / s.val (.ax a .kf)).toNat * 1000 / 32 + s.safN .iTolMa

/-- Chamois classes an axis and counts its current slots. -/
def slotCurrent (m : SlotIn) (s : State) (a : Nat) : State :=
  if !monitored s a then s
  else
    let x := s.axis a
    let d := x.det
    let p := ustepOf s a
    let st := x.drive.state
    let up := d.slotPos < p
    let down := p < d.slotPos
    let rose := if d.slotState == .standstill && st != .standstill then up else d.rose || up
    let fell := if d.slotState == .standstill && st != .standstill then down else d.fell || down
    let ended := st == .standstill && (d.slotState == .moving || d.slotState == .stopping || d.slotState == .homing)
    let lowest := if down then (if d.openSide then p else min d.lowest p) else d.lowest
    let open_ := if down then false else d.openSide || 512 < p - lowest || (ended && rose && !fell)
    let s := s.modDet a fun d =>
      { d with slotPos := p, slotState := st, rose := rose, fell := fell, lowest := lowest, openSide := open_,
               roseAt := if up then some s.us else d.roseAt }
    let high := limitApplies s a && tripLevel s a < lget m.axisCurrent a 0
    s.modDet a fun d => { d with iSlots := if high then min 5 (d.iSlots + 1) else 0 }

/-- Five slots above the limit: the module safe state, cause CURRENT. -/
def effectCurrentTrip (a : Nat) (s : State) : State :=
  if monitored s a && limitApplies s a && 5 ≤ (s.axis a).det.iSlots then takeSafeState 6 s else s

/-! ## The slot of a lane (R191) -/

/-- The lane looks for the exchange: the other lane is down, or a slot has passed without one (R27, R214). -/
def noteSlot (lane : Lane) (s : State) : State :=
  let n := match lane with | .ibex => s.saf.lanes.slotsI | .chamois => s.saf.lanes.slotsC
  let missed := !laneUp s (otherLane lane) || (s.saf.lanes.exchangedAt.isSome && 1 ≤ n)
  let s := s.modLanes fun l => match lane with
    | .ibex => { l with slotsI := min 2 (n + 1) }
    | .chamois => { l with slotsC := min 2 (n + 1) }
  if missed then (takeSafeState 3 s).modLanes fun l => { l with goodRun := 0 } else s

def laneSlot (lane : Lane) (m : SlotIn) (s : State) : State :=
  if !laneUp s lane || s.boot.power != .on then s
  else
    let s := noteSlot lane s
    let s := (List.range 32).foldl (fun s p => if p = 27 then s else slotPair lane s p) s
    let s := slotReset lane s
    let s := (List.range 24).foldl (slotDemand lane) s
    let s := (List.range 24).foldl (slotStop lane) s
    let s := slotDelays lane s
    let s := (List.range 4).foldl (slotOut lane m) s
    let s := if lane == .chamois then (List.range 24).foldl (slotCurrent m) s else s
    let s := if lane == .chamois then
        each 24 (fun s a => s.modFb a fun b => { b with dupPrev := b.dup }) s else s
    endSafety s

/-! ## Comparison of the lanes (R24 to R26) -/

/-- A mask over the configured doorways. -/
def doorMask (s : State) (f : Nat → Bool) : Nat := ofBits ((List.range 8).map fun d => s.doorOn d && f d)

/-- The payload that a lane forms (R221). -/
def kscPayload (s : State) (lane : Lane) : Bytes :=
  let on (o : Nat) : Bool := (s.out o).hsSense && (s.out o).lsSense
  let dem := match lane with | .ibex => (s.out 0).demandIbex | .chamois => (s.out 0).demandChamois
  let lockedOff := (List.range 4).any fun o => (s.out o).locked
  le 1 (ofBits [dem, on 0, on 1, on 2, on 3]) ++ le 1 (doorMask s fun d => proven s lane d)
    ++ le 1 (doorMask s fun d => laneIsolated s lane d) ++ le 1 (doorMask s fun d => doorRelease s lane d)
    ++ le 1 (doorMask s fun d => !laneActive s lane (3 * d + 2))
    ++ le 1 (doorMask s fun d => (s.door d).leaf == .faultHold)
    ++ le 1 (ofBits [s.saf.lanes.safe, (kscOf s lane).state != .run, lockedOff]) ++ [0]
    ++ le 4 (laneCrc s lane) ++ le 4 (kscOf s lane).lastSeq ++ zeros 16

/-- The torque states that the lanes have announced for an axis under an STO path test (R466): Ibex's and Chamois's enable in
each of its steps. -/
def announced (step : Nat) : Bool × Bool :=
  match step with
  | 2 | 3 => (true, false)
  | 5 | 6 => (false, true)
  | _ => (true, true)

/-- The torque states of an axis differ: between the lanes, or from what the STO path test has announced (R24, R466). -/
def torqueDiffers (s : State) (a : Nat) : Bool :=
  let d := (s.axis a).drive
  match s.graze.sto with
  | some (b, step, _) => if a = b then (d.enIbex, d.enChamois) != announced step else d.enIbex != d.enChamois
  | none => d.enIbex != d.enChamois

/-- The numbered quantities on which the lanes differ now: positions 0 to 23, speeds 24 to 47, torque states 48 to 71,
pair results 72 to 103, proofs 104 to 111, isolations 112 to 119, side releases 120 to 127, demands of DL-A and RL 128 and
129, configuration CRC 130, demands of DL-B and SP 131 and 132 (R197), MOD.MODE 133, the KSC payload 134 (R221). `speeds` are
Chamois's. -/
def disagreements (s : State) (speeds : Nat → Rat) : List Nat :=
  let ax := (List.range 24).filter fun a => s.axOn a
  let pos := ax.filter fun a => 1 < absI ((s.axis a).fb.frozen - (s.axis a).fb.dupFrozen)
  let spd := ax.filter fun a =>
    (s.val (.ax a .vmax) : Rat) / 50 < absR (laneVel s .ibex a - speeds a)
  let trq := ax.filter fun a => torqueDiffers s a
  let prs := (List.range 32).filter fun p => pairResult s .ibex p != pairResult s .chamois p
  let drs := doorList s
  let prv := drs.filter fun d => proven s .ibex d != proven s .chamois d
  let iso := drs.filter fun d => laneIsolated s .ibex d != laneIsolated s .chamois d
  let rel := drs.filter fun d => doorRelease s .ibex d != doorRelease s .chamois d
  pos ++ spd.map (· + 24) ++ trq.map (· + 48) ++ prs.map (· + 72) ++ prv.map (· + 104) ++ iso.map (· + 112) ++
    rel.map (· + 120) ++ (if (s.out 0).demandIbex != (s.out 0).demandChamois then [128] else []) ++
    (if (s.out 2).demandIbex != (s.out 2).demandChamois then [129] else []) ++
    (if s.saf.configCrc ≠ s.saf.configCrcC then [130] else []) ++
    (if (s.out 1).demandIbex != (s.out 1).demandChamois then [131] else []) ++
    (if (s.out 3).demandIbex != (s.out 3).demandChamois then [132] else []) ++
    (if s.herd.mode != s.saf.modeC then [133] else []) ++
    (if s.safN .kscConnId ≠ 0 ∧ kscPayload s .ibex ≠ kscPayload s .chamois then [134] else [])

/-- The lanes exchange: both run. -/
def exchanging (s : State) : Bool := s.saf.lanes.ibexUp && s.saf.lanes.chamoisUp && s.boot.power == .on

/-- One exchange: counts frozen at the strobe, disagreeing quantities counted (R24, R25). -/
def crossLaneExchange (s : State) : State :=
  if !exchanging s then s
  else
    let before := s
    let s := each 24 (fun s a => s.modFb a fun b => { b with frozen := b.count, dupFrozen := b.dup }) s
    let bad := disagreements s fun a =>
      (((s.axis a).fb.dupFrozen - (before.axis a).fb.dupFrozen : Int) : Rat) * umCount s a * 1000
    s.modLanes fun l =>
      { l with
        disagree := bad.map fun q => (q, min 10 (getD l.disagree q 0 + 1))
        goodRun := if bad = [] then min 100 (l.goodRun + 1) else 0
        exchangedAt := some s.us, slotsI := 0, slotsC := 0
        stateB := Vector.ofFn fun p : Fin 32 => pairResult s .chamois p.val }

/-- A quantity has disagreed in 10 consecutive exchanges (R24, R26). -/
def effectDisagreement (s : State) : State :=
  if s.saf.lanes.disagree.any fun e => 10 ≤ e.2 then takeSafeState 2 s else s

/-- A window of the other lane's tick (R16): two bad ones in a row take the safe state. -/
def tickWindow (lane : Lane) (bad : Bool) (s : State) : State :=
  if !laneUp s lane then s
  else
    let n := if bad then (match lane with
        | .ibex => s.saf.lanes.badWindowsIbex
        | .chamois => s.saf.lanes.badWindowsChamois) + 1 else 0
    let s := s.modLanes fun l => match lane with
      | .ibex => { l with badWindowsIbex := min 2 n }
      | .chamois => { l with badWindowsChamois := min 2 n }
    if 2 ≤ n then takeSafeState 5 s else s

def windowBad (lane : Lane) (cycles : Nat) : Bool :=
  match lane with
  | .ibex => cycles < 1980000 || 2020000 < cycles
  | .chamois => cycles < 990000 || 1010000 < cycles

/-- `SAF.PAIR_STATUS[p]` (R193). -/
def PairResult.code : PairResult → Nat | .none => 0 | .inactive => 1 | .active => 2 | .discrepancy => 3
def pairStatus (s : State) (p : Nat) : Nat :=
  let x := s.pair .ibex p
  let t := pairType s p
  64 * (vget s.saf.lanes.stateB p .none).code + 32 * b2n (p = 27 && s.saf.stuck) + 16 * b2n x.seenInactive
    + 8 * b2n (t ≠ 0 && contactActive t true x.c2.filt) + 4 * b2n (t ≠ 0 && contactActive t false x.c1.filt) + x.result.code

end Sys2Proof.Machine
end

