-- ==== Sys2Proof/Machine/Ksc.lean ====
section
/-! DEFINITION. The Kalozel Safe Channel (R218 to R225): telegrams, pairing of the two copies, the inbound connection of each
lane and the outbound telegram of both. -/

namespace Sys2Proof.Machine

/-! ## Frames sent (R335, R337) -/

/-- Advance counter k of port p; SVC has none (R352). -/
def netCount (p k : Nat) (s : State) : State :=
  s.modPort p fun x => { x with counters := vset x.counters k (inc32 (vget x.counters k 0)) }

def prpOn (s : State) : Bool := s.netp .prpMode = 1
def portOn (s : State) (p : Nat) : Bool := bit (s.netN .portEnable) p
/-- The IPv4 address under which a port sends; 0 where it carries no IP traffic. -/
def portIp (s : State) (p : Nat) : Nat := s.netN (.ipAddr (if p = 1 && prpOn s then 0 else p))

/-- The copy of a frame of class c (0 KSC, 1 PTP, 2 herd, 3 other) on a port. A frame without IP has no destination here. -/
def wireOn (s : State) (c : Nat) (trailer : Bool) (ip : Bool) (dst : Nat → Nat) (p : Nat) : List Wire :=
  if portOn s p && (!ip || portIp s p ≠ 0) then
    [{ port := p, dst := if ip then dst p else 0, vlan := if p < 2 then s.netN (.vlanId p) else 0,
       pcp := if p < 2 then s.netN (.pcp c) else 0, trailer := if trailer then some s.net.prpTx else none }]
  else []

/-- A frame on NET-A and NET-B, with trailers where they form one node. -/
def wiresAB (s : State) (c : Nat) (ip : Bool) (dst : Nat → Nat) : List Wire :=
  wireOn s c (prpOn s) ip dst 0 ++ wireOn s c (prpOn s) ip dst 1

/-- The address of the safe peer on a port; as one node the module addresses the peer of NET-A. -/
def peerOn (s : State) (p : Nat) : Nat := s.safN (if p = 1 && !prpOn s then .kscPeerB else .kscPeerA)

/-- The copies of a frame that the module sends of its own accord. A field link frame has none: it has ports of its own. -/
def wiresOf (s : State) : Sent → List Wire
  | .supervision => wiresAB s 3 false fun _ => 0
  | .sync n _ | .delayReq n | .delayResp n => wireOn s 1 false (s.netp (.transport n) = 1) (fun _ => 0xE0000181) n
  | .ksc _ => wiresAB s 0 true (peerOn s)
  | .herd _ => wiresAB s 2 true fun _ => s.netN .herdMcast
  | .forward m _ => wiresAB s 3 true fun _ => (Config.open_ 953 [(m : Int)] % 4294967296).toNat
  | .fieldFrame _ _ => []

/-- Count the copies of a frame, and use up the sequence number of its trailer. -/
def countWires (l : List Wire) (s : State) : State :=
  let s := l.foldl (fun s w => netCount w.port 1 s) s
  if l.any fun w => w.trailer.isSome then s.modNet fun n => { n with prpTx := (n.prpTx + 1) % 65536 } else s

/-- A frame that the module sends of its own accord. -/
def send (x : Sent) (s : State) : State :=
  let l := wiresOf s x
  (countWires l s).modNet fun n => { n with sent := n.sent ++ [(x, l)] }

def setKsc (lane : Lane) (k : Ksc) (s : State) : State :=
  s.modSaf fun x => match lane with | .ibex => { x with kscI := k } | .chamois => { x with kscC := k }
def modKsc (lane : Lane) (f : Ksc → Ksc) (s : State) : State := setKsc lane (f (kscOf s lane)) s

/-- The CRC of a telegram (R219): the connection safety code is its initial value. -/
def kscCrc (code : Nat) (b : Bytes) : Nat :=
  ((b.foldl (crcByte 0xEDB88320) (BitVec.ofNat 32 code)) ^^^ 0xFFFFFFFF).toNat

/-- Bytes 0 to 43 of a telegram (R218). -/
def kscHead (dir conn seq : Nat) (payload : Bytes) : Bytes :=
  [0x4B, 0x53, 1] ++ le 1 dir ++ le 2 conn ++ [0, 0] ++ le 4 seq ++ fix 32 payload

/-- Format, address and CRC of a copy (R222, R220). -/
def kscFormOk (s : State) (netB : Bool) (src : Nat) (b : Bytes) : Bool :=
  src = s.safN (if netB then .kscPeerB else .kscPeerA) && b.length = 48 &&
    b.take 6 = [0x4B, 0x53, 1, 0] ++ le 2 (s.safN .kscConnId) && rd b 6 2 = 0 &&
    rd b 44 4 = kscCrc (s.safN .kscCode) (b.take 44) && rd b 12 1 < 4 && rd b 14 2 = 0 && rd b 20 24 = 0

/-- The step of a SEQ from the last accepted one, modulo 2^32. -/
def kscStep (k : Ksc) (seq : Nat) : Nat := (seq + 0x100000000 - k.lastSeq) % 0x100000000

/-- Whether a SEQ may be accepted: any in LOST, one of the next ones in RESYNC and RUN. -/
def kscSeqOk (s : State) (k : Ksc) (seq : Nat) : Bool :=
  match k.state with
  | .resync | .run => 1 ≤ kscStep k seq && kscStep k seq ≤ s.safN .kscSeqGap
  | _ => true

/-- The connection of a lane falls to LOST: the KSC safe values (R223). -/
def kscDrop (k : Ksc) : Ksc :=
  { k with state := .lost, windows := [], accepted := 0, wd := none, release := 0, mask := 0, expected := 0 }

/-- The lane that is ahead in seeing a condition raises its event. -/
def kscRaise (lane : Lane) (count : Ksc → Nat) (detail : Nat) (s : State) : State :=
  if count (kscOf s (otherLane lane)) < count (kscOf s lane) then laneRaise 200 detail s else s

/-- An accepted telegram (R222, R223); `a` and `b`: it had a copy of NET-A, of NET-B. -/
def kscAccept (lane : Lane) (seq : Nat) (d : Bytes) (a b : Bool) (s : State) : State :=
  let k := kscOf s lane
  let run := k.state == .run
  let single := if a && b then 0 else k.single + 1
  let st := match k.state with
    | .lost => KscState.resync
    | .resync => if k.accepted + 1 = 3 then .run else .resync
    | x => x
  let full := single = s.safN .kscSingleMax
  let k := { k with
    state := st, lastSeq := seq, single := single, wd := some (s.us + 1000 * s.safN .kscWdMs),
    accepted := if k.state == KscState.resync then k.accepted + 1 else if k.state == KscState.lost then 0 else k.accepted,
    release := if run then BitVec.ofNat 8 (rd d 12 1) else k.release,
    mask := if run then BitVec.ofNat 8 (rd d 13 1) else k.mask, expected := rd d 16 4,
    windows := k.windows.filter fun w => w.1 ≠ seq,
    status := setBit (setBit (if full then setBit k.status 6 true else k.status) 0 a) 1 b,
    nSgl := if full then k.nSgl + 1 else k.nSgl }
  let k := { k with windows := k.windows.filter fun w => kscSeqOk s k w.1 }
  let s := setKsc lane k s
  if full then kscRaise lane Ksc.nSgl 3 s else s

/-- The end of a pairing window with one copy (R222). -/
def kscWindowEnd (lane : Lane) (seq : Nat) (s : State) : State :=
  let k := kscOf s lane
  match k.windows.find? fun w => w.1 = seq with
  | none => s
  | some w =>
    let s := setKsc lane { k with windows := k.windows.filter fun x => x.1 ≠ seq } s
    if s.safp .kscPolicy = 1 && k.state != .lost && kscSeqOk s k seq then
      kscAccept lane seq w.2.1 (!w.2.2.1) w.2.2.1 s
    else modKsc lane (fun k => { k with accepted := if k.state == .resync then 0 else k.accepted }) s

/-- Windows whose time has passed end before anything else is done with the connection. -/
def kscOverdue (lane : Lane) (s : State) : State :=
  ((kscOf s lane).windows.filter fun w => w.2.2.2 + s.safN .kscPairUs < s.us).foldl
    (fun s w => kscWindowEnd lane w.1 s) s

/-- Unequal copies of one SEQ (R222). -/
def kscMismatch (lane : Lane) (s : State) : State :=
  let s := modKsc lane (fun k => { kscDrop k with status := setBit k.status 5 true, nMis := k.nMis + 1 }) s
  kscRaise lane Ksc.nMis 1 s

/-- One copy arrives at a lane (R28, R222). -/
def effectKscCopy (lane : Lane) (netB : Bool) (src : Nat) (data : Bytes) (s : State) : State :=
  if !laneUp s lane || s.boot.power != .on || (kscOf s lane).state == .off then s
  else
    let s := kscOverdue lane s
    let k := kscOf s lane
    let seq := rd data 8 4
    if !kscFormOk s netB src data then setKsc lane { k with status := setBit k.status 2 true } s
    else if (k.state == .resync || k.state == .run) && seq = k.lastSeq then s
    else if !kscSeqOk s k seq then setKsc lane { k with status := setBit k.status 3 true } s
    else
      match k.windows.find? fun w => w.1 = seq with
      | none => setKsc lane { k with windows := k.windows ++ [(seq, data, netB, s.us)] } s
      | some w =>
        if w.2.2.1 = netB then s
        else if w.2.1 = data then kscAccept lane seq data true true s
        else kscMismatch lane s

/-- KSC_PAIR_WINDOW_END: the oldest open window of the lane ends. -/
def effectKscWindow (lane : Lane) (s : State) : State :=
  match (kscOf s lane).windows with
  | w :: _ => kscWindowEnd lane w.1 (forwardTo (some (w.2.2.2 + s.safN .kscPairUs)) s)
  | [] => s

/-- The watchdog of the connection runs out in a lane (R223). -/
def effectKscWatchdog (lane : Lane) (s : State) : State :=
  match (kscOf s lane).wd with
  | none => s
  | some t =>
    let s := forwardTo (some t) s
    let s := modKsc lane (fun k => { kscDrop k with status := setBit k.status 4 true, nWd := k.nWd + 1 }) s
    kscRaise lane Ksc.nWd 2 s

/-- KSC_TX_CYCLE (R221): Chamois gives SEQ and the CRC over its own payload, Ibex sends its payload with them. -/
def effectKscTx (s : State) : State :=
  if s.safN .kscConnId = 0 || !started s || !s.saf.lanes.ibexUp || !s.saf.lanes.chamoisUp then s
  else
    let s := forwardTo (some (s.saf.txAt + 1000 * s.safN .kscCycleMs)) s
    let seq := wrap32 (s.saf.txSeq + 1)
    let head (lane : Lane) : Bytes := kscHead 1 (s.safN .kscConnId) seq (kscPayload s lane)
    let b := head .ibex ++ le 4 (kscCrc (s.safN .kscCode) (head .chamois))
    send (.ksc b) (s.modSaf fun x => { x with txSeq := seq, txAt := s.us })

/-- The connection after a commit that changes a KSC parameter, and at the start (R223, R229 step 4). -/
def kscStart (s : State) : State :=
  let f (k : Ksc) : Ksc := { kscDrop k with state := if s.safN .kscConnId = 0 then .off else .lost }
  s.modSaf fun x => { x with kscI := f x.kscI, kscC := f x.kscC }

def KscState.code : KscState → Nat | .off => 0 | .lost => 1 | .resync => 2 | .run => 3

/-- `SAF.KSC_STATUS` (R224), as Ibex reports its connection. -/
def kscStatus (s : State) : Nat :=
  let k := s.saf.kscI
  16384 * k.state.code + 128 * b2n (k.expected ≠ 0 && k.expected ≠ s.saf.configCrc) + k.status.toNat % 128

/-- A W1C write of it clears the bits in both lanes (R224, R327). -/
def kscStatusClear (v : Nat) (s : State) : State :=
  let m := BitVec.ofNat 16 (v &&& 0x7C)
  s.modSaf fun x => { x with kscI := { x.kscI with status := x.kscI.status &&& ~~~m }
                             kscC := { x.kscC with status := x.kscC.status &&& ~~~m } }

end Sys2Proof.Machine
end

