-- ==== Sys2Proof/Machine/Views.lean ====
section
/-! DEFINITION. What a read returns: the value of every scalar (R300, R331 and the parameter tables) and the bytes of every
block (R330) and status entry (R303, R305, R309, R311 to R313). -/

namespace Sys2Proof.Machine

/-! ## Field and module words -/

def Ring.code : Ring → Nat | .off => 0 | .closed => 1 | .broken => 2 | .down => 3
def StationState.code : StationState → Nat | .off => 0 | .joining => 1 | .run => 2 | .missing => 3 | .lost => 4
def LogicState.code : LogicState → Nat | .stop => 0 | .run => 1 | .hold => 2

/-- `MOD.FL_STATUS` (R251). -/
def flStatus (s : State) : Nat := 16384 * s.link.ring.code + (s.link.seen &&& 0xE#16).toNat
/-- `FS[f].STATUS` (R255): the field holds bits 12 to 9, 7 and 6. -/
def stationStatus (s : State) (f : Nat) : Nat :=
  let x := s.station f
  8192 * x.state.code + (x.status &&& 0x1EC0#16).toNat + min 3 x.missed
/-- `MOD.FG_STATUS[g]` (R245). -/
def groupStatus (s : State) (g : Nat) : Nat := ((s.group g).status &&& 0xF#8).toNat
/-- `MOD.LOGIC_STATUS` (R282). -/
def logicStatus (s : State) : Nat :=
  let g := s.logic
  0x1000000 * (g.overTask % 256) + 0x100000 * (g.stopCause % 16) + 0x10000 * (g.exch % 16) + 32768 * b2n g.staged.isSome
    + 16384 * b2n g.warmLast + 8192 * b2n g.retainOk + min 32 g.forces.length
/-- `MOD.SUPPLY_STATUS` (R453): the field holds bits 15, 14, 12, 11 and 5 to 1. -/
def supplyStatus (s : State) : Nat :=
  let absent := !s.sup.precharged || 10 * s.sup.driveVolt < 6000 * driveNomV s
  let hi := (s.sup.status &&& 0xD800#16).toNat + 8192 * b2n absent + 1024 * b2n (s.sup.regenLockEnd.isSome)
  hi + (s.sup.status &&& 0x3E#16).toNat + b2n (hi ≠ 0)
/-- `MOD.TEMP_STATUS` (R453): DERATING is computed. -/
def tempStatus (s : State) : Nat := (s.sup.tempStatus &&& 0xD3#8).toNat + 32 * b2n (1050 < s.sup.baseTemp)
/-- `MOD.GRAZE_STATUS` (R472). -/
def grazeRunning (s : State) : Bool := s.graze.sto.isSome || s.graze.items.toList.any fun i => i.result = 3
def grazeStatus (s : State) : Nat :=
  32768 * b2n (grazeRunning s) + 16384 * b2n s.graze.sto.isSome + 8192 * b2n s.graze.fast + (s.graze.status &&& 0xE#16).toNat
/-- Word i of a vector of 256 bits (R460). -/
def word32 (l : List Bool) (i : Nat) : Int := (ofBits ((l.drop (32 * i)).take 32) : Nat)
def hoursOf (us : Nat) : Int := (sat32 (us / 3600000000) : Nat)
/-- k of R107 over the configured axes, in percent. -/
def deratePct (s : State) : Int := (deratingOf s.sup.baseTemp / 100 : Nat)
def boolI (b : Bool) : Int := if b then 1 else 0
/-- A sine table as its block, and its CRC (R103, R104). -/
def sineBytes (l : List Nat) : Bytes := l.flatMap fun x => le 2 x
def sineCrcOf (s : State) (t : Nat) : Nat := crc32c (sineBytes (sineTable s t))

def viewMod (s : State) (p : ModP) : Int :=
  match p with
  | .orderCode => s.boot.orderCode
  | .defaultSet => s.boot.defaultSet
  | .mode => s.herd.mode.code
  | .baseTemp => satI 16 s.sup.baseTemp
  | .logicState => s.logic.state.code
  | .logicStatus => logicStatus s
  | .planId => (s.logic.active.map fun g => (g.id : Int)).getD 0
  | .planVersion => (s.logic.active.map fun g => (g.version : Int)).getD 0
  | .planCrc => (s.logic.active.map fun g => (g.crc : Int)).getD 0
  | .stagedCrc => (s.logic.staged.map fun g => (g.crc : Int)).getD 0
  | .flStatus => flStatus s
  | .fgVolt g => (s.group g).mV
  | .fgStatus g => groupStatus s g
  | .sineCrc t => sineCrcOf s t
  | .logicVolt => s.sup.logicVolt
  | .logicNom => s.sup.logicNom
  | .logicPowerMw => s.sup.logicPower
  | .supplyStatus => supplyStatus s
  | .driveVolt => s.sup.driveVolt
  | .driveCurr => satI 16 s.sup.driveCurr
  | .drivePowerW => s.sup.drivePower
  | .driveAvgW => s.sup.driveAvg
  | .regenMj => s.sup.regenMj
  | .regenEpisodes => sat32 s.sup.regenEpisodes
  | .regenTemp => satI 16 s.sup.regenTemp
  | .dischargeMs => s.sup.dischargeMs
  | .holdupMj => s.sup.holdupMj
  | .pfWarnings => sat32 s.sup.pfWarnings
  | .bridged => sat32 s.sup.bridged
  | .longestBridgeMs => s.sup.longestBridge
  | .fgCurr g => min 32767 ((s.group g).current : Int)
  | .encSupplyStatus => s.sup.encOff.toNat
  | .powerMode => s.sup.powerMode
  | .wakeSrc => s.sup.wakeSrc
  | .tempStatus => tempStatus s
  | .logicTemp => satI 16 s.sup.logicTemp
  | .baseTempPeak => satI 16 s.sup.basePeak
  | .deratePct => deratePct s
  | .dissipationW => s.sup.dissipation
  | .base105H => hoursOf s.sup.base105Us
  | .base125H => hoursOf s.sup.base125Us
  | .energyDriveWh => hoursOf s.sup.energyDrive
  | .energyLogicWh => hoursOf (s.sup.energyLogic / 1000)
  | .busCapUf => s.sup.busCap
  | .soSupply o => (vget s.sup.soSupply o 0 : Nat)
  | .cfStatus => s.sup.cfOff.toNat
  | .insulKohm => s.sup.insul
  | .hwRevision => s.boot.hwRevision
  | .resetCause => s.boot.cause
  | .startKind => boolI s.boot.warm
  | .startInfo => s.boot.info.toNat
  | .restart => 0
  | .powerCycles => s.jrn.powerCycle
  | .opTimeLo => (s.jrn.opTime % 0x100000000 : Nat)
  | .opTimeHi => (s.jrn.opTime / 0x100000000 : Nat)
  | .startStep => if s.boot.step = 1 && 50000 ≤ s.us - s.boot.stepUs then 2 else s.boot.step
  | .startTimeMs => sat16 s.boot.startMs
  | .activeBank => s.boot.activeBank
  | .bankState b => (vget s.boot.bankState b 0 : Nat)
  | .fwVersion b => (vget s.boot.fwVersion b 0 : Nat)
  | .secVersion b => (vget s.boot.secVersion b 0 : Nat)
  | .bootTries => s.boot.bootTries
  | .fallbacks => sat32 s.boot.fallbacks
  | .prechargeMs => sat16 s.boot.prechargeMs
  | .storeCheckMs => s.boot.storeCheckMs
  | .laneRestarts => sat32 s.saf.lanes.restarts
  | .evRaiseSeq => s.ev.raiseSeq
  | .evPending i => word32 s.ev.pending.toList i
  | .evSticky i => word32 s.ev.sticky.toList i
  | .evInjVec i => word32 s.ev.injVec.toList i
  | .evInjections => s.ev.injections
  | .evRaises => s.ev.raises
  | .grazeStatus => grazeStatus s
  | .grazeIdlePct => s.graze.idlePct
  | .grazeFast => boolI s.graze.fast
  | .grazeCycleH => s.graze.cycleH
  | .grazeOverdue => s.graze.overdue.toNat
  | .grazeCover i => coverPct s (i + 1)
  | .grazeLastFail => s.graze.lastFail
  | .grazeRuns => sat32 s.graze.runs
  | q => s.modp q

/-! ## Axes -/

def viewAx (s : State) (a : Nat) (p : AxP) : Int :=
  let x := s.axis a
  match p with
  | .mass => clampI 0 65535 x.learned.mass
  | .massRaw => x.det.massRaw
  | .massValid => boolI x.learned.massValid
  | .idStatus => x.det.idStatus
  | .queued => boolI x.queued.isSome
  | .queueStatus => x.queueStatus
  | .lcFired => x.lcFired.toNat
  | .driveState => x.drive.state.code
  | .iApplied => (appliedNow s a : Nat)
  | .phase => phaseOf s a
  | .phaseOfs => x.drive.phaseOfs
  | .phaseValid => boolI x.drive.phaseValid
  | .commOffset => x.drive.commOffset
  | .commValid => boolI x.drive.commValid
  | .loadAngle => satI 16 x.drive.loadAngle
  | .laValid => boolI (laValid s a)
  | .stageTemp => satI 16 x.drive.stageTemp
  | .stageFault => stageFaultWord s a
  | .enableStatus => x.drive.enableStatus
  | .pos => satI 32 (posUm s a)
  | .speed => satI 32 (speedOf s a)
  | .accel => satI 32 (accelOf s a)
  | .posOfs => truncR x.fb.posOfs
  | .overflow => satI 32 x.fb.overflow
  | .indexPos => satI 32 x.fb.indexPos
  | .indexErr => satI 32 x.fb.indexErr
  | .fbStatus => fbStatus s a
  | .latchCfg l => ((latchOf s a l).cfg.toNat : Nat)
  | .homeStatus => x.home.status
  | .force => satI 16 (rnd x.det.force)
  | .forceF => satI 16 (rnd x.det.forceF)
  | .lag0 => satI 32 (rnd x.det.lag0)
  | .ltMoves => sat32 x.ltMoves
  | .ltDistM => sat32 x.ltDist
  | .ltEnergisedH => hoursOf x.ltEnergUs
  | .ltSto => sat32 x.ltSto
  | .ltStageFaults => sat32 x.ltStage
  | .ltHomings => sat32 x.ltHomings
  | q => s.axp a q

/-! ## Doorways, pins, stations, events -/

def viewDw (s : State) (d : Nat) (p : DwP) : Int :=
  let x := s.door d
  match p with
  | .state => x.shown.code
  | .leafState => x.leaf.code
  | .stepState => (stepShown s d).code
  | .obstCount => x.obstCount
  | .massPlan => clampI 0 65535 x.massPlan
  | .ePlan => clampI 0 65535 x.ePlan
  | .ePeak => clampI 0 65535 x.ePeak
  | .teach => 0
  | .learnState => learnState s d
  | .obstCause => x.obstCause.toNat
  | .obstAxis => x.obstAxis
  | .obstPos => satI 32 x.obstPos
  | .obstForce => satI 16 x.obstForce
  | .ltCycles => sat32 x.ltCycles
  | .ltObstacles => sat32 x.ltObst
  | .ltSealFails => sat32 x.ltSealFails
  | .ltLockRedrives => sat32 x.ltRedrives
  | .ltReopens => sat32 x.ltReopens
  | .ltEgress => sat32 x.ltEgress
  | .ltFaultHolds => sat32 x.ltFaults
  | .ltIsolations => sat32 x.ltIsol
  | q => s.dwp d q

def viewIo (s : State) (n : Nat) (p : IoP) : Int :=
  match p with
  | .out => boolI (s.iop n .owner = 3 && (s.pin n).cmd)
  | .value => pinValue s n
  | .status => pinStatus s n
  | q => s.iop n q

def viewFs (s : State) (f : Nat) (p : FsP) : Int :=
  match p with
  | .status => stationStatus s f
  | .missedTotal => sat32 (s.station f).missedTotal
  | .lostTotal => sat32 (s.station f).lostTotal
  | .input i => rd (s.station f).seen (4 * i) 4
  | q => s.fsp f q

def viewEv (s : State) (e : Nat) (p : EvP) : Int :=
  match p with
  | .cfg => s.evp e .cfg
  | .inj => s.evp e .inj + min 255 (getD s.ev.injCount e 0 : Nat)

/-! ## Safety, networks, herd, journal -/

def viewSaf (s : State) (p : SafP) : Int :=
  match p with
  -- before the store check of a start the image in SRAM is the active one (R226, R406)
  | .configCrc => if s.boot.step = 1 || s.boot.step = 3 then activeCrc s else s.saf.configCrc
  | .commitCount => s.saf.commitCount
  | .safeState => safeWord s + 2 * b2n (safeReady s)
  | .pairStatus i => pairStatus s i
  | .soStatus o => soStatus s o
  | .soCurrent o => min 32767 ((s.out o).current : Int)
  | .kscStatus => kscStatus s
  | q => s.safp q

/-- Port state of a network clock (R311, R349). -/
def ptpState (s : State) (n : Nat) : Nat :=
  if !bit (s.netN .ptpEnable) n then 0 else if (s.clock n).distrusted then 4 else (s.clock n).state
def pathDelayNs (s : State) (n : Nat) : Nat := sat32 (rnd ((s.clock n).pathDelay.getD 0)).toNat

/-- `NET.TIME_STATUS` (R351): the field holds bits 2 and 1. -/
def timeStatus (s : State) : Nat :=
  let t := s.time
  let a := s.clock 0
  let b := s.clock 1
  32768 * b2n t.valid + 8192 * (t.trusted % 4) + 4096 * b2n a.locked + 2048 * b2n b.locked + 1024 * b2n t.deciding.isSome
    + 512 * b2n a.distrusted + 256 * b2n b.distrusted + 128 * b2n a.refused.isSome + 64 * b2n b.refused.isSome
    + 32 * b2n t.confirmSince.isSome + 16 * b2n (ptpState s 0 = 3) + 8 * b2n (ptpState s 1 = 3) + (t.seen &&& 0x6#16).toNat

def secondsSince (s : State) (t : Nat) : Nat := sat32 ((s.us - t) / 1000000)
def holding (s : State) : Bool := s.time.valid && s.time.trusted = 0
/-- `NET.CNT[k + 11p]`. -/
def netCnt (s : State) (i : Nat) : Nat := vget (s.port (i / 11)).counters (i % 11) 0

def viewNet (s : State) (p : NetP) : Int :=
  match p with
  | .macHi i => (s.port i).macHi
  | .macLo i => (s.port i).macLo
  | .linkStatus i => (s.port i).link
  | .prpStatus => s.net.prpStatus
  | .cnt i => sat32 (netCnt s i)
  | .cntClear => 0
  | .timeStatus => timeStatus s
  | .ptpState n => ptpState s n
  | .offsetNs n => satI 32 (s.clock n).offset
  | .pathDelayNs n => pathDelayNs s n
  | .pdChangeS n => ((s.clock n).pdChangedAt.map fun t => (secondsSince s t : Int)).getD 0xFFFFFFFF
  | .refusedNs n => ((s.clock n).refused.map fun r => satI 32 r.1).getD 0
  | .abDiffNs => satI 32 s.time.abDiff
  | .abBaseNs => satI 32 (rnd s.time.abBase)
  | .freqPpb => satI 32 (rnd (s.time.rate * 1000000000))
  | .gmIdHi n => ((s.clock n).gm / 0x100000000 % 0x100000000 : Nat)
  | .gmIdLo n => ((s.clock n).gm % 0x100000000 : Nat)
  | .utcOffsetS => s.time.utcOffset
  | .holdoverS => if holding s then secondsSince s s.time.holdoverSince else 0
  | .stepsAccepted => wrap32 s.time.stepsAccepted
  | .stepsRefused => wrap32 s.time.stepsRefused
  | .herdCycleOfs => wrap32 s.time.cycleOfs
  | .syncRx n => wrap32 (s.clock n).syncRx
  | q => s.netp q

/-- Members counted and quorum (R354). -/
def popcount (n : Nat) : Nat := ((List.range 32).filter fun i => bit n i).length
def herdCount (s : State) : Nat := popcount (s.herdN .configMask) + (if s.herdp .extRefId = 255 then 0 else 1)
def quorum (s : State) : Nat := herdCount s / 2 + 1
/-- `HERD.STATUS` (R376): the field holds bits 15, 13 and 5 to 1. -/
def mirrorOk (s : State) : Bool :=
  match s.herd.active with
  | some m => m.term = s.herd.term && s.herd.cycle ≤ s.herd.activeAt + 2
  | none => false
def herdStatus (s : State) : Nat :=
  (s.herd.status &&& 0xA03E#16).toNat + 16384 * b2n (mirrorOk s) + 4096 * b2n s.herd.oldMode.isSome
    + 2048 * b2n s.herd.holdUntil.isSome

def viewHerd (s : State) (p : HerdP) : Int :=
  let h := s.herd
  match p with
  | .role => h.role.code
  | .master => h.master
  | .standby => h.standby
  | .term => wrap32 h.term
  | .epoch => wrap32 h.epoch
  | .present => h.present
  | .quorum => quorum s
  | .status => herdStatus s
  | .pendMode => (h.pendMode.map fun m => (m.code : Int)).getD 255
  | .pendEpoch => if h.pendMode.isSome then h.pendEpoch else 0
  | .applyAtLo => if h.pendMode.isSome then (h.applyAt % 0x100000000 : Nat) else 0
  | .applyAtHi => if h.pendMode.isSome then (h.applyAt / 0x100000000 : Nat) else 0
  | .grant => (h.grant &&& 3#8).toNat
  | .mirrorSeq => (h.active.map fun m => (m.seq : Int)).getD 0
  | .mirrorAge => if h.active.isSome then sat32 (h.cycle - h.activeAt) else 0
  | .shadowCmp => sat32 h.shadowCmp
  | .shadowSkip => sat32 h.shadowSkip
  | .shadowMismatch => sat32 h.shadowMis
  | .switchovers => sat32 h.switchovers
  | .votesGranted => sat32 h.votesGranted
  | .modeAborts => sat32 h.aborts
  | .rollbacks => sat32 h.rollbacks
  | .lastSwitchMs => h.lastSwitchMs
  | .missed m => sat32 (vget h.missed m 0)
  | .ackMask => h.ackMask
  | .staleMask => h.stale
  | .conflicts => sat32 h.conflicts
  | .noQuorumCycles => sat32 h.noQuorumCycles
  | .bleatRx n => wrap32 (vget h.bleatRx n 0)
  | q => (sget h.writes (Par.herd q).key).getD (s.herdp q)

def viewJrn (s : State) (p : JrnP) : Int :=
  let j := s.jrn
  match p with
  | .state r => (s.region r).state.code
  | .capacity r => capacity r
  | .oldestLo r => (oldest s r % 0x100000000 : Nat)
  | .oldestHi r => (oldest s r / 0x100000000 : Nat)
  | .newestLo r => (newest s r % 0x100000000 : Nat)
  | .newestHi r => (newest s r / 0x100000000 : Nat)
  | .lineErrs r => sat32 (s.region r).lineErrs
  | .eccFixed r => sat32 (s.region r).eccFixed
  | .status => jrnStatus s
  | .sealCount => j.sealCount
  | .lastSealLo => (j.lastSeal % 0x100000000 : Nat)
  | .lastSealHi => (j.lastSeal / 0x100000000 : Nat)
  | .suppressed => j.suppressed
  | .recheck => 0
  | .queuePeak => j.queuePeak
  | .queueDrops => j.queueDrops
  | .cyclePend => j.held.length
  | .scrubPassH => j.scrubPassH
  | .scrubAgeH => (j.scrubAt.map fun t => (sat32 ((j.opTime - t) / 3600000) : Int)).getD 0xFFFFFFFF
  | .caddySince => (j.caddySince.map fun n => (n : Int)).getD 0xFFFFFFFF
  | q => s.jrnp q

/-- The value that PARAM_READ gives for a scalar. -/
def view (s : State) : Par → Int
  | .mod p => viewMod s p
  | .ax a p => viewAx s a p
  | .dw d p => viewDw s d p
  | .io n p => viewIo s n p
  | .fs f p => viewFs s f p
  | .ev e p => viewEv s e p
  | .saf p => viewSaf s p
  | .net p => viewNet s p
  | .herd p => viewHerd s p
  | .jrn p => viewJrn s p

/-! ## Blocks (R330) -/

/-- The leaf-clock table (R51): eight bytes a point. -/
def lcBytes (l : List LcPoint) : Bytes :=
  l.flatMap fun p => leI 4 p.pos ++ le 1 p.action ++ [p.flags] ++ le 2 p.operand

/-- KIND of PLAN (R72). -/
def MoveKind.code : MoveKind → Nat
  | .none => 0 | .opening => 1 | .closing => 2 | .reopening => 3 | .step => 4 | .point => 5 | .jog => 6 | .homing => 7
  | .stopRamp => 8

def planBytes (s : State) (a : Nat) : Bytes :=
  let p := (s.axis a).plan
  let q := joinPlan p.phases
  let flags := b2n p.leader + 2 * b2n p.camSlave + 4 * b2n p.fromQueue + 8 * b2n p.byPoint + 16 * b2n q.2
  let head := le 4 p.seq ++ le 1 p.kind.code ++ le 1 q.1.length ++ le 1 p.limit ++ le 1 flags
    ++ leI 4 (satI 32 (rnd p.startPos)) ++ leI 4 (satI 32 p.endPos)
  let r (x : Rat) : Bytes := leI 4 (satI 32 (rnd x))
  fix 256 (head ++ q.1.flatMap fun f => le 4 (sat32 (rnd f.dur).toNat) ++ r f.jerk ++ r f.v0 ++ r f.a0)

def fricBytes (s : State) (a : Nat) : Bytes :=
  (List.range 128).flatMap fun b => leI 2 (satI 16 (rnd (fricOf s a b)))

def envHalf (s : State) (a : Nat) (e : EnvBin) : Bytes :=
  let f (x : Rat) : Bytes := leI 2 (satI 16 (rnd x))
  f (envLimit s a e) ++ f e.ref ++ f (spreadL e.window)
    ++ (match e.baseline with | some b => f b | none => [0x00, 0x80])
    ++ f e.lastPeak ++ le 1 e.window.length ++ le 1 (b2n e.held + 2 * b2n (flatLimit s a e))

def envBytes (s : State) (a : Nat) : Bytes :=
  let l := (s.axis a).learned
  le 4 (sat32 l.envCycles) ++ le 2 (b2n (l.envClose.toList.any EnvBin.held) + 2 * b2n (l.envOpen.toList.any EnvBin.held))
    ++ [0, 0] ++ le 4 (sat32 (rnd ((s.axp a .travel : Rat) * 512)).toNat) ++ zeros 4
    ++ (List.range 128).flatMap fun b => envHalf s a (vget l.envClose b EnvBin.empty) ++ envHalf s a (vget l.envOpen b EnvBin.empty)

def latchBytes (l : Latch) : Bytes :=
  le 4 l.seq ++ leI 4 l.pos ++ leI 4 l.speed ++ leI 4 l.accel ++ le 8 l.timeS ++ le 4 l.timeNs ++ [l.flags]
    ++ le 1 l.source ++ le 2 l.obsAge

def cmpBytes (c : Cmp) : Bytes := leI 4 c.pos ++ le 4 c.step ++ le 4 c.cfg.toNat ++ le 2 c.status.toNat ++ [0, 0]

def sealRefBytes (s : State) (d : Nat) : Bytes :=
  let l := (s.door d).sealRef.toList
  (l.flatMap fun e => leI 4 (rnd e.ref)) ++ (l.flatMap fun e => leI 4 (rnd e.baseline))

def camBytes (c : CamTable) : Bytes :=
  leI 4 c.start ++ leI 4 c.stop ++ le 2 c.flags ++ zeros 6 ++ (List.range 256).flatMap fun i => leI 4 (lget c.slave i 0)

def statBytes (t : TaskStat) : Bytes := le 4 t.last ++ le 4 t.longest ++ le 4 (sat32 t.runs) ++ le 4 (sat32 t.discarded)

/-- A block as BLOCK_READ returns it. -/
def blockBytes (s : State) : Blk → Bytes
  | .lcTable a => lcBytes (s.axis a).lcTable.toList
  | .plan a => planBytes s a
  | .fric a => fricBytes s a
  | .env a => envBytes s a
  | .latch a l => latchBytes (latchOf s a l)
  | .cmp a u => cmpBytes (cmpOf s a u)
  | .sealRef d => sealRefBytes s d
  | .sealResult d => sealResult s d
  | .subst f => fix 64 (s.station f).subst
  | .fsOut f => fix 64 (s.station f).sent
  | .verifyImage => match s.saf.verified with | some v => imageBytes v.2.1 | none => []
  | .sine t => sineBytes (sineTable s t)
  | .cam t => match vget s.tab.cams t none with | some c => camBytes c | none => zeros 1040
  | .taskStats => (List.range 24).flatMap fun i => statBytes (vget s.logic.stats i TaskStat.zero)
  | .roleKey _ => zeros 32

/-- Size of a block (R330). -/
def blockSize (s : State) : Blk → Nat
  | .lcTable _ | .plan _ | .fric _ => 256
  | .env _ => 3088
  | .latch _ _ | .sealRef _ | .roleKey _ => 32
  | .cmp _ _ => 16
  | .sealResult _ => 56
  | .subst _ | .fsOut _ => 64
  | .verifyImage => (blockBytes s .verifyImage).length
  | .sine _ => 512
  | .cam _ => 1040
  | .taskStats => 384

/-! ## Status entries -/

/-- The doorway entry (R305). -/
def doorEntry (s : State) (d : Nat) : Bytes :=
  let x := s.door d
  let flags := ofBits [proven s .ibex d && proven s .chamois d, x.released, isolatedState x, x.latch, x.suspend.any,
                       x.waitSince.isSome, s.dwp d .side = 1]
  let pos (sl : Nat) : Bytes :=
    if s.slotOn d sl && posValid s (axisOf d sl) then leI 4 (satI 32 (posUm s (axisOf d sl))) else [0, 0, 0, 0x80]
  le 1 d ++ le 1 x.shown.code ++ le 1 x.leaf.code ++ le 1 (stepShown s d).code ++ le 2 flags ++ le 1 x.obstCount
    ++ [x.obstCause] ++ le 2 (learnState s d) ++ (List.range 3).flatMap (fun sl => le 1 (s.axis (axisOf d sl)).drive.state.code)
    ++ zeros 3 ++ (List.range 3).flatMap pos ++ le 4 x.cycles

/-- The motion reply (R306). -/
def motionEntry (s : State) (a : Nat) : Bytes :=
  let x := s.axis a
  le 4 x.plan.seq ++ le 1 x.drive.state.code ++ le 1 (b2n x.queued.isSome) ++ [0, 0]

/-- Seconds and nanoseconds of module time. -/
def timeBytes (s : State) : Bytes := le 8 (nowNs s / 1000000000) ++ le 4 (nowNs s % 1000000000)

/-- EVENT_POLL (R303). -/
def pollBytes (s : State) : Bytes :=
  le 4 s.ev.raiseSeq ++ zeros 4 ++ bitBytes s.ev.pending.toList ++ bitBytes s.ev.sticky.toList ++ timeBytes s
    ++ le 4 (b2n (timeTrusted s))

/-- JRN_STATS (R309). -/
def statsBytes (s : State) : Bytes :=
  let degraded := (List.range 4).any fun r => (s.region r).state != .normal
  le 4 (b2n degraded) ++ (List.range 5).flatMap fun r =>
    le 1 r ++ le 1 (s.region r).state.code ++ [0, 0] ++ le 8 (oldest s r) ++ le 8 (newest s r) ++ le 4 (capacity r)

/-- TIME_STATUS (R311). -/
def timeStatusBytes (s : State) : Bytes :=
  let net (n : Nat) : Bytes :=
    let c := s.clock n
    le 1 (ptpState s n) ++ zeros 3 ++ leI 8 c.offset ++ le 4 (pathDelayNs s n)
      ++ leI 8 ((c.refused.map Prod.fst).getD 0)
  le 1 s.time.trusted
    ++ le 1 (b2n (s.time.deciding.isSome || (s.clock 0).distrusted || (s.clock 1).distrusted) + 2 * b2n ((s.clock 0).refused.isSome || (s.clock 1).refused.isSome))
    ++ [0, 0] ++ timeBytes s ++ net 0 ++ net 1

/-- HERD_STATUS (R312). -/
def herdStatusBytes (s : State) : Bytes :=
  let h := s.herd
  le 1 h.role.code ++ le 1 h.master ++ le 1 h.standby ++ le 1 (s.herdN .member) ++ le 4 h.epoch ++ le 4 h.term
    ++ le 4 h.present ++ le 8 h.cycle ++ le 1 h.mode.code ++ le 1 s.effMode.code ++ [0, 0]

/-- GRAZE_REPORT (R313). -/
def grazeBytes (s : State) : Bytes :=
  le 2 12 ++ [0, 0] ++ (List.range 12).flatMap fun i =>
    let g := grazeItem s (i + 1)
    le 2 (i + 1) ++ le 1 g.result ++ le 1 (coverPct s (i + 1)) ++ le 8 g.lastRun ++ le 4 (sat32 g.fails)

/-- HELLO (R293), without the nonce. -/
def helloBytes (s : State) (nonce : Bytes) : Bytes :=
  let has (r : Nat) : Bool := (vget s.net.keys r none).isSome
  le 1 s.boot.orderCode ++ le 1 s.boot.defaultSet ++ le 1 (s.herdN .member) ++ le 1 s.herd.role.code
    ++ le 4 (vget s.boot.fwVersion s.boot.activeBank 0) ++ fix 8 s.boot.serial ++ nonce
    ++ le 1 (ofBits [false, has 1, has 2, has 3]) ++ le 1 s.herd.mode.code ++ [0, 0]

end Sys2Proof.Machine
end

