-- ==== Sys2Proof/Machine/Blocks.lean ====
section
/-! DEFINITION. The block library of the logic plan (R262 to R264): pin types and data sizes of every type, and one
execution of an instance. BOOL travels as the word 0 or 1. -/

namespace Sys2Proof.Machine

/-! ## Pins and sizes (R264); pin types coded as NUM_TYPE: 0 BOOL, 1 DINT, 2 UDINT, 3 REAL -/

/-- Types with the N_IN field. -/
def hasMany (t : Nat) : Bool := [0x00, 0x01, 0x02, 0x0E, 0x10, 0x15, 0x16, 0x1F, 0x21, 0x22, 0x23, 0x28].contains t

def inPins (i : Inst) : List Nat :=
  let n := i.num
  let many (t : Nat) : List Nat := List.replicate i.nIn t
  match i.type with
  | 0x00 | 0x01 | 0x02 | 0x28 => many 0
  | 0x03 | 0x06 | 0x07 | 0x30 | 0x36 | 0x37 | 0x38 => [0]
  | 0x04 | 0x05 => [0, 0]
  | 0x08 | 0x09 | 0x0A => [0, 1]
  | 0x0B | 0x0C => [0, 0, 1]
  | 0x0D => [0, 0, 0, 0, 1]
  | 0x0E | 0x10 | 0x15 | 0x16 => many n
  | 0x0F | 0x11 | 0x12 | 0x18 | 0x19 | 0x1A | 0x1B | 0x1C | 0x1D => [n, n]
  | 0x13 | 0x14 | 0x29 | 0x33 => [n]
  | 0x17 | 0x2C => [n, n, n]
  | 0x1E => [0, n, n]
  | 0x1F => 2 :: many n
  | 0x20 => [0, n]
  | 0x21 | 0x22 | 0x23 => many 2
  | 0x24 => [2]
  | 0x25 | 0x26 | 0x27 => [2, 2]
  | 0x2A => [3]
  | 0x2B => [3, 3, 3, 3, 3]
  | 0x2D => [3, 1]
  | 0x2E => [0, 1, 1]
  | 0x3E => [0, 2]
  | 0x3F => [3, 3]
  | _ => []

def outPins (i : Inst) : List Nat :=
  let n := i.num
  match i.type with
  | 0x08 | 0x09 | 0x0A | 0x0B | 0x0C => [0, 1]
  | 0x0D => [0, 0, 1]
  | 0x0E | 0x0F | 0x10 | 0x11 | 0x12 | 0x2A | 0x32 | 0x3A => [n, 0]
  | 0x13 | 0x14 | 0x15 | 0x16 | 0x17 | 0x1E | 0x1F | 0x20 => [n]
  | 0x21 | 0x22 | 0x23 | 0x24 | 0x25 | 0x26 | 0x28 => [2]
  | 0x29 | 0x2D | 0x3F => [3]
  | 0x2B => [3, 0]
  | 0x2F | 0x30 | 0x36 | 0x37 | 0x38 => [0, 2]
  | 0x31 => [2, 2]
  | 0x33 => []
  | 0x34 => [2, 0, 0]
  | 0x35 => [2, 2, 2, 0, 0, 0]
  | 0x39 => [1, 1, 1, 2]
  | 0x3B => [2, 2, 0]
  | 0x3C => [2, 2, 2, 2]
  | 0x3D => [0, 0, 2, 2]
  | _ => [0]

/-- The Data column: bytes of instance data, by type. -/
def dataSizes : List Nat :=
  [4, 4, 4, 4, 4, 4, 8, 8, 12, 12, 16, 16, 16, 20, 8, 8] ++ [8, 8, 8, 4, 4, 4, 4, 4, 4, 4, 4, 4, 4, 4, 4, 4]
  ++ [4, 4, 4, 4, 4, 4, 4, 4, 4, 4, 8, 8, 4, 4, 12, 8] ++ [8, 12, 8, 4, 12, 24, 12, 12, 12, 16, 8, 12, 16, 16, 8, 8]
def dataSize (t : Nat) : Nat := lget dataSizes t 0

/-- Place of a station block (PARAM1): byte, size code, bit number, and its first and last bit in the image. -/
def stByte (i : Inst) : Nat := i.p1 % 64
def stSize (i : Inst) : Nat := i.p1 / 256 % 4
def stBit (i : Inst) : Nat := i.p1 / 4096 % 8
def stBits (i : Inst) : Nat × Nat :=
  let f := 8 * stByte i
  match stSize i with
  | 0 => (f + stBit i, f + stBit i)
  | 1 => (f, f + 7)
  | 2 => (f, f + 15)
  | _ => (f, f + 31)

/-- Whether NUM_TYPE and N_IN are permitted for the type (R265 detail 3). -/
def numOk (i : Inst) : Bool :=
  let n := i.num
  let num := n = 1 || n = 2 || n = 3
  let nin := if hasMany i.type then 2 ≤ i.nIn && i.nIn ≤ 8 else i.nIn = 0
  nin && n ≤ 3 && (match i.type with
    | 0x0E | 0x0F | 0x10 | 0x11 | 0x13 | 0x15 | 0x16 | 0x17 | 0x18 | 0x19 | 0x1A | 0x1B | 0x1C | 0x1D | 0x1E | 0x1F
    | 0x20 | 0x2C | 0x3A => num
    | 0x12 | 0x29 | 0x2A => n = 1 || n = 2
    | 0x14 => n = 1 || n = 3
    | 0x32 | 0x33 => (stSize i = 0) == (n = 0)
    | _ => true)

/-! ## Arithmetic (R262) -/

def numVal (n : Nat) (w : Word32) : Int := if n = 1 then toSigned 32 w.toNat else (w.toNat : Int)
def numLo (n : Nat) : Int := if n = 1 then -0x80000000 else 0
def numHi (n : Nat) : Int := if n = 1 then 0x7FFFFFFF else 0xFFFFFFFF
def ofI (x : Int) : Word32 := BitVec.ofInt 32 x
def ofB (b : Bool) : Word32 := if b then 1 else 0
/-- A result bounded to its type, with ERR where it was outside. -/
def satNum (n : Nat) (x : Int) : Word32 × Bool :=
  let y := clampI (numLo n) (numHi n) x
  (ofI y, decide (y ≠ x))

/-- The numbers of a list of operands, as integers. -/
def ints (n : Nat) (l : List Word32) : List Int := l.map (numVal n)

def numLt (n : Nat) (x y : Word32) : Bool := if n = 3 then f32Lt x y else decide (numVal n x < numVal n y)
def numEq (n : Nat) (x y : Word32) : Bool := if n = 3 then f32Eq x y else decide (x = y)
def numLe (n : Nat) (x y : Word32) : Bool := numLt n x y || numEq n x y

/-- Value left open: a block whose result the spec does not state for its operands. -/
def openWord (place : Nat) (l : List Word32) : Word32 :=
  BitVec.ofInt 32 (Config.open_ place (l.map fun x => (x.toNat : Int)))
def openBool (place : Nat) (l : List Word32) : Bool := (openWord place l).getLsbD 0

/-- MIN and MAX; with a NaN among the operands, or two zeros of unlike sign as the answer, the result is open. -/
def extremum (n : Nat) (least : Bool) (l : List Word32) : Word32 :=
  let pick := fun m y => if (if least then numLt n y m else numLt n m y) then y else m
  let r := l.foldl pick (lget l 0 0)
  if n = 3 && l.any f32Nan then openWord 901 l
  else if n = 3 && f32Zero r && l.any (· = 0) && l.any (· = 0x80000000) then f32Sign (openBool 902 l) 0
  else r

/-- DIV and MOD (R262): division by zero gives 0 and ERR; truncation toward zero; MOD takes the sign of IN0. -/
def divide (n : Nat) (x y : Word32) : Word32 × Bool :=
  if n = 3 then (let q := f32Div x y; (q, f32Zero y || f32Bad q))
  else if y = 0 then (0, true) else satNum n (Int.tdiv (numVal n x) (numVal n y))
def modulo (n : Nat) (x y : Word32) : Word32 × Bool :=
  if y = 0 then (0, true) else satNum n (Int.tmod (numVal n x) (numVal n y))

/-! ## Timers (R263) -/

/-- A preset in ms: a negative one counts as 0. -/
def preset (w : Word32) : Int := max 0 (toSigned 32 w.toNat)
/-- An elapsed time stops at its preset and otherwise saturates. -/
def advanceEt (et pt : Int) (dt : Nat) : Int :=
  if et ≤ pt then min pt (et + dt) else min 0x7FFFFFFF (et + dt)

/-! ## One execution -/

/-- What an execution knows beside its inputs: slots since the previous execution, task period in ms (0 for an event task),
trigger tag, slot count. -/
structure BlockCtx where
  dt : Nat
  period : Nat
  tag : Nat
  slot : Nat

/-- Outputs, state words and effects (kind, value) of one execution. Kinds: 0 pin command, 1 open, 2 close, 3 hold, 4 lift
of a hold, 5 station output, 6 journal mark. -/
abbrev BlockOut := List Word32 × List Word32 × List (Nat × Word32)

/-- Counters, timers, edges and flip-flops: 0x03 to 0x0D. -/
def evalTimed (i : Inst) (x : InstData) (ins : List Word32) (c : BlockCtx) : BlockOut :=
  let a := lget ins 0 0
  let b := lget ins 1 0
  let on := a ≠ 0
  let q := lget x.outs 0 0 ≠ 0
  let et := toSigned 32 (lget x.outs 1 0).toNat
  let pt := preset b
  let prev := lget x.st 0 0 ≠ 0
  match i.type with
  | 0x03 => ([ofB (!on)], [], [])
  | 0x04 => ([ofB (on || (q && b = 0))], [], [])
  | 0x05 => ([ofB (b = 0 && (on || q))], [], [])
  | 0x06 =>
    let prev := if x.first then bit i.p0 0 && on else prev
    ([ofB (on && !prev)], [ofB on], [])
  | 0x07 =>
    let prev := if x.first then !bit i.p0 0 || on else prev
    ([ofB (!on && prev)], [ofB on], [])
  | 0x08 =>
    let t := if !on then 0 else if prev then advanceEt et pt c.dt else 0
    ([ofB (on && decide (pt ≤ t)), ofI t], [ofB on], [])
  | 0x09 =>
    let t := if on then 0 else if q then (if prev then 0 else advanceEt et pt c.dt) else et
    ([ofB (on || (q && decide (t < pt))), ofI t], [ofB on], [])
  | 0x0A =>
    let t := if q then advanceEt et pt c.dt else et
    let still := q && decide (t < pt)
    let start := !still && on && !prev
    let t := if start then 0 else t
    ([ofB (still || (start && decide (0 < pt))), ofI t], [ofB on, 0], [])
  | 0x0B =>
    let pv := toSigned 32 (lget ins 2 0).toNat
    let up := on && !prev
    let cv := if b ≠ 0 then 0 else if up then min 0x7FFFFFFF (et + 1) else et
    ([ofB (decide (pv ≤ cv)), ofI cv], [ofB on, 0], [])
  | 0x0C =>
    let pv := toSigned 32 (lget ins 2 0).toNat
    let down := on && !prev
    let cv := if b ≠ 0 then pv else if down then max (-0x80000000) (et - 1) else et
    ([ofB (decide (cv ≤ 0)), ofI cv], [ofB on, 0], [])
  | _ =>
    let pv := toSigned 32 (lget ins 4 0).toNat
    let cv := toSigned 32 (lget x.outs 2 0).toNat
    let up := on && !prev
    let down := b ≠ 0 && lget x.st 1 0 = 0
    let cv := if lget ins 2 0 ≠ 0 then 0 else if lget ins 3 0 ≠ 0 then pv
              else clampI (-0x80000000) 0x7FFFFFFF (cv + b2i up - b2i down)
    ([ofB (decide (pv ≤ cv)), ofB (decide (cv ≤ 0)), ofI cv], [ofB on, ofB (b ≠ 0)], [])

/-- Arithmetic, comparison and selection: 0x0E to 0x20. -/
def evalNum (i : Inst) (x : InstData) (ins : List Word32) : BlockOut :=
  let n := i.num
  let a := lget ins 0 0
  let b := lget ins 1 0
  let d := lget ins 2 0
  let real := n = 3
  let two (r : Word32 × Bool) : BlockOut := ([r.1, ofB r.2], [], [])
  let one (w : Word32) : BlockOut := ([w], [], [])
  let fl (w : Word32) : Word32 × Bool := (w, f32Bad w)
  match i.type with
  | 0x0E => two (if real then fl ((ins.drop 1).foldl f32Add a) else satNum n (ints n ins).sum)
  | 0x0F => two (if real then fl (f32Sub a b) else satNum n (numVal n a - numVal n b))
  | 0x10 => two (if real then fl ((ins.drop 1).foldl f32Mul a) else satNum n (ints n ins).prod)
  | 0x11 => two (divide n a b)
  | 0x12 => two (modulo n a b)
  | 0x13 => one (if real then f32Abs a else (satNum n (absI (numVal n a))).1)
  | 0x14 => one (if real then f32NegOf a else (satNum n (-(numVal n a))).1)
  | 0x15 => one (extremum n true ins)
  | 0x16 => one (extremum n false ins)
  | 0x17 =>
    if real && (f32Nan a || f32Nan b || f32Nan d) then one (openWord 903 ins)
    else one (if numLt n d a then a else if numLt n b a then a else if numLt n d b then d else b)
  | 0x18 => one (ofB (numEq n a b))
  | 0x19 => one (ofB (!numEq n a b))
  | 0x1A => one (ofB (numLt n b a))
  | 0x1B => one (ofB (numLe n b a))
  | 0x1C => one (ofB (numLt n a b))
  | 0x1D => one (ofB (numLe n a b))
  | 0x1E => one (if a ≠ 0 then d else b)
  | 0x1F => one (if a.toNat < i.nIn then lget ins (a.toNat + 1) 0 else 0)
  | _ => one (if a ≠ 0 then b else lget x.outs 0 0)

/-- Bits, conversion and analogue blocks: 0x21 to 0x2E and 0x3F. -/
def evalBits (i : Inst) (x : InstData) (ins : List Word32) (c : BlockCtx) : BlockOut :=
  let n := i.num
  let a := lget ins 0 0
  let b := lget ins 1 0
  let d := lget ins 2 0
  let q := lget x.outs 0 0
  let one (w : Word32) : BlockOut := ([w], [], [])
  match i.type with
  | 0x21 => one ((ins.drop 1).foldl (· &&& ·) a)
  | 0x22 => one ((ins.drop 1).foldl (· ||| ·) a)
  | 0x23 => one ((ins.drop 1).foldl (· ^^^ ·) a)
  | 0x24 => one (~~~a)
  | 0x25 => one (if b.toNat < 32 then a <<< b.toNat else 0)
  | 0x26 => one (if b.toNat < 32 then a >>> b.toNat else 0)
  | 0x27 => one (ofB (a.getLsbD b.toNat))
  | 0x28 => one (BitVec.ofNat 32 (ofBits (ins.map (· ≠ 0))))
  | 0x29 => one (f32FromInt (numVal n a))
  | 0x2A => let r := f32ToInt (numLo n) (numHi n) a; ([ofI r.1, ofB r.2], [], [])
  | 0x2B =>
    let lo := lget ins 3 0
    if f32Eq b d then ([lo, 1], [], [])
    else
      let r := f32Add lo (f32Div (f32Mul (f32Sub a b) (f32Sub (lget ins 4 0) lo)) (f32Sub d b))
      ([r, ofB (f32Bad r)], [], [])
  | 0x2C =>
    let set := numLe n b a
    let clr := numLe n a d
    one (ofB (if set && clr then openBool 904 ins else if set then true else if clr then false else q ≠ 0))
  | 0x2D =>
    if x.first then one a
    else
      let tc := preset b
      one (f32Add q (f32Div (f32Mul (f32Sub a q) (f32FromInt c.period)) (f32FromInt (tc + c.period))))
  | 0x2E =>
    let tOn := preset b
    let tOff := preset d
    let all := tOn + tOff
    if a = 0 then ([0], [0, 0], [])
    else
      let p : Int := if lget x.st 1 0 ≠ 0 then ((lget x.st 0 0).toNat : Int) + c.dt else 0
      let p := if all = 0 then 0 else p % all
      ([ofB (if all = 0 then openBool 905 ins else decide (p < tOn))], [ofI p, 1], [])
  | _ =>
    if x.first then ([a], [0], [])
    else if f32Nan a || f32Nan b || f32Nan q || f32Lt b 0 then ([openWord 906 [a, b, q]], [0], [])
    else
      let step := f32Div (f32Mul b (f32FromInt c.dt)) (f32FromInt 1000)
      let w := if f32Eq a q || numLe 3 (f32Abs (f32Sub a q)) step then a
               else if f32Lt q a then f32Add q step else f32Sub q step
      ([w], [0], [])

/-- The number read at a station block's place. -/
def stationRead (i : Inst) (img : Bytes) : Word32 :=
  match stSize i with
  | 0 => ofB (bit (rd img (stByte i) 1) (stBit i))
  | 1 => BitVec.ofNat 32 (rd img (stByte i) 1)
  | 2 => BitVec.ofNat 32 (rd img (stByte i) 2)
  | _ => BitVec.ofNat 32 (rd img (stByte i) 4)
/-- The image with a number written there. -/
def stationWrite (i : Inst) (w : Word32) (img : Bytes) : Bytes :=
  let o := stByte i
  match stSize i with
  | 0 =>
    let old := lget img o 0
    let m : Byte := 1#8 <<< stBit i
    splice img o [if w ≠ 0 then old ||| m else old &&& ~~~m]
  | 1 => splice img o (le 1 w.toNat)
  | 2 => splice img o (le 2 w.toNat)
  | _ => splice img o (le 4 w.toNat)

/-- The sides of the car that the herd grants (R62). -/
def carGrant (s : State) : Nat :=
  ofBits ([0, 1].map fun side => s.herd.role == .solo || s.herd.grant.getLsbD (trainSide s side))

/-- The value that PARAM_GET gives for a key: the number in the type of the instance, and OK. -/
def paramGet (s : State) (i : Inst) : Word32 × Bool :=
  match keyOf i.p0 with
  | some (.scalar p) =>
    let v := view s p
    (if i.num = 3 then f32FromInt v else ofI v, true)
  | _ => (0, false)

/-- Blocks that read the machine or request something of it: 0x2F to 0x3E. -/
def evalWorld (s : State) (i : Inst) (x : InstData) (ins : List Word32) (c : BlockCtx) : BlockOut :=
  let n := i.p0
  let w (k : Nat) : Word32 := BitVec.ofNat 32 k
  let a := lget ins 0 0
  let prev := lget x.st 0 0 ≠ 0
  let rise := a ≠ 0 && !prev
  match i.type with
  | 0x2F => ([ofB (bit (pinValue s n) 0), w (pinStatus s n)], [], [])
  | 0x30 => ([ofB (bit (pinValue s n) 0), w (pinStatus s n)], [], [(0, a)])
  | 0x31 =>
    let cv := w (s.pin n).counter
    ([cv, cv - lget x.st 0 0], [cv], [])
  | 0x32 => ([stationRead i (s.station n).seen, ofB ((s.station n).state == .run)], [], [])
  | 0x33 => ([], [a], [(5, a)])
  | 0x34 =>
    let st := stationStatus s n
    ([w (st / 8192), ofB (bit st 9), ofB ((s.station n).state == .run)], [], [])
  | 0x35 =>
    let d := s.door n
    ([w d.shown.code, w d.leaf.code, w (stepShown s n).code, ofB d.released, ofB (provenBoth s n), ofB (isolatedState d)], [], [])
  | 0x36 => ([ofB x.reqDone, w x.req], [a], if rise then [(1, 1)] else [])
  | 0x37 => ([ofB x.reqDone, w x.req], [a], if rise then [(2, 1)] else [])
  | 0x38 =>
    ([ofB ((s.door n).suspend.byPlan.contains i.id), w x.req], [a],
     if rise then [(3, 1)] else if a = 0 && prev then [(4, 1)] else [])
  | 0x39 => ([ofI (view s (.ax n .pos)), ofI (view s (.ax n .speed)), ofI (view s (.ax n .forceF)), ofI (view s (.ax n .driveState))],
             [], [])
  | 0x3A => let r := paramGet s i; ([r.1, ofB r.2], [], [])
  | 0x3B =>
    let pairs := ofBits ((List.range 32).map fun p => pairResult s .ibex p == .active)
    let loops := ((List.range 4).map fun o => (soStatus s o % 8) * 2 ^ (4 * o)).sum
    ([w pairs, w loops, ofB s.saf.lanes.safe], [], [])
  | 0x3C => ([w s.herd.role.code, w s.effMode.code, w s.herd.epoch, w (carGrant s)], [], [])
  | 0x3D => ([ofB x.first, ofB s.logic.warmLast, w c.tag, w c.slot], [], [])
  | _ => ([ofB rise], [a], if rise then [(6, lget ins 1 0)] else [])

/-- One execution of an instance. -/
def evalBlock (s : State) (i : Inst) (x : InstData) (ins : List Word32) (c : BlockCtx) : BlockOut :=
  if i.type = 0x00 then ([ofB (ins.all (· ≠ 0))], [], [])
  else if i.type = 0x01 then ([ofB (ins.any (· ≠ 0))], [], [])
  else if i.type = 0x02 then ([ofB ((ins.filter (· ≠ 0)).length % 2 = 1)], [], [])
  else if i.type ≤ 0x0D then evalTimed i x ins c
  else if i.type ≤ 0x20 then evalNum i x ins
  else if i.type ≤ 0x2E || i.type = 0x3F then evalBits i x ins c
  else evalWorld s i x ins c

end Sys2Proof.Machine
end

