-- ==== Sys2Proof/Machine/PlanImage.lean ====
section
/-! DEFINITION. The plan image (R265 to R269), its checks in the order of the detail numbers, and the cone CRC of R280. -/

namespace Sys2Proof.Machine

/-- Periods of cyclic tasks by code, in ms (R267). -/
def periods : List Nat := [1, 2, 5, 10, 20, 50, 100, 1000]
def Task.period (t : Task) : Nat := if t.event then 0 else lget periods t.mode 1

/-- The task with a TASK index: 0 to 7 cyclic, 8 + k event task k (R268). -/
def PlanImg.taskOf (p : PlanImg) (t : Nat) : Option Task :=
  if t < 8 then (if t < p.nCyclic then p.tasks[t]? else none) else p.tasks[p.nCyclic + (t - 8)]?
/-- TASK indices of the plan in table order. -/
def PlanImg.indices (p : PlanImg) : List Nat :=
  (List.range p.tasks.length).map fun i => if i < p.nCyclic then i else 8 + (i - p.nCyclic)

/-- The field task: the cyclic task of lowest number whose period is the field cycle (R247). -/
def fieldTaskOf (p : PlanImg) (cycleMs : Nat) : Option Nat :=
  (List.range p.nCyclic).find? fun t => (p.tasks[t]?.map Task.period) == some cycleMs

/-! ## Reading the image -/

structure PlanHead where
  nInst : Nat
  nConn : Nat
  nCyc : Nat
  nEv : Nat
  err : Nat
  dataLen : Nat
  retainLen : Nat
  constLen : Nat
  oTask : Nat
  oInst : Nat
  oConn : Nat
  oConst : Nat

def planHead (b : Bytes) : PlanHead :=
  { nInst := rd b 20 2, nConn := rd b 22 2, nCyc := rd b 24 1, nEv := rd b 25 1, err := rd b 26 1, dataLen := rd b 28 4,
    retainLen := rd b 32 4, constLen := rd b 36 4, oTask := rd b 40 4, oInst := rd b 44 4, oConn := rd b 48 4,
    oConst := rd b 52 4 }

def readTask (b : Bytes) (o : Nat) : Task :=
  { event := rd b o 1 = 1, mode := rd b (o + 1) 1, prio := rd b (o + 2) 1, budget := rd b (o + 4) 4, first := rd b (o + 8) 2,
    n := rd b (o + 10) 2, arg := rd b (o + 12) 2 }
def readInst (b : Bytes) (o : Nat) : Inst :=
  { id := rd b o 4, type := rd b (o + 4) 1, num := rd b (o + 5) 1, nIn := rd b (o + 6) 1, retain := bit (rd b (o + 7) 1) 0,
    task := rd b (o + 8) 2, dataOfs := rd b (o + 12) 4, p0 := rd b (o + 16) 4, p1 := rd b (o + 20) 4 }
def readConn (b : Bytes) (o pool : Nat) : Conn :=
  { dst := rd b o 2, dstPin := rd b (o + 2) 1,
    const := if rd b (o + 3) 1 = 1 then some (BitVec.ofNat 32 (rd b (pool + rd b (o + 8) 4) 4)) else none,
    src := rd b (o + 4) 2, srcPin := rd b (o + 6) 1 }

/-- The contents of an image of n sections, in table order. -/
def rows {α : Type} (n size o : Nat) (f : Nat → α) : List α := (List.range n).map fun i => f (o + size * i)

def readPlan (b : Bytes) : PlanImg :=
  let h := planHead b
  { id := rd b 8 4, version := rd b 12 4, crc := rd b (b.length - 4) 4,
    tasks := rows (h.nCyc + h.nEv) 16 h.oTask (readTask b), nCyclic := h.nCyc,
    errorTask := if h.err = 255 then none else some h.err,
    insts := rows h.nInst 24 h.oInst (readInst b), conns := rows h.nConn 12 h.oConn fun o => readConn b o h.oConst,
    safetyPins := (List.range 112).map fun n => bit (rd b (56 + n / 8) 1) (n % 8), dataLen := h.dataLen,
    retainLen := h.retainLen }

/-! ## The checks (R265) -/

/-- Sections in the order of their offsets, aligned, inside the image and apart. -/
def sectionsOk (h : PlanHead) (len : Nat) : Bool :=
  let parts := [(h.oTask, 16 * (h.nCyc + h.nEv)), (h.oInst, 24 * h.nInst), (h.oConn, 12 * h.nConn), (h.oConst, h.constLen)]
  let apart (x y : Nat × Nat) : Bool := x.1 + x.2 ≤ y.1 || y.1 + y.2 ≤ x.1
  parts.all (fun x => x.1 % 4 = 0 && 80 ≤ x.1 && x.1 + x.2 + 4 ≤ len)
    && parts.zipIdx.all fun x => parts.zipIdx.all fun y => x.2 == y.2 || apart x.1 y.1

def check1 (b : Bytes) : Bool :=
  84 ≤ b.length && b.take 4 = [0x4B, 0x5A, 0x4C, 0x50] && rd b 4 2 = 1 && rd b 16 4 = b.length
    && sectionsOk (planHead b) b.length && rd b (b.length - 4) 4 = crc32c (b.take (b.length - 4))

def check2 (b : Bytes) : Bool :=
  let h := planHead b
  1 ≤ h.nInst && h.nInst ≤ 4096 && h.nConn ≤ 32768 && 1 ≤ h.nCyc && h.nCyc ≤ 8 && h.nEv ≤ 16 && h.dataLen ≤ 65536
    && h.retainLen ≤ 16384 && h.constLen ≤ 65536 && h.constLen % 4 = 0 && b.length ≤ 655360 && rd b 8 4 ≠ 0

def check3 (p : PlanImg) : Bool := p.insts.all fun i => i.type ≤ 0x3F && numOk i

/-- Whether no two of the ranges (start, length) overlap. -/
def disjoint (l : List (Nat × Nat)) : Bool :=
  l.zipIdx.all fun x => l.zipIdx.all fun y => y.2 ≤ x.2 || x.1.1 + x.1.2 ≤ y.1.1 || y.1.1 + y.1.2 ≤ x.1.1

def check4 (p : PlanImg) : Bool :=
  p.insts.all (fun i => i.dataOfs % 4 = 0 && i.dataOfs + dataSize i.type ≤ p.dataLen)
    && disjoint (p.insts.map fun i => (i.dataOfs, dataSize i.type))
    && ((p.insts.filter Inst.retain).map fun i => dataSize i.type).sum = p.retainLen

def inType (p : PlanImg) (i pin : Nat) : Option Nat := (p.insts[i]?).bind fun x => (inPins x)[pin]?
def outType (p : PlanImg) (i pin : Nat) : Option Nat := (p.insts[i]?).bind fun x => (outPins x)[pin]?

def check5 (b : Bytes) (p : PlanImg) : Bool :=
  let h := planHead b
  let kinds := rows h.nConn 12 h.oConn fun o => (rd b (o + 3) 1, rd b (o + 8) 4)
  kinds.all (fun k => k.1 = 0 || (k.1 = 1 && k.2 + 4 ≤ h.constLen))
    && p.conns.all (fun c => (inType p c.dst c.dstPin).isSome
         && (c.const.isSome || outType p c.src c.srcPin == inType p c.dst c.dstPin))
    && (p.conns.map fun c => (c.dst, c.dstPin)).Nodup

def check6 (p : PlanImg) : Bool := p.insts.all (fun i => i.id ≠ 0) && (p.insts.map Inst.id).Nodup

def check7 (s : State) (p : PlanImg) : Bool :=
  let outs := (p.insts.filter fun i => i.type = 0x30).map Inst.p0
  outs.all (fun n => 112 ≤ n || ownedBy s n 0) && outs.Nodup

def isStation (i : Inst) : Bool := 0x32 ≤ i.type && i.type ≤ 0x34

def check8 (s : State) (p : PlanImg) : Bool :=
  let field := fieldTaskOf p (s.modN .flCycleMs)
  p.insts.all fun i => !isStation i || (field.isSome && (field == some i.task || (p.errorTask.map (8 + ·)) == some i.task))

def check9 (p : PlanImg) : Bool :=
  p.insts.all fun i => i.type ≠ 0x3A || (match keyOf i.p0 with | some (.scalar _) => true | _ => false)

def check10 (p : PlanImg) : Bool :=
  p.tasks.all (fun t => 10 ≤ t.budget && t.budget ≤ 50000 && (if t.event then t.budget ≤ 1000 else 2 * t.budget ≤ 1000 * t.period))
    && decide (((p.tasks.filter fun t => !t.event).map fun t => (t.budget : Rat) / (1000 * t.period : Nat)).sum ≤ 3 / 10)

/-- Indices in PARAM0, trigger pins, pin modes and places in a station image (detail 11). -/
def check11 (s : State) (p : PlanImg) : Bool :=
  p.insts.all (fun i =>
    match i.type with
    | 0x2F | 0x30 => i.p0 < 112
    | 0x31 => i.p0 < 112 && (pinMode s i.p0 = 3 || pinMode s i.p0 = 4)
    | 0x32 | 0x33 => i.p0 < 16 && (stBits i).2 < 512
    | 0x34 => i.p0 < 16
    | 0x35 | 0x36 | 0x37 | 0x38 => i.p0 < 8
    | 0x39 => i.p0 < 24
    | _ => true)
  && p.tasks.all fun t => !t.event || t.mode ≠ 2 || t.arg % 256 < 112

def check12 (p : PlanImg) : Bool :=
  disjoint ((p.insts.filter fun i => i.type = 0x33).map fun i =>
    (512 * i.p0 + (stBits i).1, (stBits i).2 + 1 - (stBits i).1))

/-- The task table (detail 13). -/
def check13 (b : Bytes) (p : PlanImg) : Bool :=
  let h := planHead b
  let kinds := rows (h.nCyc + h.nEv) 16 h.oTask fun o => rd b o 1
  kinds == List.replicate h.nCyc 0 ++ List.replicate h.nEv 1
    && p.tasks.all (fun t => t.prio ≤ 7 && (if t.event then t.mode ≤ 3 else t.mode ≤ 7)
         && (!t.event || t.mode ≠ 1 || t.arg ≤ 255) && (!t.event || t.mode ≠ 2 || (256 ≤ t.arg && t.arg < 1024)))
    && (match p.errorTask with
        | none => p.tasks.all fun t => !t.event || t.mode ≠ 3
        | some k => k < h.nEv && (p.tasks.drop h.nCyc).zipIdx.all fun t => (t.1.mode = 3) == (t.2 = k))
    && (p.tasks.map Task.n).sum = p.insts.length
    && p.indices.all fun ix => match p.taskOf ix with
        | none => false
        | some t => t.first + t.n ≤ p.insts.length && ((p.insts.drop t.first).take t.n).all fun i => i.task = ix

/-- The detail of PLAN_INVALID, 0 for a valid image. -/
def planDetail (s : State) (b : Bytes) : Nat :=
  let p := readPlan b
  if !check1 b then 1 else if !check2 b then 2 else if !check3 p then 3 else if !check4 p then 4
  else if !check5 b p then 5 else if !check6 p then 6 else if !check7 s p then 7 else if !check8 s p then 8
  else if !check9 p then 9 else if !check10 p then 10 else if !check11 s p then 11 else if !check12 p then 12
  else if !check13 b p then 13 else 0

/-! ## Safety-bound outputs (R274, R280) -/

def safetyBound (p : PlanImg) (i : Inst) : Bool :=
  i.type = 0x36 || i.type = 0x38 || (i.type = 0x30 && lget p.safetyPins i.p0 false)

def connTo (p : PlanImg) (dst pin : Nat) : Option Conn := p.conns.find? fun c => c.dst = dst && c.dstPin = pin

/-- Indices from which an index set is reached by one more connection. -/
def coneStep (p : PlanImg) (l : List Nat) : List Nat :=
  l ++ ((p.conns.filter fun c => c.const.isNone && l.contains c.dst && !l.contains c.src).map Conn.src).dedup

/-- The cone of an output. -/
def cone (p : PlanImg) (i : Nat) : List Nat := (List.range p.insts.length).foldl (fun l _ => coneStep p l) [i]

/-- The bytes of one cone instance. -/
def coneBytes (p : PlanImg) (k : Nat) : Bytes :=
  match p.insts[k]? with
  | none => []
  | some i =>
    let t := (p.taskOf i.task).getD ⟨false, 0, 0, 0, 0, 0, 0⟩
    le 4 i.id ++ le 1 i.type ++ le 1 i.num ++ le 1 i.nIn ++ le 1 (b2n i.retain) ++ le 4 i.p0 ++ le 4 i.p1 ++ le 1 t.mode
      ++ le 1 t.prio ++ (List.range (inPins i).length).flatMap fun pin =>
        match connTo p k pin with
        | none => []
        | some c =>
          le 1 pin ++ match c.const with
            | some w => le 4 w.toNat
            | none => le 4 ((p.insts[c.src]?.map Inst.id).getD 0) ++ le 1 c.srcPin

def coneCrc (p : PlanImg) (i : Nat) : Nat :=
  let l := (cone p i).mergeSort fun x y => (p.insts[x]?.map Inst.id).getD 0 ≤ (p.insts[y]?.map Inst.id).getD 0
  crc32c (l.flatMap (coneBytes p))

/-- Safety-bound outputs as (INST_ID, cone CRC), by identity. -/
def boundOutputs (p : PlanImg) : List (Nat × Nat) :=
  ((p.insts.zipIdx.filter fun x => safetyBound p x.1).map fun x => (x.1.id, coneCrc p x.2)).mergeSort fun x y => x.1 ≤ y.1

/-- Whether an exchange changes a safety-bound output (R280). -/
def changesBound (p q : PlanImg) : Bool := boundOutputs p ≠ boundOutputs q

end Sys2Proof.Machine
end

