-- ==== Sys2Proof/Machine/Logic.lean ====
section
/-! DEFINITION. The logic engine (R257 to R283): release, dispatch, one run of a task, handing over, overrun, control states,
retained data, online exchange, forcing. -/

namespace Sys2Proof.Machine

/-! ## What the engine knows -/

/-- Ibex runs and the start is complete. -/
def ibexRuns (s : State) : Bool := s.saf.lanes.ibexUp && s.boot.power == .on && s.boot.step = 0

/-- The packet engine runs from the end of step 2 of a start (R405): herd and time listen from then on (R417). -/
def listens (s : State) : Bool := s.saf.lanes.ibexUp && s.boot.power == .on && (s.boot.step = 0 || 3 ≤ s.boot.step)

def slotCount (g : Logic) : Nat := g.slot - 1
def fieldTask (s : State) : Option Nat := s.logic.active.bind fun p => fieldTaskOf p (s.modN .flCycleMs)
def anyStation (s : State) : Bool := (List.range 16).any fun f => s.fsp f .enable = 1
/-- The field task waits for its frame (R247 step 3). -/
def fieldWaits (s : State) : Bool := s.link.due || s.link.sentAt.isSome

def runningTask (g : Logic) (t : Nat) : Bool := g.running.any fun r => r.task = t
def readyTask (g : Logic) (t : Nat) : Bool := g.ready.any fun r => r.1 = t

/-- Priority of a task; the error task runs ahead of the field task (R271). -/
def prioOf (s : State) (p : PlanImg) (t : Nat) : Nat :=
  let own := ((p.taskOf t).map Task.prio).getD 7
  if p.errorTask.map (8 + ·) == some t then
    min own (((fieldTask s).bind fun f => (p.taskOf f).map Task.prio).getD 7)
  else own

/-- Order of ready tasks (R258, R271): priority, then error task, cyclic tasks, event tasks, by number. -/
def orderKey (s : State) (p : PlanImg) (t : Nat) : Nat :=
  100 * prioOf s p t + (if p.errorTask.map (8 + ·) == some t then 0 else 10 + t)

/-! ## Instance data -/

def InstData.init (i : Inst) : InstData :=
  { outs := List.replicate (outPins i).length 0, st := List.replicate (dataSize i.type / 4 - (outPins i).length) 0,
    first := true, lastSlot := 0, req := 0, reqDone := false }

/-- Data of the instance at a table index. -/
def dataAt (g : Logic) (p : PlanImg) (i : Nat) : InstData :=
  (g.data[i]?).getD (match p.insts[i]? with | some x => InstData.init x | none => ⟨[], [], true, 0, 0, false⟩)

/-! ## One run of a task (R260, R261) -/

/-- The value of an input: 0 where nothing is connected, the constant, this run's output of an instance that has run
already, else the output as of the source's last run. -/
def inputWord (g : Logic) (p : PlanImg) (done : List (Nat × InstData)) (i pin type : Nat) : Word32 :=
  let w := match connTo p i pin with
    | none => 0
    | some c =>
      match c.const with
      | some w => w
      | none =>
        match get done c.src with
        | some d => lget d.outs c.srcPin 0
        | none => lget (dataAt g p c.src).outs c.srcPin 0
  if type = 0 then ofB (w ≠ 0) else w

/-- Outputs with the forces on them (R281). -/
def forced (g : Logic) (id : Nat) (outs : List Word32) : List Word32 :=
  outs.zipIdx.map fun x =>
    match g.forces.find? fun f => f.1 = id && f.2.1 = x.2 with
    | some f => f.2.2
    | none => x.1

structure RunAcc where
  done : List (Nat × InstData)
  eff : List (Nat × Nat × Word32)

/-- One instance of a run. -/
def runInst (s : State) (p : PlanImg) (period tag : Nat) (step : Bool) (acc : RunAcc) (k : Nat) : RunAcc :=
  match p.insts[k]? with
  | none => acc
  | some i =>
    let g := s.logic
    let x := dataAt g p k
    let slot := slotCount g
    let ins := (inPins i).zipIdx.map fun t => inputWord g p acc.done k t.2 t.1
    let c : BlockCtx := { dt := if step then period else slot - x.lastSlot, period := period, tag := tag, slot := slot }
    let r := evalBlock s i x ins c
    let y := { x with outs := forced g i.id r.1, st := r.2.1, first := false, lastSlot := slot }
    { done := (k, y) :: acc.done, eff := acc.eff ++ r.2.2.map fun e => (i.id, e.1, e.2) }

/-- The whole run, with every input read now. -/
def taskRun (s : State) (p : PlanImg) (ix : Nat) (t : Task) (tag : Nat) (step : Bool) : TaskRun :=
  let acc := ((List.range t.n).map (t.first + ·)).foldl (runInst s p t.period tag step) ⟨[], []⟩
  { task := ix, tag := tag, after := acc.done.map fun x => (((p.insts[x.1]?).map Inst.id).getD 0, x.2), effects := acc.eff,
    stepMode := step }

/-- Start a run: a cyclic task's release or an event task's oldest trigger is consumed. -/
def startRun (ix : Nat) (step : Bool) (s : State) : State :=
  match s.logic.active with
  | none => s
  | some p =>
    match p.taskOf ix with
    | none => s
    | some t =>
      let q := if ix < 8 then [] else vget s.logic.triggers (ix - 8) []
      let r := taskRun s p ix t (lget q 0 0) step
      s.modLogic fun g =>
        { g with running := r :: g.running, ready := g.ready.filter fun x => x.1 ≠ ix,
                 triggers := if ix < 8 then g.triggers else vset g.triggers (ix - 8) (q.drop 1) }

/-- Tasks that could start now. -/
def candidates (s : State) (p : PlanImg) : List Nat :=
  let g := s.logic
  p.indices.filter fun t =>
    !runningTask g t &&
      (if t < 8 then readyTask g t && !(fieldTask s == some t && fieldWaits s)
       else vget g.triggers (t - 8) [] ≠ [])

/-- The best of a list by its order key. -/
def best (key : Nat → Nat) (l : List Nat) : Option Nat :=
  l.foldl (fun m t => match m with | none => some t | some x => if key t < key x then some t else some x) none

/-- Start what is due (R258): in RUN the best ready task, where nothing of its priority or above runs; in HOLD a run that
LOGIC_STEP asked for. -/
def dispatch (s : State) : State :=
  let g := s.logic
  match g.active with
  | none => s
  | some p =>
    if g.state == .run && !g.holdPending then
      match best (orderKey s p) (candidates s p) with
      | none => s
      | some t =>
        (match g.running with
         | [] => startRun t false s
         | r :: _ => if prioOf s p t < prioOf s p r.task then startRun t false s else s)
    else if g.state == .hold && g.running.isEmpty then
      match g.ready.find? fun x => x.2 = 1 && !(fieldTask s == some x.1 && fieldWaits s) with
      | some x => startRun x.1 true s
      | none => s
    else s

/-! ## Control states (R275, R276) -/

def doorReq (id d : Nat) (op : DoorOp) (s : State) : State :=
  let r : DoorReq := ⟨.plan id, op, d⟩
  if (s.reqs.filter fun x => x.src = .plan id).getLast? = some r then s else { s with reqs := s.reqs ++ [r] }

/-- A DOOR_HOLD that goes away lifts its suspension as for a falling edge. -/
def liftHold (i : Inst) (s : State) : State := if i.type = 0x38 then doorReq i.id i.p0 .holdLift s else s

/-- Entry into STOP. -/
def stopLogic (cause : Nat) (s : State) : State :=
  if s.logic.state == .stop then s
  else
    let s := match s.logic.active with
      | some p => p.insts.foldl (fun s i => liftHold i s) s
      | none => s
    s.modLogic fun g =>
      { g with state := .stop, holdPending := false, stopCause := cause, running := [], ready := [], late := [],
               triggers := .replicate 16 [], forces := [] }

/-- An overrun (R276): cause 1 budget, 2 release. A queued exchange is abandoned (R280). -/
def overrunTask (t cause : Nat) (s : State) : State :=
  let s := stopLogic cause s
  let s := s.modLogic fun g =>
    { g with overTask := t, exch := if g.exchQueued.isSome then 5 else g.exch, exchQueued := none }
  raise 207 (1 + 256 * t) s

/-- The mode conditions of HOLD and of forcing are tested again when the mode changes (R64, R275, R281). -/
def logicModeChange (s : State) : State :=
  let m := s.effMode
  if m == .maintenance || m == .test then s
  else
    let s := s.modLogic fun g => { g with forces := [] }
    if s.logic.state == .hold then stopLogic 3 s else s

/-! ## Retained data (R277) -/

def retainedValid (s : State) : Bool :=
  match s.logic.active, s.logic.retained with
  | some p, some r => r.1 = p.id && r.2.1 = p.version && r.2.2.1 = p.crc
  | _, _ => false

/-- The retained area of a plan with its present data. -/
def retainNow (p : PlanImg) (data : List InstData) : Nat × Nat × Nat × List (Nat × InstData) :=
  (p.id, p.version, p.crc, ((p.insts.zip data).filter fun x => x.1.retain).map fun x => (x.1.id, x.2))

/-- Start the active plan: RUN from slot count 0. A warm start without valid retained data is a cold one. -/
def startLogic (warm : Bool) (s : State) : State :=
  match s.logic.active with
  | none => s
  | some p =>
    let ok := retainedValid s
    let kept := if warm && ok then (match s.logic.retained with | some r => r.2.2.2 | none => []) else []
    let data := p.insts.map fun i =>
      match (if i.retain then get kept i.id else none) with
      | some d => { d with lastSlot := 0, reqDone := false }
      | none => InstData.init i
    s.modLogic fun g =>
      { g with state := .run, holdPending := false, slot := 0, data := data, ready := [], late := [], running := [],
               triggers := .replicate 16 [], forces := if warm && ok then g.forces else [], warmLast := warm && ok,
               retainOk := ok, retained := if warm && ok then g.retained else some (retainNow p data) }

/-! ## Online exchange (R278 to R280) -/

/-- The same identity in another plan: same INST_ID, TYPE and NUM_TYPE. -/
def matchInst (q : PlanImg) (i : Inst) : Option Inst := q.insts.find? fun j => j.id = i.id && j.type = i.type && j.num = i.num

/-- A changed safety-bound output is permitted in MAINTENANCE in a MAINTAINER session. -/
def mayChangeBound (s : State) (session : Nat) : Bool :=
  s.effMode == .maintenance && s.kcp.sessions.any fun x => x.id = session && 2 ≤ x.role

/-- Make the staged plan active with the matching of R279. -/
def applyExchange (session : Nat) (s : State) : State :=
  let g := s.logic
  match g.active, g.staged with
  | some p, some q =>
    if changesBound p q && !mayChangeBound s session then s.modLogic fun g => { g with exchQueued := none, exch := 4 }
    else
      let gone := p.insts.filter fun i => (matchInst q i).isNone
      let s := gone.foldl (fun s i => liftHold i (if i.type = 0x30 && ownedBy s i.p0 0 then safePin i.p0 s else s)) s
      let old := p.insts.zip ((List.range p.insts.length).map (dataAt g p))
      let data := q.insts.map fun j =>
        match old.find? fun x => x.1.id = j.id && x.1.type = j.type && x.1.num = j.num with
        | some x => x.2
        | none => { InstData.init j with lastSlot := slotCount g }
      let stays (id : Nat) : Bool := p.insts.any fun i => i.id = id && (matchInst q i).isSome
      let trig (k : Nat) : Bool :=
        match p.taskOf (8 + k), q.taskOf (8 + k) with
        | some t, some u => t.mode = u.mode && t.arg = u.arg
        | _, _ => false
      let s := s.modLogic fun g =>
        { g with active := some q, activeBytes := g.stagedBytes, staged := none, stagedBytes := [], exchQueued := none, exch := 2,
                 data := data, forces := g.forces.filter (fun f => stays f.1),
                 ready := g.ready.filter (fun r => (q.taskOf r.1).isSome),
                 running := (g.running.filter fun r => (q.taskOf r.task).isSome).map fun r =>
                   { r with after := r.after.filter (fun a => stays a.1), effects := r.effects.filter fun e => stays e.1 },
                 triggers := Vector.ofFn fun k : Fin 16 => if trig k.val then vget g.triggers k.val [] else [],
                 retained := some (retainNow q data) }
      archive 3 p.crc q.crc q.id 988 (le 4 q.version ++ [1]) s
  | _, _ => s.modLogic fun g => { g with exchQueued := none, exch := 4 }

/-- The cyclic task with the longest period. -/
def slowest (p : PlanImg) : Option Nat :=
  best (fun t => 1000 - ((p.taskOf t).map Task.period).getD 0) (List.range p.nCyclic)

/-- PLAN_EXCHANGE (R278). -/
def planExchange (session : Nat) (s : State) : State × Outcome :=
  let g := s.logic
  let no (d : Nat) : State × Outcome := (s.modLogic fun g => { g with exch := 3 }, Outcome.bad .exchangeRefused d)
  match g.staged with
  | none => no 4
  | some q =>
    if g.exchQueued.isSome then (s, Outcome.bad .exchangeRefused 5)
    else if g.state == .hold then no 3
    else
      let fieldOf (x : PlanImg) : Option Nat := fieldTaskOf x (s.modN .flCycleMs)
      if anyStation s && (match g.active with | some p => (fieldOf p).isSome && fieldOf p != fieldOf q | none => false) then no 2
      else if g.state == .stop then
        let s := archive 3 ((g.active.map PlanImg.crc).getD 0) q.crc q.id 988 (le 4 q.version ++ [0]) s
        (s.modLogic fun g =>
          { g with active := some q, activeBytes := g.stagedBytes, staged := none, stagedBytes := [], exch := 2, stopCause := 4,
                   data := q.insts.map InstData.init }, Outcome.ok [])
      else
        match g.active with
        | none => no 4
        | some p =>
          if changesBound p q && !mayChangeBound s session then no 1
          else (s.modLogic fun g => { g with exch := 1, exchQueued := some session }, ⟨.okQueued, 0, []⟩)

/-! ## Handing over (R260, R272, R273, R277) -/

/-- A plan mark (R264, R385): at most 10 records in a second. -/
def planMark (task id : Nat) (code : Word32) (raises : Bool) (s : State) : State :=
  let g := s.logic
  let fresh := g.marksFrom + 1000 ≤ s.jrn.opTime || g.marks = 0
  let n := if fresh then 0 else g.marks
  if n < 10 then
    let s := s.modLogic fun g => { g with marks := n + 1, marksFrom := if fresh then s.jrn.opTime else g.marksFrom }
    let s := kindRecord 1 0 (le 1 task ++ [0] ++ le 4 code.toNat ++ le 4 id) false s
    if raises then raise 207 (2 + 65536 * (code.toNat % 65536)) s else s
  else s.modLogic fun g =>
    let t := vget g.stats task TaskStat.zero
    { g with stats := vset g.stats task { t with discarded := inc32 t.discarded } }

/-- One effect of a run. -/
def handEffect (p : PlanImg) (task : Nat) (s : State) (e : Nat × Nat × Word32) : State :=
  match p.insts.find? fun i => i.id = e.1 with
  | none => s
  | some i =>
    match e.2.1 with
    | 0 => if ownedBy s i.p0 0 then cmdPin i.p0 (e.2.2 ≠ 0) s else s
    | 1 => doorReq i.id i.p0 .open_ s
    | 2 => doorReq i.id i.p0 .close s
    | 3 => doorReq i.id i.p0 .hold s
    | 4 => doorReq i.id i.p0 .holdLift s
    | 5 =>
      if (s.station i.p0).state == .lost then s
      else s.modStation i.p0 fun x => { x with outputs := stationWrite i e.2.2 x.outputs }
    | _ => planMark task i.id e.2.2 (bit i.p0 0) s

/-- A completed run hands its outputs on. A request outcome that came during the run is kept. -/
def handOver (r : TaskRun) (us : Nat) (s : State) : State :=
  match s.logic.active with
  | none => s
  | some p =>
    let s := s.modLogic fun g =>
      let data := (p.insts.zip ((List.range p.insts.length).map (dataAt g p))).map fun x =>
        match get r.after x.1.id with
        | some d => { d with req := x.2.req, reqDone := x.2.reqDone && !d.reqDone }
        | none => x.2
      let t := vget g.stats r.task TaskStat.zero
      { g with data := data, retained := some (retainNow p data),
               stats := vset g.stats r.task { t with last := us, longest := max t.longest us, runs := inc32 t.runs } }
    r.effects.foldl (handEffect p r.task) s

/-- TASK_RUN_END. -/
def effectTaskRunEnd (t us : Nat) (s : State) : State :=
  if !ibexRuns s then s
  else
    match s.logic.running, s.logic.active with
    | r :: rest, some p =>
      if r.task = t then
        if (((p.taskOf t).map Task.budget).getD 0) < us then overrunTask t 1 s
        else
          let s := handOver r us (s.modLogic fun g => { g with running := rest })
          let s := match s.logic.exchQueued with
            | some id => if s.logic.state == .run && slowest p == some t then applyExchange id s else s
            | none => s
          let s := if s.logic.holdPending && s.logic.running.isEmpty then
              s.modLogic fun g => { g with state := .hold, holdPending := false } else s
          dispatch s
      else s
    | _, _ => s

/-- TASK_OVERRUN: by budget, of the task that runs; by release, of a cyclic task that its last release found unfinished. -/
def effectTaskOverrun (t : Nat) (byRelease : Bool) (s : State) : State :=
  let g := s.logic
  if !ibexRuns s || g.state == .stop then s
  else if byRelease then (if g.late.contains t && (readyTask g t || runningTask g t) then overrunTask t 2 s else s)
  else
    match g.running with
    | r :: _ => if r.task = t then overrunTask t 1 s else s
    | [] => s

/-! ## The slot (R258) -/

/-- Release a cyclic task. The release of the field task starts a field cycle (R247). -/
def release (t mark : Nat) (s : State) : State :=
  let s := if fieldTask s == some t && anyStation s then s.modLink fun l => { l with due := true } else s
  s.modLogic fun g =>
    if readyTask g t || runningTask g t then { g with late := t :: g.late }
    else { g with ready := g.ready ++ [(t, mark)] }

/-- A task that its last release found unfinished, and whose overrun no row has reported yet. -/
def lateTask (s : State) : Option Nat := s.logic.late.find? fun t => readyTask s.logic t || runningTask s.logic t

/-- LOGIC_SLOT: the next 1 ms slot of the engine. An overrun of the last slot that is still unreported stops the logic
(R276). -/
def effectLogicSlot (s : State) : State :=
  if ibexRuns s && s.logic.state == .run then
    match lateTask s with
    | some t => overrunTask t 2 s
    | none =>
    match s.logic.active with
    | none => s
    | some p =>
      let s := s.modLogic fun g => { g with slot := g.slot + 1, late := [] }
      let n := slotCount s.logic
      let s := ((List.range p.nCyclic).filter fun t => n % (max 1 (((p.taskOf t).map Task.period).getD 1)) = 0).foldl
        (fun s t => release t 0 s) s
      dispatch s
  else s

/-! ## Commands of KCP -/

/-- LOGIC_RUN (R275). -/
def logicRun (warm : Bool) (s : State) : State × Outcome :=
  match s.logic.state with
  | .run => (s, Outcome.ok [])
  | .hold =>
    (dispatch (s.modLogic fun g =>
      { g with state := .run, ready := (g.ready.filter fun r => r.1 < 8).map fun r => (r.1, 0) }), Outcome.ok [])
  | .stop =>
    if s.logic.active.isNone then (s, Outcome.bad .planInvalid 1)
    else if warm && !retainedValid s then (s, Outcome.bad .planInvalid 14)
    else (startLogic warm s, Outcome.ok [])

def logicStop (s : State) : State × Outcome := (stopLogic 0 s, Outcome.ok [])

/-- LOGIC_HOLD. -/
def logicHold (s : State) : State × Outcome :=
  match s.logic.state with
  | .stop => (s, Outcome.bad .modeForbids 0)
  | .hold => (s, Outcome.ok [])
  | .run =>
    (s.modLogic fun g => if g.running.isEmpty then { g with state := .hold } else { g with holdPending := true }, Outcome.ok [])

/-- LOGIC_STEP: one release of the task, run as soon as it may. -/
def logicStep (t : Nat) (s : State) : State × Outcome :=
  match s.logic.active with
  | none => (s, Outcome.bad .modeForbids 0)
  | some p =>
    if s.logic.state != .hold then (s, Outcome.bad .modeForbids 0)
    else if (p.taskOf t).isNone then (s, Outcome.bad .outOfRange 0)
    else if !s.logic.running.isEmpty || s.logic.ready.any (fun r => r.2 = 1) then (s, Outcome.bad .busyRetry 2)
    else
      let s := s.modLogic fun g => { g with ready := g.ready.filter fun r => r.1 ≠ t }
      (dispatch (release t 1 s), Outcome.ok [])

/-- Instance by identity, with its table index. -/
def instOf (s : State) (id : Nat) : Option (Inst × Nat) :=
  s.logic.active.bind fun p => p.insts.zipIdx.find? fun x => x.1.id = id

/-- One entry of VAR_READ's reply (R308). -/
def varEntry (s : State) (id pin : Nat) : Bytes :=
  match s.logic.active, instOf s id with
  | some p, some x =>
    (match (outPins x.1)[pin]? with
     | some ty =>
       let f := s.logic.forces.any fun f => f.1 = id && f.2.1 = pin
       le 4 id ++ le 1 pin ++ le 1 ty ++ le 1 (b2n f) ++ [0] ++ le 4 (lget (dataAt s.logic p x.2).outs pin 0).toNat
     | none => le 4 id ++ le 1 pin ++ [0xFF, 0, 0] ++ le 4 0)
  | _, _ => le 4 id ++ le 1 pin ++ [0xFF, 0, 0] ++ le 4 0

/-- VAR_FORCE and its release (R281). -/
def varForce (id pin : Nat) (on : Bool) (v : Word32) (s : State) : State × Outcome :=
  match instOf s id with
  | none => (s, Outcome.bad .outOfRange 0)
  | some x =>
    match (outPins x.1)[pin]? with
    | none => (s, Outcome.bad .outOfRange 0)
    | some ty =>
      let rest := s.logic.forces.filter fun f => !(f.1 = id && f.2.1 = pin)
      if !on then (s.modLogic fun g => { g with forces := rest }, Outcome.ok [])
      else if 32 ≤ rest.length then (s, Outcome.bad .busyRetry 0)
      else (s.modLogic fun g => { g with forces := rest ++ [(id, pin, if ty = 0 then ofB (v ≠ 0) else v)] }, Outcome.ok [])

/-- The checks of a loaded image end (R265): the staged buffer holds the plan, or is empty. -/
def planChecked (b : Bytes) (s : State) : State × Outcome :=
  let d := planDetail s b
  if d = 0 then (s.modLogic fun g => { g with staged := some (readPlan b), stagedBytes := b }, Outcome.ok [])
  else (s.modLogic fun g => { g with staged := none, stagedBytes := [] }, Outcome.bad .planInvalid d)


end Sys2Proof.Machine
end

