-- ==== Sys2Proof/Machine/FieldLink.lean ====
section
/-! DEFINITION. The field link (R247 to R255): the frame of a field cycle, the judging of the returned slots, station states,
the ring, the error task. -/

namespace Sys2Proof.Machine

/-! ## Sending (R247, R248, R253) -/

def stationsOn (s : State) : List Nat := (List.range 16).filter fun f => s.fsp f .enable = 1

/-- Whether the ring is sent to on both ports (R251). -/
def bothPorts (r : Ring) : Bool := r == .broken || r == .down

/-- DATA that a frame carries for a station (R253). -/
def outData (x : Station) : Bytes := if x.state == .lost then zeros 64 else fix 64 x.outputs
def outValid (x : Station) : Bool := x.state == .run || x.state == .missing

def slotBytes (s : State) (f : Nat) : Bytes :=
  let x := s.station f
  let b := le 1 f ++ le 1 (b2n (outValid x)) ++ zeros 6 ++ outData x
  b ++ le 4 (crc32c b)

/-- The frame; `onFl2` for the copy sent on FL-2. -/
def frameBytes (s : State) (cycle : Nat) (broken onFl2 : Bool) : Bytes :=
  let h := [0x46, 0x4C, 1] ++ le 1 (b2n broken + 2 * b2n onFl2) ++ le 4 cycle ++ le 1 (s.modN .flCycleMs) ++ zeros 3
  h ++ le 4 (crc32c h) ++ (stationsOn s).flatMap (slotBytes s)

/-- FIELD_CYCLE: the frame of a released field task is sent. -/
def effectFieldCycle (s : State) : State :=
  if ibexRuns s && s.sup.powerMode = 0 && s.link.due then
    if !anyStation s then s.modLink fun l => { l with due := false }
    else
      let ring := s.link.ring
      let n := wrap32 (s.link.cycle + 1)
      let b := frameBytes s n (bothPorts ring) false
      let s := (stationsOn s).foldl (fun s f => s.modStation f fun x => { x with sent := outData x }) s
      send (.fieldFrame b (bothPorts ring)) (s.modLink fun l =>
        { l with cycle := n, due := false, sentAt := some s.us, frame := b })
  else s

/-! ## Judging (R251 to R254) -/

/-- The stations of the frame in flight, in slot order. -/
def frameStations (b : Bytes) : List Nat := (List.range ((b.length - 16) / 76)).map fun i => rd b (16 + 76 * i) 1

/-- The slot of a place in a returned frame whose header and slot CRCs are good. -/
def goodSlot (sent b : Bytes) (i : Nat) : Option Bytes :=
  let x := (b.drop (16 + 76 * i)).take 76
  if b.length = sent.length && b.take 2 = [0x46, 0x4C] && rd b 2 1 = 1 && rd b 12 4 = crc32c (b.take 12)
      && x.length = 76 && rd x 0 1 = rd sent (16 + 76 * i) 1 && rd x 72 4 = crc32c (x.take 72) then some x else none

/-- A station becomes LOST. -/
def loseStation (f : Nat) (s : State) : State :=
  let s := s.modStation f fun x => { x with state := .lost, lostTotal := inc32 x.lostTotal, status := setBit x.status 9 false }
  raise 217 (f + 256 * 3) (s.modLink fun l => { l with seen := setBit l.seen 2 true })

/-- A missed frame. -/
def missFrame (f : Nat) (s : State) : State :=
  let s := s.modStation f fun x =>
    { x with missed := min 3 (x.missed + 1), missedTotal := inc32 x.missedTotal, goodRun := 0 }
  match (s.station f).state with
  | .joining => loseStation f s
  | .run => s.modStation f fun x => { x with state := .missing, status := setBit x.status 9 true }
  | .missing => if 3 ≤ (s.station f).missed then loseStation f s else s
  | _ => s

/-- A good frame with its inputs. -/
def goodFrame (f : Nat) (data : Bytes) (s : State) : State :=
  let run (x : Station) : Station :=
    { x with state := .run, inputs := data, everRun := true, status := setBit x.status 9 false }
  let s := s.modStation f fun x => { x with missed := 0, goodRun := x.goodRun + 1 }
  match (s.station f).state with
  | .joining => if 2 ≤ (s.station f).goodRun then s.modStation f run else s
  | .lost => s.modStation f fun x => { x with state := .joining, goodRun := 1 }
  | .run | .missing => s.modStation f run
  | .off => s

/-- Judge one station by the returned frames (R252, R253). -/
def judge (sent : Bytes) (back : List Bytes) (s : State) (x : Nat × Nat) : State :=
  let f := x.1
  if s.fsp f .enable ≠ 1 then s
  else
    let slots := back.filterMap fun b => goodSlot sent b x.2
    let written := slots.filter fun b => bit (rd b 2 1) 0
    let dup := 2 ≤ written.length || written.any fun b => bit (rd b 2 1) 1
    let s := if dup then
        raise 217 (f + 256 * 4)
          ((s.modStation f fun y => { y with status := setBit y.status 6 true }).modLink fun l => { l with seen := setBit l.seen 3 true })
      else s
    match written with
    | [] => missFrame f s
    | b :: _ =>
      let st := rd b 2 1
      let s := s.modStation f fun y =>
        { y with status := setBit (setBit (setBit y.status 10 (bit st 2)) 11 (bit st 3)) 12 (bit st 4) }
      let type := s.fsN f .typeId
      let wrong := type ≠ 0 && rd b 4 2 ≠ type
      let s := if wrong then raise 217 (f + 256 * 5) (s.modStation f fun y => { y with status := setBit y.status 7 true }) else s
      if dup || wrong || rd b 6 2 ≠ rd sent 4 4 % 65536 then missFrame f s
      else goodFrame f ((b.drop 8).take 64) s

/-- The input image takes what the cycle gives (R247 step 4, R253, R330). -/
def newImage (s : State) : State := each 16 (fun s f => s.modStation f fun x => { x with seen := stationSeen s f }) s

/-- The ring after a cycle (R251). -/
def judgeRing (fl2 fl1 : Option Bytes) (s : State) : State :=
  let closed := match fl2 with | some b => !bit (rd b 3 1) 1 | none => false
  let change (r : Ring) (d : Nat) : State :=
    raise 217 (0xFF + 256 * d) (s.modLink fun l => { l with ring := r, closedRun := 0, seen := setBit l.seen 1 true })
  match s.link.ring with
  | .closed => if fl2.isSome then s else if fl1.isSome then change .broken 1 else change .down 2
  | .broken =>
    if fl2.isNone && fl1.isNone then change .down 2
    else if closed then
      if 1 ≤ s.link.closedRun then s.modLink fun l => { l with ring := .closed, closedRun := 0 }
      else s.modLink fun l => { l with closedRun := 1 }
    else s.modLink fun l => { l with closedRun := 0 }
  | .down => if fl2.isNone && fl1.isNone then s else change .broken 1
  | .off => s

/-- The error task is triggered once for each station that became LOST or returned to RUN (R271). -/
def errorTriggers (before after : State) (s : State) : State :=
  match s.logic.active.bind PlanImg.errorTask with
  | none => s
  | some k =>
    (List.range 16).foldl (fun s f =>
      let a := (before.station f).state
      let b := (after.station f).state
      if !logicTakes s then s
      else if a != .lost && b == .lost then pushTrigger k (256 + f) s
      else if a == .joining && b == .run && (before.station f).everRun then pushTrigger k (512 + f) s
      else s) s

/-- The end of a field cycle: what returned is judged, then the error task and the field task may run (R247, R253, R271). -/
def endFieldCycle (fl2 fl1 : Option Bytes) (s : State) : State :=
  if ibexRuns s && s.link.sentAt.isSome then
    let sent := s.link.frame
    let back := if bothPorts s.link.ring then fl2.toList ++ fl1.toList else fl2.toList
    let t := (frameStations sent).zipIdx.foldl (judge sent back) s
    let t := newImage (judgeRing fl2 fl1 t)
    let t := errorTriggers s t t
    dispatch (t.modLink fun l => { l with sentAt := none })
  else s

def effectFrameReturn (b : FrameBack) (s : State) : State := endFieldCycle b.onFl2 b.onFl1 s

/-- FRAME_RETURN_TIMEOUT: 0.9 of the cycle has passed since the frame was sent. -/
def effectFrameTimeout (s : State) : State :=
  match s.link.sentAt with
  | some t => endFieldCycle none none (forwardTo (some (t + 900 * s.modN .flCycleMs)) s)
  | none => s

/-- A new value of `FS[f].ENABLE` takes effect (R253). -/
def enableStation (f : Nat) (v : Int) (s : State) : State :=
  let was := s.fsp f .enable
  let s := s.setVal (.fs f .enable) v
  if v = was then s
  else if v = 1 then newImage (s.modStation f fun x => { x with state := .joining, missed := 0, goodRun := 0 })
    |>.modLink fun l => { l with ring := if l.ring == .off then .closed else l.ring }
  else
    let s := newImage <| s.modStation f fun x =>
      { x with state := .off, missed := 0, goodRun := 0, status := setBit x.status 9 false }
    if anyStation s then s else s.modLink fun l => { l with ring := .off, due := false, sentAt := none, closedRun := 0 }

/-- Every enabled station starts in JOINING (R253, R419). -/
def startLink (s : State) : State :=
  newImage <| each 16 (fun s f =>
    s.modStation f fun x =>
      { Station.reset with state := if s.fsp f .enable = 1 then .joining else .off, subst := x.subst })
    (s.modLink fun _ => { Link.reset with ring := if anyStation s then .closed else .off })

end Sys2Proof.Machine
end

