-- ==== Sys2Proof/Machine/NetTime.lean ====
section
/-! DEFINITION. Ports, parallel redundancy, the network clocks and module time (R334 to R352). -/

namespace Sys2Proof.Machine

/-! ## Ports (R334, R337, R338) -/

/-- A link loss that outlasts the debounce is reported. -/
def effectLinkLoss (p : Nat) (s : State) : State :=
  if (s.port p).link = 0 then s
  else raise 203 (p + 256) (netCount p 8 (s.modPort p fun x => { x with link := 0, lostSince := some s.us }))

/-- A link comes up at 100 or 1000 Mbit/s; SVC is 100BASE-TX, a forced port too, a disabled port stays down. -/
def effectLinkUp (p : Nat) (gigabit : Bool) (s : State) : State :=
  if bit (s.netN .portEnable) p then
    let fast := gigabit && p < 2 && s.netp (.speedCfg p) = 0
    s.modPort p fun x => { x with link := if fast then 2 else 1, lostSince := none }
  else s

/-- A supervision frame every PRP_SUP_MS (R337). -/
def effectPrpSup (s : State) : State :=
  if prpOn s && listens s then
    let s := forwardTo (some (s.net.supAt + 1000 * s.netN .prpSupMs)) s
    send .supervision (s.modNet fun n => { n with supAt := s.us })
  else s

/-- `NET.PRP_STATUS` changes; 2, 3 and 4 raise the network event. The spec names no port for 4. -/
def setPrp (v : Nat) (s : State) : State :=
  if s.net.prpStatus = v then s
  else
    let s := s.modNet fun n => { n with prpStatus := v }
    let port : Nat := if v = 2 then 0 else if v = 3 then 1 else (Config.open_ 951 [] % 256).toNat
    if 2 ≤ v then raise 203 (port + 256 * v) s else s

/-- SINGLE_LAN_TIMEOUT, with the LANs on which peers have been heard in SINGLE_LAN_S. -/
def effectSingleLan (a b : Bool) (s : State) : State :=
  if prpOn s then setPrp (if a && b then 1 else if a then 2 else if b then 3 else 4) s
  else s.modNet fun n => { n with prpStatus := 0 }

/-- A frame of a PRP peer is heard on a LAN (R338). -/
def heardOn (p : Nat) (s : State) : State :=
  let s := s.modPort p fun x => { x with heardAt := s.us + 1 }
  let recent (q : Nat) : Bool := (s.port q).heardAt ≠ 0 && s.us ≤ (s.port q).heardAt + 1000000 * s.netN .singleLanS
  if prpOn s && recent 0 && recent 1 then setPrp 1 s else s

/-- CNT_CLEAR (R352). -/
def clearCounters (s : State) : State :=
  each 3 (fun s p => s.modPort p fun x => { x with counters := .replicate 11 0 }) s

/-- Entries of the duplicate table that have aged out; one that never met its second copy was heard on one LAN only. -/
def ageDups (s : State) : State :=
  let old (e : Nat × Nat × Nat × Nat × Bool) : Bool := e.2.2.1 + 1000 * s.netN .prpAgeMs < s.us
  let gone := s.net.dups.filter fun e => old e
  let s := gone.foldl (fun s e => if e.2.2.2.2 then s else netCount e.2.2.2.1 5 s) s
  s.modNet fun n => { n with dups := n.dups.filter fun e => !old e }

/-- Duplicate discard of a frame with a trailer (R337): the state with its table, and whether the frame is passed on. -/
def dupCheck (p src seq : Nat) (s : State) : State × Bool :=
  let s := ageDups s
  let newest := (s.net.dups.find? fun e => e.1 = src).map fun e => e.2.1
  let back (n : Nat) : Nat := (n + 65536 - seq) % 65536
  match s.net.dups.find? fun e => e.1 = src && e.2.1 = seq with
  | some _ =>
    let inside := match newest with | some n => back n < s.netN .prpWindow || 32768 ≤ back n | none => true
    if inside then
      (netCount p 4 (s.modNet fun n => { n with dups := n.dups.map fun e =>
        if e.1 = src && e.2.1 = seq then (e.1, e.2.1, e.2.2.1, e.2.2.2.1, true) else e }), false)
    else (netCount p 7 s, true)
  | none =>
    let s := match newest with
      | some n => if s.netN .prpWindow ≤ back n && back n < 32768 then netCount p 7 s else s
      | none => s
    (s.modNet fun n => { n with dups := (src, seq, s.us, p, false) :: n.dups }, true)

/-! ## Which network is trusted (R342, R343) -/

def ptpOn (s : State) (n : Nat) : Bool := bit (s.netN .ptpEnable) n
def stepMaxNs (s : State) : Int := 1000 * s.netp .timeStepMaxUs

def trustable (s : State) (n : Nat) : Bool :=
  let c := s.clock n
  ptpOn s n && c.set && c.locked && !c.distrusted && c.refused.isNone && c.state = 2

/-- A refused step is recorded on network n (R345): `kind` 1 where a change of the source found it. -/
def refuseStep (n : Nat) (o : Int) (kind : Nat) (s : State) : State :=
  let s := s.modClock n fun c => { c with refused := some (o, kind) }
  raise 204 1 (s.modTime fun t => { t with stepsRefused := wrap32 (t.stepsRefused + 1), confirmSince := none })

/-- The source that R342 gives; 0 for holdover. -/
def sourceOf (s : State) : Nat :=
  if s.time.deciding.isSome then 0
  else
    let p := s.netN .timePref
    if trustable s p then p + 1 else if trustable s (1 - p) then (1 - p) + 1 else 0

/-- One choice of the source: a difference above the limit at a change refuses that network instead. -/
def selectOnce (s : State) : State :=
  let n := sourceOf s
  if n = s.time.trusted then s
  else if n = 0 then s.modTime fun t => { t with trusted := 0, holdoverSince := s.us }
  else
    let diff := rnd (s.time.ns - (s.clock (n - 1)).ns)
    if s.time.valid && stepMaxNs s < absI diff && s.time.pendingStep.isNone then refuseStep (n - 1) diff 1 s
    else s.modTime fun t => { t with trusted := n, utcOffset := (((s.clock (n - 1)).best).map AnnounceMsg.utcOffset).getD t.utcOffset }

def reselect (s : State) : State := selectOnce (selectOnce (selectOnce s))

/-- A parameter of the ports or of the time takes a new value: a disabled port loses its link, a disabled clock its master, a
node without redundancy its table; the port states and the source follow (R334, R338, R339, R342). -/
def portsChanged (s : State) : State :=
  let s := each 3 (fun s p => if portOn s p then s else s.modPort p fun x => { x with link := 0 }) s
  if prpOn s then s else s.modNet fun n => { n with prpStatus := 0, dups := [] }

/-! ## Steps (R345, R346, R383) -/

/-- A time-step record; NET_TIME of its header is the new time. -/
def stepRecord (cause old : Nat) (s : State) : State := kindRecord 2 0 ([BitVec.ofNat 8 cause, 0] ++ le 6 old) false s
def moduleMs (s : State) : Nat := (s.time.ns / 1000000).floor.toNat

/-- Accept the refused step of network n: its clock steps at once, module time by the same amount at the next herd cycle
boundary where the network is the trusted one or becomes so. -/
def acceptStep (n cause : Nat) (s : State) : State :=
  match (s.clock n).refused with
  | none => s
  | some r =>
    let s := s.modClock n fun c =>
      { c with refused := none, ns := if r.2 = 0 then c.ns - (r.1 : Rat) else c.ns, offset := if r.2 = 0 then c.offset - r.1 else c.offset }
    let s := s.modTime fun t =>
      { t with stepsAccepted := wrap32 (t.stepsAccepted + 1), seen := setBit t.seen 2 true, confirmSince := none }
    let s := if sourceOf s = n + 1 then s.modTime fun t => { t with pendingStep := some (-r.1, cause) } else s
    reselect (raise 204 2 s)

/-- The step waits for the boundary (R346 step 2); the herd cycle offset of a backward step (R350). -/
def applyPendingStep (s : State) : State :=
  match s.time.pendingStep with
  | none => s
  | some p =>
    let old := moduleMs s
    let s := s.modTime fun t =>
      { t with ns := t.ns + (p.1 : Rat), pendingStep := none,
               cycleOfs := if p.1 < 0 then t.cycleOfs + ((-p.1 + 9999999) / 10000000).toNat else t.cycleOfs }
    stepRecord p.2 old s

/-! ## The A/B cross-check (R347 to R349) -/

/-- Master time as seen through a network. -/
def masterTime (s : State) (n : Nat) : Rat := (s.clock n).ns - ((s.clock n).offset : Rat)
/-- Whether a network has given a sample within the last 2 s. -/
def fresh2s (s : State) (n : Nat) : Bool :=
  match (s.clock n).offsetAt with | some t => s.us ≤ t + 2000000 | none => false
def divergence (s : State) : Rat := masterTime s 0 - masterTime s 1 - s.time.abBase
def tolNs (s : State) : Rat := ((1000 * s.netp .abTolUs : Int) : Rat)

/-- The base: 0 for one grandmaster; else it follows while nothing is in question. -/
def moveBase (s : State) : State :=
  if (s.clock 0).gm = (s.clock 1).gm then s.modTime fun t => { t with abBase := 0 }
  else if s.time.deciding.isSome || (s.clock 0).distrusted || (s.clock 1).distrusted then s
  else s.modTime fun t => { t with abBase := t.abBase + (masterTime s 0 - masterTime s 1 - t.abBase) / 1024 }

/-- The check of a sample of a network; afterwards DECIDING may be in force. -/
def crossCheck (s : State) : State :=
  let s := if (s.clock 0).gm = (s.clock 1).gm then s.modTime fun t => { t with abBase := 0 } else s
  let d := divergence s
  let s := s.modTime fun t => { t with abDiff := rnd d }
  let distrust := (s.clock 0).distrusted || (s.clock 1).distrusted
  let s := if !distrust then s.modTime fun t => { t with recoverSince := none }
    else if 2 * absR d ≤ tolNs s then s.modTime fun t => { t with recoverSince := some (t.recoverSince.getD s.us) }
    else s.modTime fun t => { t with recoverSince := none }
  if s.time.deciding.isNone && !distrust && tolNs s < absR d then
    let s := s.modTime fun t => { t with deciding := some s.us, seen := setBit t.seen 1 true }
    let s := each 2 (fun s n => s.modClock n fun c => { c with gAtDeciding := some (masterTime s n - s.time.ns) }) s
    reselect s
  else moveBase s

def distrust (n : Nat) (s : State) : State := s.modClock n fun c => { c with distrusted := true }

/-- The decision of R348. -/
def decide_ (since : Nat) (s : State) : State :=
  if absR (divergence s) ≤ tolNs s && fresh2s s 0 && fresh2s s 1 then s
  else
    let changed (n : Nat) : Option Nat :=
      match (s.clock n).pdChangedAt with
      | some t => if since ≤ t + 1000000 * s.netN .abWindowS then some t else none
      | none => none
    let moved (n : Nat) : Bool :=
      match (s.clock n).gAtDeciding with
      | some g => tolNs s < absR (masterTime s n - s.time.ns - g)
      | none => false
    match changed 0, changed 1 with
    | some a, some b => if a = b then distrust 1 (distrust 0 s) else distrust (if a < b then 1 else 0) s
    | some _, none => distrust 0 s
    | none, some _ => distrust 1 s
    | none, none =>
      if moved 0 && !moved 1 then distrust 0 s
      else if moved 1 && !moved 0 then distrust 1 s
      else distrust 1 (distrust 0 s)

def effectAbDecision (s : State) : State :=
  match s.time.deciding with
  | none => s
  | some t =>
    let s := forwardTo (some (t + 1000 * s.netN .abDecideMs)) s
    let s := (decide_ t s).modTime fun x => { x with deciding := none, recoverSince := none }
    let bits := 2 * b2n (s.clock 0).distrusted + b2n (s.clock 1).distrusted
    reselect (raise 204 (3 + 256 * bits) s)

def effectAbRecover (s : State) : State :=
  match s.time.recoverSince with
  | none => s
  | some t =>
    let s := forwardTo (some (t + 1000000 * s.netN .abRecoverS)) s
    let s := each 2 (fun s n => s.modClock n fun c => { c with distrusted := false }) s
    reselect (s.modTime fun x => { x with recoverSince := none })

/-! ## Samples (R344) -/

/-- Whether a sample of both networks confirms the steps that both refuse (R345). -/
def checkConfirm (s : State) : State :=
  match (s.clock 0).refused, (s.clock 1).refused with
  | some a, some b =>
    if absI (a.1 - b.1) ≤ 1000 * s.netp .abTolUs then s.modTime fun t => { t with confirmSince := some (t.confirmSince.getD s.us) }
    else s.modTime fun t => { t with confirmSince := none }
  | _, _ => s.modTime fun t => { t with confirmSince := none }

/-- Step 4 for a sample beyond the limit: a first refusal, or one more sample of it. A sample more than 100 µs from the first
refused value is a new refusal. -/
def refuseSample (n : Nat) (o : Int) (s : State) : State :=
  match (s.clock n).refused with
  | some r => checkConfirm (if absI (o - r.1) ≤ 100000 then s else refuseStep n o 0 s)
  | none => checkConfirm (refuseStep n o 0 s)

/-- Step 5: lock counting and the servo. -/
def servo (n : Nat) (o : Int) (log : Int) (s : State) : State :=
  let tNs : Rat := if 0 ≤ log then ((1000000000 * 2 ^ log.toNat : Nat) : Rat) else 1000000000 / ((2 ^ (-log).toNat : Nat) : Rat)
  let inside := absI o ≤ s.netp .lockNs
  s.modClock n fun c =>
    let i := c.integ + o
    let f : Rat := -(((s.netp .servoKp : Rat) * o + (s.netp .servoKi : Rat) * i) / 1000) / tNs
    let good := if inside then c.good + 1 else 0
    let bad := if inside then 0 else c.bad + 1
    { c with integ := i, rate := ratePpm f (s.netN .slewPpm), good := min 8 good, bad := min 8 bad,
             locked := if 8 ≤ good then true else if 8 ≤ bad then false else c.locked }

/-- Step 2: the clock is set, and module time on its first acquisition. -/
def firstSet (n : Nat) (o : Int) (s : State) : State :=
  let s := s.modClock n fun c => { c with ns := c.ns - (o : Rat), set := true, offset := 0, good := 0, bad := 0, integ := 0 }
  if s.time.valid then s
  else
    let old := moduleMs s
    let s := s.modTime fun t =>
      let new := (s.clock n).ns
      { t with ns := new, valid := true,
               cycleOfs := if new < t.ns then t.cycleOfs + (((t.ns - new) / 10000000).ceil).toNat else t.cycleOfs }
    if netMs s < s.jrn.newestTime then stepRecord 4 old s else s

/-- One sample with its offset measured (R344 steps 2 to 5). -/
def takeSample (n : Nat) (m : SyncMsg) (s : State) : State :=
  let o : Int := m.rxNs - m.originNs - m.correctionNs - rnd ((s.clock n).pathDelay.getD 0) - s.netp (.asymNs n)
  let s := s.modClock n fun c => { c with offset := o, offsetAt := some s.us, syncRx := wrap32 (c.syncRx + 1) }
  if !(s.clock n).set then reselect (firstSet n o s)
  else
    let s := if fresh2s s (1 - n) && (s.clock (1 - n)).set then crossCheck s else s
    let big := stepMaxNs s < absI o
    if s.time.deciding.isSome then (if big then refuseSample n o s else s)
    else if big then reselect (refuseSample n o s)
    else
      let change := match (s.clock n).refused with
        | some r => r.2 = 1 && stepMaxNs s < absI (rnd (s.time.ns - (s.clock n).ns))
        | none => false
      let s := if change then s else checkConfirm (s.modClock n fun c => { c with refused := none })
      reselect (servo n o m.logInterval s)

/-- PTP_SYNC_RX: a one-step Sync is a sample; a two-step one waits for its Follow_Up. -/
def effectPtpSync (n : Nat) (m : SyncMsg) (s : State) : State :=
  if !listens s || !ptpOn s n then s
  else
    let s := netCount n 9 s
    if !m.complete then netCount n 10 s
    else if !m.fromMaster || (s.clock n).state ≠ 2 then s
    else if m.twoStep then s.modClock n fun c => { c with pendingSync := some (m, s.us) }
    else takeSample n m s

/-- PTP_FOLLOW_UP_RX: within one Sync interval it completes the sample with its origin time and correction. -/
def effectPtpFollowUp (n : Nat) (m : SyncMsg) (s : State) : State :=
  if !listens s || !ptpOn s n then s
  else
    let s := netCount n 9 s
    match (s.clock n).pendingSync with
    | none => s
    | some p =>
      let s := s.modClock n fun c => { c with pendingSync := none }
      let lim : Nat := if 0 ≤ p.1.logInterval then 1000000 * 2 ^ p.1.logInterval.toNat else 1000000 / 2 ^ (-p.1.logInterval).toNat
      if !m.fromMaster || !m.complete || p.2 + lim < s.us then s
      else takeSample n { p.1 with originNs := m.originNs, correctionNs := p.1.correctionNs + m.correctionNs } s

/-- PTP_DELAY_RESP_RX: the path-delay filter (R344). -/
def effectPtpDelay (n rawNs : Nat) (s : State) : State :=
  if !listens s || !ptpOn s n || (s.clock n).state ≠ 2 then s
  else
    let old := (s.clock n).pathDelay
    let raw : Rat := rawNs
    let s := netCount n 9 (s.modClock n fun c =>
      match c.pathDelay with
      | none => { c with pathDelay := some raw }
      | some f =>
        if (s.netN .pdStepNs : Rat) < absR (raw - f) then { c with pathDelay := some raw, pdChangedAt := some s.us }
        else { c with pathDelay := some (f + (raw - f) / 8) })
    -- the offset in force is the one measured with the new delay (R347: the latest offset)
    let shift := rnd ((s.clock n).pathDelay.getD 0) - rnd (old.getD 0)
    s.modClock n fun c => { c with offset := if c.set then c.offset - shift else c.offset }

/-! ## Best master (R339, R340) -/

/-- The module's own data set on a port. -/
def ownClock (s : State) (n : Nat) : AnnounceMsg :=
  let mac := (s.port (if prpOn s then 0 else n)).macHi * 0x100000000 + (s.port (if prpOn s then 0 else n)).macLo
  { priority1 := s.netN .priority1, clockClass := if s.netp .slaveOnly = 1 then 255 else 248, clockAccuracy := 0xFE,
    variance := (Config.open_ 952 [] % 65536).toNat, priority2 := s.netN .priority2,
    gmId := (mac / 0x1000000) * 0x10000000000 + 0xFFFE000000 + mac % 0x1000000, stepsRemoved := 0, utcOffset := s.time.utcOffset }

/-- The data set comparison, first difference deciding. -/
def rankOf (a : AnnounceMsg) : List Nat :=
  [a.priority1, a.clockClass, a.clockAccuracy, a.variance, a.priority2, a.gmId, a.stepsRemoved]
def betterRank : List Nat → List Nat → Bool
  | a :: r, b :: t => decide (a < b) || (decide (a = b) && betterRank r t)
  | _, _ => false
def betterClock (a b : AnnounceMsg) : Bool :=
  if a.gmId = b.gmId then a.stepsRemoved < b.stepsRemoved else betterRank (rankOf a) (rankOf b)

/-- The master of a network is lost: LOCKED ends (R342). -/
def loseMaster (n : Nat) (s : State) : State :=
  reselect (s.modClock n fun c => { c with locked := false, good := 0, bad := 0, pendingSync := none })

/-- The port follows the decision between the best master heard and itself. -/
def decideMaster (n : Nat) (s : State) : State :=
  match (s.clock n).best with
  | none => s
  | some b =>
    let slave := s.netp .slaveOnly = 1 || betterClock b (ownClock s n)
    if slave then
      let was := (s.clock n).state = 2 && (s.clock n).gm = b.gmId
      let s := s.modClock n fun c => { c with state := 2, gm := b.gmId }
      let s := if s.time.trusted = n + 1 then s.modTime fun t => { t with utcOffset := b.utcOffset } else s
      if was then s else loseMaster n s
    else
      let was := (s.clock n).state = 3
      let s := s.modClock n fun c => { c with state := 3, gm := (ownClock s n).gmId }
      if was then s else loseMaster n s

/-- A parameter of a network clock takes a new value: a clock switched off or on again listens, without a master; the best
master and the source are chosen anew (R339, R342). -/
def clocksChanged (s : State) : State :=
  reselect (each 2 (fun s n =>
    let only := s.netp .slaveOnly = 1 && (s.clock n).state = 3 && (s.clock n).best.isNone
    if ptpOn s n then (if only then loseMaster n (s.modClock n fun c => { c with state := 1 }) else decideMaster n s)
    else loseMaster n (s.modClock n fun c => { c with state := 1, best := none })) s)

/-- PTP_ANNOUNCE_RX. -/
def effectPtpAnnounce (n : Nat) (m : AnnounceMsg) (s : State) : State :=
  if !listens s || !ptpOn s n then s
  else
    let s := netCount n 9 s
    let take := match (s.clock n).best with
      | none => true
      | some b => b.gmId = m.gmId || betterClock m b
    if take then decideMaster n (s.modClock n fun c => { c with best := some m, announceAt := s.us }) else s

/-- ANNOUNCE_TIMEOUT: without an Announce in time the port is master, or listens where it is a slave only. -/
def effectAnnounceTimeout (n : Nat) (s : State) : State :=
  if !listens s || !ptpOn s n || (s.clock n).state = 3 then s
  else
    let s := forwardTo (some ((s.clock n).announceAt + 1000000 * s.netN .announceTimeout * 2 ^ s.netN .logAnnounce)) s
    let only := s.netp .slaveOnly = 1
    let s := s.modClock n fun c => { c with best := none, state := if only then 1 else 3, gm := if only then c.gm else (ownClock s n).gmId }
    loseMaster n s

/-- PTP_SYNC_TX: as master, a one-step Sync with module time (R340). -/
def effectPtpSyncTx (n : Nat) (s : State) : State :=
  if listens s && ptpOn s n && (s.clock n).state = 3 then send (.sync n s.time.ns.floor) s else s

def effectPtpDelayReqTx (n : Nat) (s : State) : State :=
  if listens s && ptpOn s n && (s.clock n).state = 2 then send (.delayReq n) s else s

/-- A Delay_Req received as master is answered (R339); its message type is 1. -/
def takePtpFrame (n : Nat) (data : Bytes) (s : State) : State :=
  if n < 2 && ptpOn s n && (s.clock n).state = 3 && rd data 0 1 % 16 = 1 then send (.delayResp n) (netCount n 9 s) else s

/-- STEP_CONFIRM_EXPIRY (R345): accepted on both networks. -/
def effectStepConfirm (s : State) : State :=
  match s.time.confirmSince with
  | none => s
  | some t =>
    let s := forwardTo (some (t + 1000000 * s.netN .timeStepConfirmS)) s
    acceptStep 1 1 (acceptStep 0 1 s)

/-- TIME_ACCEPT_STEP (R311). -/
def timeAccept (n : Nat) (stepNs : Int) (s : State) : State × Outcome :=
  if 1 < n then (s, Outcome.bad .outOfRange 0)
  else
    match (s.clock n).refused with
    | none => (s, Outcome.bad .outOfRange 1)
    | some r =>
      if absI (stepNs - r.1) ≤ 1000 then (acceptStep n (2 + n) s, Outcome.ok []) else (s, Outcome.bad .outOfRange 2)

/-- Time at a start: clocks unset, module time not VALID and free-running from 0. -/
def startTime (s : State) : State := s.modTime fun _ => Time.reset

end Sys2Proof.Machine
end

