-- ==== Sys2Proof/Machine/Supply.lean ====
section
/-! DEFINITION. Supplies, precharge, regeneration, insulation, contact feeds, encoder supplies and temperatures (R414, R433,
R435 to R438, R442, R443, R448), and STANDBY (R446). -/

namespace Sys2Proof.Machine

def supFlag (i : Nat) (b : Bool) (s : State) : State := s.modSup fun u => { u with status := setBit u.status i b }
def supBit (s : State) (i : Nat) : Bool := s.sup.status.getLsbD i
def tempFlag (i : Nat) (b : Bool) (s : State) : State :=
  s.modSup fun u => { u with tempStatus := if b then u.tempStatus ||| (1#8 <<< i) else u.tempStatus &&& ~~~(1#8 <<< i) }
def tempBit (s : State) (i : Nat) : Bool := s.sup.tempStatus.getLsbD i

/-- A measurement of the LOGIC supply: the first after it was applied selects the nominal voltage (R433). -/
def takeLogicVolt (mV : Nat) (s : State) : State :=
  s.modSup fun u =>
    { u with logicVolt := sat32 mV, nomDue := false,
             logicNom := if u.nomDue then (if mV < 40000 then 24 else if mV ≤ 91000 then 72 else 110) else u.logicNom }

/-! ## Precharge and the DRIVE input (R414, R435, R437) -/

/-- Charging of the DRIVE bus begins. -/
def startPrecharge (s : State) : State :=
  s.modSup fun u => { u with precharging := some s.us, precharged := false, retryAt := none }

/-- Nominal DRIVE voltage for a measured bus (R120). -/
def nomFor (s : State) (mV : Nat) : Nat :=
  if s.modp .driveNom = 0 then (if mV < 91000 then 72 else 110) else s.modN .driveNom

/-- The bus is above 0.6 × nominal and stable. -/
def effectPrechargeDone (mV ms : Nat) (s : State) : State :=
  if s.sup.precharging.isNone || mV ≤ 600 * nomFor s mV then s
  else
    let s := s.modSup fun u =>
      { u with precharged := true, precharging := none, retryAt := none, driveVolt := mV, driveNom := nomFor s mV,
               busCap := (Config.measured 41 s.us).toNat }
    supFlag 12 false (s.modBoot fun b => { b with prechargeMs := ms })

def effectPrechargeTimeout (s : State) : State :=
  match s.sup.precharging with
  | none => s
  | some t =>
    let s := forwardTo (some (t + 1000 * s.modN .prechargeTimeoutMs)) s
    raise 192 3 (supFlag 12 true (s.modSup fun u => { u with precharging := none, retryAt := some (s.us + 10000000) }))

def effectPrechargeRetry (s : State) : State :=
  match s.sup.retryAt with
  | some t => if s.sup.powerMode = 0 then startPrecharge (forwardTo (some t) s) else s
  | none => s

/-- The DRIVE input is gone: the bus is discharged actively. -/
def loseDrive (dischargeMs : Nat) (s : State) : State :=
  s.modSup fun u => { u with precharged := false, precharging := none, retryAt := none, dischargeMs := dischargeMs, insulLow := 0 }

def effectDriveLoss (dischargeMs : Nat) (s : State) : State := loseDrive dischargeMs s
def effectDriveReturn (s : State) : State :=
  if s.sup.precharged || s.sup.precharging.isSome || s.sup.powerMode ≠ 0 || s.boot.power != .on then s else startPrecharge s
def effectBreakerTrip (dischargeMs : Nat) (s : State) : State := raise 192 4 (supFlag 4 true (loseDrive dischargeMs s))

/-! ## Regeneration and insulation (R436, R438) -/

def effectRegenEnd (mJ : Nat) (s : State) : State :=
  let s := s.modSup fun u => { u with regenMj := mJ, regenEpisodes := inc32 u.regenEpisodes }
  if 30000 < mJ then raise 192 5 (supFlag 5 true (s.modSup fun u => { u with regenLockEnd := some (s.us + 60000000) })) else s

def effectRegenLockEnd (s : State) : State :=
  match s.sup.regenLockEnd with
  | some t => (forwardTo (some t) s).modSup fun u => { u with regenLockEnd := none }
  | none => s

def effectInsulation (kOhm : Nat) (s : State) : State :=
  if !s.sup.precharged then s
  else
    let low := kOhm < s.modN .insulLimitKohm
    let n := if low then min 3 (s.sup.insulLow + 1) else 0
    let s := s.modSup fun u => { u with insul := sat32 kOhm, insulLow := n }
    if !low then supFlag 11 false s
    else if 3 ≤ n && !supBit s 11 then raise 192 6 (supFlag 1 true (supFlag 11 true s))
    else s

/-! ## Contact feeds and encoder supplies (R443) -/

/-- The 400 µs dark pulse of a feed: a contact that reads closed latches a discrepancy on its pair in its lane. -/
def feedServes (feed : Nat) (c : ContactRef) : Bool := feed = feedOf c.pair c.second && c.pair < 32

def darkContacts (refs : List ContactRef) (s : State) : State :=
  refs.foldl (fun s c => if pairType s c.pair = 0 || !laneUp s c.lane then s else latchDiscrepancy c.pair c.lane s) s

def effectFeedPulse (feed : Nat) (refs : List ContactRef) (s : State) : State :=
  darkContacts (refs.filter (feedServes feed)) s

/-- The contacts of a feed as it is switched: without it they read open, and with its return a level that reads closed
counts for the filter from then on (R190). -/
def feedContact (now : Nat) (off : Bool) (c : Contact) : Contact :=
  if off then (if c.raw then { c with raw := false, since := now } else c) else if c.raw then { c with since := now } else c

def setFeed (feed : Nat) (off : Bool) (s : State) : State :=
  let s := s.modSup fun u => { u with cfOff := if off then u.cfOff ||| (1#18 <<< feed) else u.cfOff &&& ~~~(1#18 <<< feed) }
  [Lane.ibex, .chamois].foldl (fun s lane =>
    each 32 (fun s p => s.modPair lane p fun x =>
      let x := if feedOf p false = feed then { x with c1 := feedContact s.us off x.c1 } else x
      if feedOf p true = feed then { x with c2 := feedContact s.us off x.c2 } else x) s) s

def effectFeedOverload (feed : Nat) (s : State) : State :=
  let was := s.sup.cfOff.getLsbD feed
  let s := (setFeed feed true s).modSup fun u => { u with cfRetry := put u.cfRetry feed (s.us + 1000000) }
  if was then s else raise 192 (7 + 256 * feed) s

def effectFeedRetry (feed : Nat) (s : State) : State :=
  match get s.sup.cfRetry feed with
  | some t =>
    let s := forwardTo (some t) s
    (setFeed feed false s).modSup fun u => { u with cfRetry := drop_ u.cfRetry feed }
  | none => s

def setEncSupply (d : Nat) (off : Bool) (s : State) : State :=
  s.modSup fun u => { u with encOff := if off then u.encOff ||| (1#8 <<< d) else u.encOff &&& ~~~(1#8 <<< d) }

/-- The pairs of an axis that its connector's encoder supply feeds. -/
def fedPairs : List WirePair := [.a, .b, .z, .ssi]

/-- The supply is switched off; the encoders that it fed show wire disagreements (R131, R443). -/
def effectEncOverload (d : Nat) (s : State) : State :=
  let was := s.sup.encOff.getLsbD d
  let s := (setEncSupply d true s).modSup fun u => { u with encRetry := put u.encRetry d (s.us + 1000000) }
  if was then s
  else
    let s := raise 192 (8 + 256 * d) s
    each 3 (fun s k => fedPairs.foldl (fun s p => effectWireDisagreement (axisOf d k) p s) s) s

def effectEncRetry (d : Nat) (s : State) : State :=
  match get s.sup.encRetry d with
  | some t =>
    let s := forwardTo (some t) s
    let s := (setEncSupply d false s).modSup fun u => { u with encRetry := drop_ u.encRetry d }
    each 3 (fun s k => s.modFb (axisOf d k) fun b => { b with wires := 0 }) s
  | none => s

/-- A field group's supply current above its limit for 100 ms (R442). -/
def effectGroupCurrent (g mA : Nat) (s : State) : State :=
  let s := s.modGroup g fun x => { x with current := mA }
  if s.modN (.fgCurrLimit g) < mA then raise (208 + g) (0xFF + 768) s else s

/-! ## Logic supply and temperatures (R433, R448) -/

/-- A reported LOGIC supply voltage; LOW_LOGIC is live. -/
def effectLowLogic (mV : Nat) (s : State) : State :=
  let s := takeLogicVolt mV s
  if mV < 700 * s.sup.logicNom then (if supBit s 15 then s else raise 192 1 (supFlag 15 true s)) else supFlag 15 false s

def takeBaseTemp (t : Int) (s : State) : State :=
  let s := s.modSup fun u => { u with baseTemp := t, basePeak := max u.basePeak t }
  let s := if t < s.modp .baseTempWarn then tempFlag 7 false s else s
  if t < 1250 then tempFlag 6 false s else s

def effectBaseWarn (t : Int) (s : State) : State :=
  let s := takeBaseTemp t s
  if s.modp .baseTempWarn ≤ t && !tempBit s 7 then raise 193 2 (tempFlag 0 true (tempFlag 7 true s)) else s

def effectBaseLimit (t : Int) (s : State) : State :=
  let s := takeBaseTemp t s
  if 1300 ≤ t && !tempBit s 6 then raise 193 3 (tempFlag 1 true (tempFlag 6 true s)) else s

def effectBaseCleared (t : Int) (s : State) : State := takeBaseTemp t s

def effectLogicHot (t : Int) (s : State) : State :=
  let s := s.modSup fun u => { u with logicTemp := t }
  if 1400 ≤ t then (if tempBit s 4 then s else raise 193 4 (tempFlag 4 true s)) else tempFlag 4 false s

/-! ## STANDBY (R446) -/

/-- The logic at power-up (R277, R419): `cold` forces a cold start. -/
def autostart (cold : Bool) (s : State) : State :=
  let sel := s.modp .logicAutostart
  if sel = 0 || s.logic.active.isNone then s.modLogic fun g => { g with state := .stop, stopCause := 5 }
  else startLogic (decide (sel = 1) && !cold) s

/-- STANDBY is left for a reason of `MOD.WAKE_SRC`. -/
def leaveStandby (src : Nat) (s : State) : State :=
  if s.sup.powerMode ≠ 1 then s
  else
    let s := s.modSup fun u => { u with powerMode := 0, wakeSrc := src }
    let s := s.modSaf fun x => { x with dlSinceI := none, dlSinceC := none, spSinceI := none, spSinceC := none,
                                        dlReadyI := false, dlReadyC := false, spReadyI := false, spReadyC := false }
    autostart false (startLink (startPrecharge s))

/-- STANDBY is entered: DRIVE opened, field outputs and field link off, logic in STOP. The safe output demands go OFF in the
next slots; the time of the discharge is not reported by the command. -/
def enterStandby (s : State) : State :=
  let s := loseDrive (Config.measured 42 s.us).toNat (s.modSup fun u => { u with powerMode := 1 })
  let s := each 112 (fun s n => switchOff n s) s
  let s := s.modLink fun l => { l with ring := .off, due := false, sentAt := none }
  let s := each 16 (fun s f => s.modStation f fun x => { x with state := .off }) s
  if s.logic.state == .stop then s else stopLogic 0 s

/-- The conditions of a write of 1 or 2: module mode, then the axes. -/
def lowPowerOk (s : State) : Bool :=
  (List.range 24).all fun a =>
    !s.axOn a || (let d := (s.axis a).drive
      d.state == .parked || (d.state == .disabled && d.ramp.isNone) || (d.state == .sto && d.stoAtRest))

end Sys2Proof.Machine
end

