-- ==== Sys2Proof/Machine/Herd.lean ====
section
/-! DEFINITION. The herd (R354 to R377): bleats, train values, grants, votes, the mirror and its shadow computation, and the
herd-wide mode change. -/

namespace Sys2Proof.Machine

/-! ## Members (R354, R355) -/

def selfM (s : State) : Nat := s.herdN .member
def isSolo (s : State) : Bool := herdCount s = 1
/-- Whether a number is a configured member or the external referee. -/
def herdMember (s : State) (m : Nat) : Bool :=
  m < 32 && (bit (s.herdN .configMask) m || s.herdp .extRefId = (m : Int))
/-- Eligible: `HERD.ELIGIBLE`, cleared while the store is FAILED (R398). -/
def eligible (s : State) : Bool := s.herdp .eligible = 1 && !storeFailed s
def shadowFault (s : State) : Bool := s.herd.status.getLsbD 13
def herdFlag (i : Nat) (b : Bool) (s : State) : State := s.modHerd fun h => { h with status := setBit h.status i b }
/-- A herd mode change is applied: the rules that depend on the mode are tested again, STANDBY
ends (R446), and GRAZE_FAST returns to 0 outside TEST (R472). -/
def modeApplied (s : State) : State :=
  let s := if s.herd.mode == .test then s else s.modGraze fun g => { g with fast := false }
  -- Chamois, while it runs, takes the mode into its copy (R24)
  let s := s.modSaf fun x => { x with modeC := if x.lanes.chamoisUp then s.herd.mode else x.modeC }
  leaveStandby 2 (logicModeChange s)
def setMode (m : Mode) (s : State) : State := modeApplied (s.modHerd fun h => { h with mode := m })

/-- Join as MEMBER, or be SOLO (R356). -/
def rejoin (s : State) : State :=
  let solo := isSolo s
  let join := s.herdN .joinCycles
  logicModeChange (s.modHerd fun h =>
    { h with role := if solo then .solo else .member, master := 255, standby := 255, joinLeft := join, noMaster := 0,
             counted := [], prev := [], present := 0, pendMode := none, committed := false,
             oldMode := if solo then none else h.oldMode, grant := 0, pubGrant := 0, conflict := false, holdUntil := none,
             masterBleat := false, lastMaster := none, votes := [], candidate := none, noQuorum := 0, active := none,
             partialM := none, shadowRun := 0, missFrom := none, decision := none, snapshot := [],
             status := setBit h.status 15 false })

/-! ## The bleat (R358, R359) -/

def doorBits (f : Nat → Bool) : Nat := ofBits ((List.range 8).map f)

/-- Offsets 56 to 71 of a bleat. -/
def carBytes (s : State) : Bytes :=
  let rel (side : Nat) : Bool := carRelease s .ibex side && carRelease s .chamois side
  let ts := ofBits ((List.range 2).map fun train => (List.range 2).any fun side => trainSide s side = train && rel side)
  le 1 (doorBits (provenBoth s)) ++ le 1 (doorBits fun d => isolatedState (s.door d))
    ++ le 1 (doorBits fun d => s.doorOn d && (s.door d).leaf != .lockedClosed && (s.door d).leaf != .isolated)
    ++ le 1 (doorBits fun d => (s.door d).leaf == .faultHold)
    ++ le 1 (doorBits fun d => s.doorOn d && pairInactive s (3 * d + 2))
    ++ (kscPayload s .ibex).take 1 ++ le 1 ts ++ [0]
    ++ le 4 (wrap32 ((List.range 8).foldl (fun n d => n + (s.door d).ltCycles) 0)) ++ zeros 4

def bleatFlags (s : State) : Nat :=
  ofBits [s.time.valid, timeTrusted s, eligible s, s.saf.lanes.safe, mirrorOk s, shadowFault s, s.herd.status.getLsbD 15]

/-- The members whose bleats of the previous cycle were counted. -/
def seenMask (l : List Bleat) : Nat := ofBits ((List.range 32).map fun m => l.any fun b => b.member = m)

def ownBleat (s : State) : Bleat :=
  let h := s.herd
  let master := h.role == .master
  { member := selfM s, role := h.role.code, flags := bleatFlags s, term := h.term, cycle := h.cycle, epoch := h.epoch,
    mode := h.mode.code, pendMode := (h.pendMode.map Mode.code).getD 255, standby := h.standby, masterSeen := h.master,
    pendEpoch := if h.pendMode.isSome then h.pendEpoch else 0, applyAt := if h.pendMode.isSome then h.applyAt else 0,
    ackEpoch := h.ackEpoch, seen := seenMask h.prev,
    mirrorSeq := if master then h.mirrorSeq else if h.role == .standby then (h.active.map Mirror.seq).getD 0 else 0,
    car := carBytes s, grant := if master then h.pubGrant.toNat else 0, conflict := if master then b2n h.conflict else 0,
    loopsClosed := if master then h.train.1 else 0, doorsOpen := if master then h.train.2.1 else 0,
    faults := if master then h.train.2.2 else 0 }

/-- The 24 bytes of the header of a herd message. -/
def herdHead (s : State) (type term : Nat) : Bytes :=
  [0x4B, 0x48, 1] ++ le 1 type ++ le 4 (s.herdN .trainId) ++ le 1 (selfM s) ++ le 1 s.herd.role.code
    ++ le 2 (bleatFlags s) ++ le 4 term ++ le 8 s.herd.cycle

def bleatBytes (s : State) (b : Bleat) : Bytes :=
  sealRec (herdHead s 1 b.term ++ le 4 b.epoch ++ le 1 b.mode ++ le 1 b.pendMode ++ le 1 b.standby ++ le 1 b.masterSeen
    ++ le 4 b.pendEpoch ++ le 8 b.applyAt ++ le 4 b.ackEpoch ++ le 4 b.seen ++ le 4 b.mirrorSeq ++ fix 16 b.car
    ++ le 1 b.grant ++ le 1 b.conflict ++ [0, 0] ++ le 4 b.loopsClosed ++ le 4 b.doorsOpen ++ le 4 b.faults)

def readBleat (d : Bytes) : Bleat :=
  { member := rd d 8 1, role := rd d 9 1, flags := rd d 10 2, term := rd d 12 4, cycle := rd d 16 8, epoch := rd d 24 4,
    mode := rd d 28 1, pendMode := rd d 29 1, standby := rd d 30 1, masterSeen := rd d 31 1, pendEpoch := rd d 32 4,
    applyAt := rd d 36 8, ackEpoch := rd d 44 4, seen := rd d 48 4, mirrorSeq := rd d 52 4,
    car := (d.drop 56).take 16, grant := rd d 72 1, conflict := rd d 73 1, loopsClosed := rd d 76 4,
    doorsOpen := rd d 80 4, faults := rd d 84 4 }

/-- The checks of R358 on a received message. -/
def herdForm (s : State) (len : Nat) (d : Bytes) : Bool :=
  d.length = len && rd d 0 2 = 0x484B && rd d 2 1 = 1 && rd d 4 4 = s.herdN .trainId && crc32c (d.take (len - 4)) = rd d (len - 4) 4

/-- The checks of R358 and R362. -/
def herdOk (s : State) (type len src : Nat) (d : Bytes) : Bool :=
  let m := rd d 8 1
  herdForm s len d && rd d 3 1 = type && herdMember s m && m ≠ selfM s && (s.herdp .extRefId ≠ (m : Int) || src = s.herdN .extRefAddr)

/-- A message that R358 discards is counted. -/
def herdTaken (len : Nat) (d : Bytes) (s : State) : State :=
  if listens s && !herdForm s len d then s.modHerd fun h => { h with discarded := inc32 h.discarded } else s

/-- A bleat is counted in the present cycle (R360). -/
def countBleat (b : Bleat) (s : State) : State :=
  s.modHerd fun h => { h with counted := h.counted ++ [b], lastOf := vset h.lastOf b.member (some b) }

/-- A herd message is sent on both networks. -/
def sendHerd (d : Bytes) (s : State) : State := send (.herd d) s

/-! ## Train values (R363) and the choice of a standby (R357) -/

/-- Priority of a member: its own parameter; bleats do not carry that of others. -/
def herdPrio (s : State) (m : Nat) : Nat :=
  if m = selfM s then s.herdN .prio else (Config.open_ 960 [(m : Int)] % 256).toNat

/-- The best candidate among counted bleats: eligible REFEREEs without SHADOW_FAULT, highest priority, lowest number. -/
def bestCandidate (s : State) (l : List Bleat) : Option Nat :=
  let ok := l.filter fun b =>
    b.role = 2 && bit b.flags 0 && bit b.flags 2 && !bit b.flags 5 && s.herdp .extRefId ≠ (b.member : Int)
  (ok.map Bleat.member).foldl (fun best m =>
    match best with
    | none => some m
    | some c => if herdPrio s c < herdPrio s m || (herdPrio s c = herdPrio s m && m < c) then some m else some c) none

/-- Train values of a set of bleats: loops, doors open, faults, and the train sides reported. -/
structure TrainVals where
  loops : Nat
  open_ : Nat
  faults : Nat
  sides : Nat
  deriving DecidableEq, Repr

def trainVals (used : List Bleat) : TrainVals :=
  let mask (f : Bleat → Bool) : Nat := ofBits ((List.range 32).map fun m => used.any fun b => b.member = m && f b)
  { loops := mask fun b => bit (rd b.car 5 1) 1 && bit (rd b.car 5 1) 2,
    open_ := mask fun b => rd b.car 2 1 ≠ 0,
    faults := mask fun b => rd b.car 3 1 ≠ 0 || bit b.flags 3,
    sides := used.foldl (fun n b => n ||| (rd b.car 6 1 % 4)) 0 }

/-- The conflict latch after a cycle. -/
def conflictOf (s : State) (was : Bool) (sides : Nat) : Bool :=
  if sides = 0 then false else was || (s.herdp .bothSides = 0 && sides = 3)

/-- At a boundary the master forms the train values of the previous cycle and names a standby. -/
def masterBoundary (s : State) : State :=
  let used := s.herd.prev
  let v := trainVals used
  let c := conflictOf s s.herd.conflict v.sides
  let new := c && !s.herd.conflict
  let quorumLost := s.herd.status.getLsbD 15
  let s := s.modHerd fun h =>
    { h with train := (v.loops, v.open_, v.faults), conflict := c,
             pubGrant := if c || quorumLost then 0 else BitVec.ofNat 8 v.sides, mirrorSeq := wrap32 (h.mirrorSeq + 1),
             conflicts := if new then inc32 h.conflicts else h.conflicts }
  let s := if new then raise 205 1 (herdFlag 5 true s) else s
  let st := used.find? fun b => b.member = s.herd.standby
  let keep := match st with
    | some b => !bit b.flags 5
    | none => false
  if keep then s
  else
    let c := (bestCandidate s used).getD 255
    s.modHerd fun h => { h with standby := c }

/-! ## Cycle boundary (R350, R374, R377) -/

def cycleNow (s : State) : Nat := (s.time.ns / 10000000).floor.toNat + s.time.cycleOfs

/-- µs until module time reaches the next whole multiple of 10 ms. -/
def toBoundary (s : State) : Nat :=
  let next : Rat := (((s.time.ns / 10000000).floor + 1 : Int) : Rat) * 10000000
  ((next - s.time.ns) / (1000 * (1 + s.time.rate))).ceil.toNat

/-- A prepared change applies at its cycle (R374 step 7); the disagreement window begins (R375). -/
def applyPending (s : State) : State :=
  match s.herd.pendMode with
  | some m =>
    if s.herd.applyAt ≤ s.herd.cycle then
      modeApplied (s.modHerd fun h =>
        { h with oldMode := if h.role == .solo then none else some h.mode, mode := m, epoch := h.pendEpoch,
                 appliedAt := h.applyAt, pendMode := none, committed := false, decision := none })
    else s
  | none => s

/-- Writes of herd parameters act (R377); four of them make the module rejoin (R356). -/
def applyHerdWrites (s : State) : State :=
  let w := s.herd.writes
  let s := w.foldl (fun s e =>
    match keyOf e.1 with
    | some (.scalar p) => s.setVal p e.2
    | _ => s) (s.modHerd fun h => { h with writes := [] })
  let join := [Par.herd .member, Par.herd .configMask, Par.herd .trainId, Par.herd .extRefId].any fun p =>
    (sget w p.key).isSome
  if join then rejoin s else s

def effectBoundary (s : State) : State :=
  if !listens s then s
  else
    let s := if cycleNow s = s.herd.cycle then elapse (toBoundary s) s else s
    let s := applyPendingStep s
    let n := cycleNow s
    let s := s.modHerd fun h =>
      { h with cycle := n, boundaryAt := s.us, prev := h.counted, counted := [], staleNow := 0, windowClosed := false,
               masterBleat := false, fragment := 0, joinLeft := h.joinLeft - 1 }
    -- a hold whose end no row has reported (R364)
    let late : Bool := match s.herd.holdUntil with | some c => c < n | none => false
    let s := if late then s.modHerd fun h => { h with grant := 0, holdUntil := none } else s
    let s := applyPending (applyHerdWrites s)
    let s := if !s.time.valid && s.herd.role != .solo && s.herd.role != .member then
        s.modHerd fun h => { h with role := .member, joinLeft := s.herdN .joinCycles, candidate := none, votes := [] } else s
    if s.herd.role == .master then masterBoundary s else s

/-! ## Taking the values of a master's bleat (R364, R375, R368) -/

/-- What a master's bleat says about the mode (R374, R375). -/
def adoptMode (b : Bleat) (s : State) : State :=
  let h := s.herd
  let bm := Mode.ofCode b.mode
  let s :=
    if h.oldMode.isSome && h.appliedAt ≤ b.cycle then
      if b.epoch = h.epoch then logicModeChange (s.modHerd fun h => { h with oldMode := none })
      else
        let back := b.epoch < h.epoch
        let s := setMode bm (s.modHerd fun h => { h with oldMode := none, epoch := b.epoch })
        if back then raise 205 3 (herdFlag 4 true (s.modHerd fun h => { h with rollbacks := inc32 h.rollbacks })) else s
    else if b.epoch ≠ h.epoch || b.mode ≠ h.mode.code then setMode bm (s.modHerd fun h => { h with epoch := b.epoch })
    else s
  let s :=
    if b.pendMode ≠ 255 && b.pendEpoch ≠ 0 then
      if s.time.valid && b.cycle < b.applyAt then
        s.modHerd fun h => { h with pendMode := some (Mode.ofCode b.pendMode), pendEpoch := b.pendEpoch, applyAt := b.applyAt,
                                    ackEpoch := max h.ackEpoch b.pendEpoch }
      else s
    else s.modHerd fun h => { h with pendMode := none, decision := none }
  s.modHerd fun h => { h with lastEpoch := max h.lastEpoch (max b.pendEpoch b.epoch) }

/-- The standby's computation of the master's values and decisions (R372). -/
def shadowCompare (b : Bleat) (s : State) : State :=
  match s.herd.lastMaster with
  | none => s
  | some last =>
    let used := s.herd.prev.filter fun x => bit b.seen x.member
    let all := (List.range 32).all fun m => !bit b.seen m || used.any fun x => x.member = m
    if !all then s.modHerd fun h => { h with shadowSkip := inc32 h.shadowSkip }
    else
      let v := trainVals used
      let c := conflictOf s (last.conflict ≠ 0) v.sides
      let grant := if c || bit b.flags 6 then 0 else v.sides
      let same := b.epoch = last.epoch && b.mode = last.mode
      let pending := b.pendMode = last.pendMode && b.pendEpoch = last.pendEpoch && b.applyAt = last.applyAt
      let cleared := b.pendMode = 255
      let modeOk :=
        if last.pendMode = 255 then same && (cleared || last.epoch < b.pendEpoch)
        else
          match s.herd.decision with
          | some (e, ok) =>
            if e ≠ last.pendEpoch then true
            else if !ok then same && cleared
            else if last.applyAt ≤ b.cycle then b.epoch = last.pendEpoch && b.mode = last.pendMode
            else same && pending
          | none => b.cycle ≥ last.applyAt || (same && (pending || cleared))
      let good := b.grant = grant && (b.conflict ≠ 0) == c && b.loopsClosed = v.loops && b.doorsOpen = v.open_
        && b.faults = v.faults && modeOk
      s.modHerd fun h =>
        { h with shadowCmp := inc32 h.shadowCmp, shadowMis := if good then h.shadowMis else inc32 h.shadowMis,
                 shadowRun := if good then 0 else h.shadowRun + 1 }

/-- The values of an accepted master bleat apply, the master's own included (R364). -/
def applyMaster (b : Bleat) (s : State) : State :=
  let switched := s.herd.missFrom.isSome && (match s.herd.lastMaster with
    | some l => l.member ≠ b.member || l.term < b.term
    | none => false)
  let ms := match s.herd.missFrom with | some t => msSince s t | none => 0
  let s := if switched then herdFlag 2 true (s.modHerd fun h => { h with lastSwitchMs := ms }) else s
  s.modHerd fun h =>
    { h with master := b.member, term := max h.term b.term, grant := BitVec.ofNat 8 (b.grant % 4), holdUntil := none,
             noMaster := 0, masterBleat := true, lastMaster := some b, missFrom := none }

/-- The role that an accepted master bleat gives. -/
def roleFrom (s : State) (b : Bleat) : Role :=
  if s.herd.role == .member then .member
  else if b.standby = selfM s && !shadowFault s then .standby else .referee

/-- A master that meets a higher term steps down (R368). -/
def stepDown (s : State) : State :=
  raise 205 4 (s.modHerd fun h =>
    { h with role := .referee, master := 255, standby := 255, noQuorum := 0, noMaster := 0, pubGrant := 0, grant := 0,
             snapshot := [], status := setBit h.status 15 false })

def acceptMaster (b : Bleat) (s : State) : State :=
  let s := if s.herd.role == .master then stepDown s else s
  let s := if s.herd.role == .standby && mirrorOk s then shadowCompare b s else s
  let r := roleFrom s b
  let fresh := r == .standby && s.herd.role != .standby
  let s := s.modHerd fun h =>
    { h with role := r, standby := b.standby, conflict := b.conflict ≠ 0, candidate := none, votes := [],
             active := if fresh then none else h.active, partialM := if fresh then none else h.partialM,
             shadowRun := if fresh then 0 else h.shadowRun }
  adoptMode b (applyMaster b s)

/-! ## Bleats (R360) -/

def effectBleatTx (s : State) : State :=
  if !listens s then s
  else
    let s := forwardTo (some (s.herd.boundaryAt + 100 * selfM s)) s
    let b := ownBleat s
    let s := sendHerd (bleatBytes s b) s
    let s := if s.herd.windowClosed || !s.time.valid then s else countBleat b s
    if s.herd.role == .master then
      let s := applyMaster b s
      if s.herd.oldMode.isSome && s.herd.appliedAt ≤ b.cycle then logicModeChange (s.modHerd fun h => { h with oldMode := none })
      else s
    else s

def effectBleatRx (netB : Bool) (src : Nat) (data : Bytes) (s : State) : State :=
  let s := herdTaken 92 data s
  if !listens s || !herdOk s 1 92 src data then s
  else
    let b := readBleat data
    let n := b2n netB
    let s := s.modHerd fun h => { h with bleatRx := vset h.bleatRx n (wrap32 (vget h.bleatRx n 0 + 1)) }
    let h := s.herd
    if b.term < h.term || (h.counted.any fun x => x.member = b.member) then s
    else
      let out := b.cycle + 1 < h.cycle || h.cycle + 1 < b.cycle
      let s := if out then herdFlag 1 true (s.modHerd fun h => { h with staleNow := h.staleNow ||| 2 ^ b.member, stale := h.stale ||| 2 ^ b.member })
        else s
      let counts := b.cycle = h.cycle && !h.windowClosed && bit b.flags 0
      let s := if counts then countBleat b s else s
      if b.role ≠ 0 then s
      else if counts || (!s.time.valid && h.role == .member) then
        if h.role == .solo || (h.role == .master && b.term = h.term) then s else acceptMaster b s
      else if out && bit b.flags 0 && (h.role == .referee || h.role == .standby) then
        -- this module's own bleats are out of step with the master's (R355)
        s.modHerd fun h => { h with role := .member, joinLeft := s.herdN .joinCycles, candidate := none, votes := [] }
      else s

/-! ## The close of the window (R364, R366, R368, R374) -/

/-- A vote request for a term (R361). -/
def sendVoteReq (term reason : Nat) (s : State) : State :=
  sendHerd (sealRec (herdHead s 2 term ++ le 1 (selfM s) ++ le 1 reason ++ [0, 0] ++ le 4 s.herd.term)) s

/-- Request votes: a first request with this module's own vote, or the same request again. -/
def requestVotes (reason : Nat) (s : State) : State :=
  match s.herd.candidate with
  | some (t, r, 1) => sendVoteReq t r s
  | some _ => s
  | none =>
    let t := wrap32 (s.herd.term + 1)
    sendVoteReq t reason (s.modHerd fun h => { h with candidate := some (t, reason, 0), votes := [selfM s] })

/-- Whether this module may request votes at all (R366, R398). -/
def mayStand (s : State) : Bool := eligible s && s.time.valid && !shadowFault s

/-- An abort of the pending change. -/
def abortMode (s : State) : State :=
  herdFlag 3 true (s.modHerd fun h => { h with pendMode := none, committed := false, decision := none, aborts := inc32 h.aborts })

/-- The acknowledgements of the pending epoch. -/
def ackMaskOf (s : State) : Nat :=
  let e := s.herd.pendEpoch
  s.herd.ackMask ||| ofBits ((List.range 32).map fun m => s.herd.counted.any fun b => b.member = m && e ≤ b.ackEpoch)

/-- Whether every member present has acknowledged. -/
def allAcked (s : State) : Bool := s.herd.counted.all fun b => bit (ackMaskOf s) b.member

/-- The commit decision at the close of the window of cycle A − 5: the master and a SOLO module act on it, the standby keeps
its own result. -/
def decideMode (s : State) : State :=
  match s.herd.pendMode with
  | none => s
  | some _ =>
    let s := if s.herd.role == .master || s.herd.role == .solo then s.modHerd fun h => { h with ackMask := ackMaskOf s } else s
    if s.herd.cycle + 5 < s.herd.applyAt || s.herd.committed then s
    else if s.herd.role == .master || s.herd.role == .solo then
      if allAcked s then s.modHerd fun h => { h with committed := true } else abortMode s
    else if s.herd.role == .standby && s.herd.decision.isNone then
      let ok := s.herd.counted.all fun b => s.herd.pendEpoch ≤ b.ackEpoch
      s.modHerd fun h => { h with decision := some (h.pendEpoch, ok) }
    else s

/-- NO_QUORUM of the master (R368). -/
def masterQuorum (s : State) : State :=
  let others := (s.herd.counted.filter fun b => b.member ≠ selfM s).length
  if others + 1 < quorum s then
    if 3 ≤ s.herd.noQuorum then stepDown s else herdFlag 15 true (s.modHerd fun h =>
      { h with noQuorumCycles := inc32 h.noQuorumCycles, noQuorum := h.noQuorum + 1, grant := 0, pubGrant := 0 })
  else herdFlag 15 false (s.modHerd fun h => { h with noQuorum := 0 })

/-- No acceptable master bleat in the cycle (R364), and the standby's request (R366). -/
def masterMissing (s : State) : State :=
  let first := s.herd.noMaster = 0
  let s := s.modHerd fun h => { h with noMaster := h.noMaster + 1, missFrom := some (h.missFrom.getD s.us) }
  let stand := s.herd.role == .standby
  let others := (s.herd.counted.filter fun b => b.member ≠ selfM s).length
  let standbyHere := s.herd.standby ≠ 255 && (s.herd.counted.any fun b => b.member = s.herd.standby)
  let s :=
    if stand && others + 1 < quorum s then s.modHerd fun h => { h with grant := 0, holdUntil := none }
    else if standbyHere then
      if first then s.modHerd fun h => { h with holdUntil := some (h.cycle + 3) } else s
    else s.modHerd fun h => { h with grant := 0, holdUntil := none }
  match s.herd.candidate with
  | some (_, r, 1) => requestVotes r s
  | some _ => s
  | none => if first && stand && mirrorOk s && mayStand s then requestVotes 1 s else s

def effectWindowClose (s : State) : State :=
  if !listens s || s.herd.windowClosed then s
  else
    let s := forwardTo (some (s.herd.boundaryAt + 5000)) s
    let miss (v : Vector Nat 32) : Vector Nat 32 := Vector.ofFn fun m : Fin 32 =>
      if herdMember s m.val && m.val ≠ selfM s && !(s.herd.counted.any fun b => b.member = m.val)
      then inc32 (vget v m.val 0) else vget v m.val 0
    let s := s.modHerd fun h =>
      { h with windowClosed := true, present := seenMask h.counted, stale := h.staleNow, missed := miss h.missed,
               missedTerm := miss h.missedTerm }
    let s := decideMode s
    if s.herd.role == .solo then s
    else if s.herd.role == .master then masterQuorum s
    else if s.herd.masterBleat then s
    else masterMissing s

/-- The hold ends at the boundary three cycles after the first missed one. -/
def effectHoldEnd (s : State) : State :=
  match s.herd.holdUntil with
  | some c => if c ≤ s.herd.cycle then s.modHerd fun h => { h with grant := 0, holdUntil := none } else s
  | none => s

/-! ## Joining and elections (R356, R366) -/

def effectJoinCycles (s : State) : State :=
  if !listens s || s.herd.joinLeft ≠ 0 then s
  else if s.herd.role == .member then
    if s.time.valid then
      s.modHerd fun h => { h with role := if h.standby = selfM s && !shadowFault s then .standby else .referee }
    else s
  else if s.herd.role == .referee && s.herdN .joinCycles ≤ s.herd.noMaster && s.herd.candidate.isNone && s.herd.windowClosed
      && mayStand s && bestCandidate s s.herd.counted = some (selfM s) then requestVotes 0 s
  else s

/-! ## Votes (R361, R366, R367) -/

/-- The highest term for which this module has given its vote: granted, held, accepted, or its own candidature. -/
def votedTerm (s : State) : Nat := match s.herd.candidate with | some (t, _, _) => max t s.herd.term | none => s.herd.term

/-- The first failed condition of R367 for a request; none where the vote is granted. -/
def voteFails (s : State) (cand reason t : Nat) : Option Nat :=
  let h := s.herd
  let last := h.counted.find? fun b => b.member = cand
  let named := h.standby ≠ 255 && (h.counted.any fun b => b.member = h.standby)
  if t ≤ votedTerm s then some 0
  else if !(if reason = 1 then h.windowClosed && !h.masterBleat else s.herdN .joinCycles ≤ h.noMaster) then some 1
  else if !(if named then h.standby = cand else bestCandidate s h.counted = some cand) then some 2
  else
    match last with
    | some b => if bit b.flags 0 && bit b.flags 2 then none else some 3
    | none => some 3

def sendVote (t cand : Nat) (refused : Option Nat) (s : State) : State :=
  let g := match refused with | none => [1, 0] ++ [0] | some i => [0] ++ le 1 (2 ^ i) ++ [0]
  sendHerd (sealRec (herdHead s 3 t ++ le 1 cand ++ g ++ le 4 s.herd.term)) s

def effectVoteReqRx (src : Nat) (data : Bytes) (s : State) : State :=
  let s := herdTaken 36 data s
  let cand := rd data 24 1
  if !listens s || !herdOk s 2 36 src data || rd data 8 1 ≠ cand || storeFailed s
      || !(s.herd.role == .referee || s.herd.role == .standby) then s
  else
    let t := rd data 12 4
    if t = s.herd.term && s.herd.grantedTo = some cand then sendVote t cand none s
    else
      match voteFails s cand (rd data 25 1) t with
      | some i => sendVote t cand (some i) s
      | none =>
        sendVote t cand none (s.modHerd fun h => { h with term := t, grantedTo := some cand, votesGranted := inc32 h.votesGranted })

def effectVoteRx (src : Nat) (data : Bytes) (s : State) : State :=
  let s := herdTaken 36 data s
  if !listens s || !herdOk s 3 36 src data then s
  else
    match s.herd.candidate with
    | some (t, _, _) =>
      let m := rd data 8 1
      if rd data 12 4 = t && rd data 24 1 = selfM s && rd data 25 1 = 1 && !(s.herd.votes.any fun v => v = m)
          && s.us ≤ s.herd.boundaryAt + 9000 then s.modHerd fun h => { h with votes := m :: h.votes } else s
    | none => s

/-- Take over as master of a term, from the active mirror snapshot where the old master is lost (R369, R371, R375). -/
def becomeMaster (t reason : Nat) (s : State) : State :=
  let snap := if reason = 1 then s.herd.active else none
  let s := s.modHerd fun h =>
    { h with role := .master, term := t, grantedTo := some (selfM s), master := selfM s, standby := 255, candidate := none, votes := [],
             noQuorum := 0, status := setBit h.status 15 false, active := none, partialM := none, snapshot := [],
             shadowRun := 0, pubGrant := 0, conflict := h.conflict, missedTerm := .replicate 32 0 }
  let s :=
    match snap with
    | none => s
    | some m =>
      let d := m.data
      let pend := rd d 21 1
      let s := s.modHerd fun h =>
        { h with mirrorSeq := m.seq, conflict := rd d 23 1 ≠ 0, ackMask := rd d 28 4,
                 pendMode := if pend = 255 then none else some (Mode.ofCode pend), pendEpoch := rd d 24 4, applyAt := rd d 32 8,
                 committed := pend ≠ 255 && rd d 32 8 < h.cycle + 5, lastEpoch := max h.lastEpoch (max (rd d 24 4) (rd d 16 4)) }
      if rd d 16 4 = s.herd.epoch && rd d 20 1 = s.herd.mode.code then s
      else setMode (Mode.ofCode (rd d 20 1)) (s.modHerd fun h => { h with epoch := rd d 16 4 })
  if reason = 1 then herdFlag 2 true (s.modHerd fun h => { h with switchovers := inc32 h.switchovers }) else s

def effectVoteDeadline (s : State) : State :=
  match s.herd.candidate with
  | none => s
  | some (t, r, tries) =>
    let s := forwardTo (some (s.herd.boundaryAt + 9000)) s
    if quorum s ≤ s.herd.votes.length then becomeMaster t r s
    else if tries = 0 then s.modHerd fun h => { h with candidate := some (t, r, 1) }
    else s.modHerd fun h =>
      { h with candidate := none, votes := [], joinLeft := if r = 0 then s.herdN .joinCycles else h.joinLeft }

def effectMasterStepDown (s : State) : State :=
  if s.herd.role == .master && 3 ≤ s.herd.noQuorum then stepDown s else s

/-! ## The mirror (R370, R371) -/

/-- Entry m of a snapshot. -/
def mirrorEntry (s : State) (m : Nat) : Bytes :=
  let h := s.herd
  match vget h.lastOf m none with
  | some b =>
    le 8 b.cycle ++ fix 16 b.car ++ le 1 b.role ++ le 1 (b2n (bit h.present m) + 2 * b2n (bit b.flags 0) + 4 * b2n (bit b.flags 2))
      ++ [0, 0] ++ le 4 (vget h.missedTerm m 0) ++ le 4 b.ackEpoch ++ zeros 28
  | none => zeros 28 ++ le 4 (vget h.missedTerm m 0) ++ zeros 32

def snapshotOf (s : State) : Bytes :=
  let h := s.herd
  let mask := s.herdN .configMask
  let n := (((List.range 32).filter fun m => bit mask m).getLastD 0) + 1
  let len := 68 + 64 * n
  sealRec (le 4 h.mirrorSeq ++ le 4 h.term ++ le 8 h.cycle ++ le 4 h.epoch ++ le 1 h.mode.code
    ++ le 1 ((h.pendMode.map Mode.code).getD 255) ++ le 1 h.pubGrant.toNat ++ le 1 (b2n h.conflict)
    ++ le 4 (if h.pendMode.isSome then h.pendEpoch else 0) ++ le 4 h.ackMask ++ le 8 (if h.pendMode.isSome then h.applyAt else 0)
    ++ le 4 h.train.1 ++ le 4 h.train.2.1 ++ le 4 h.train.2.2 ++ le 4 h.present ++ le 2 len ++ zeros 6
    ++ (List.range n).flatMap (mirrorEntry s))

/-- One fragment of the snapshot that the master builds after its bleat. -/
def effectMirrorTx (s : State) : State :=
  if !listens s || s.herd.role != .master then s
  else
    let s := forwardTo (some (s.herd.boundaryAt + 1000)) s
    let snap := if s.herd.fragment = 0 then snapshotOf s else s.herd.snapshot
    let frags := (snap.length + 255) / 256
    let k := s.herd.fragment
    if frags ≤ k then s
    else
      let part := (snap.drop (256 * k)).take 256
      let s := s.modHerd fun h => { h with snapshot := snap, fragment := k + 1 }
      sendHerd (sealRec (herdHead s 4 s.herd.term ++ le 4 s.herd.mirrorSeq ++ le 1 k ++ le 1 frags ++ le 2 part.length ++ part)) s

/-- A complete snapshot: all fragments in order, its length and its CRC. -/
def assemble (m : Mirror) : Option Bytes :=
  let parts := (List.range m.frags).map fun k => getD m.parts k []
  let d := parts.flatten
  if m.parts.length = m.frags && d.length = rd d 56 2 && 68 ≤ d.length && crc32c (d.take (d.length - 4)) = rd d (d.length - 4) 4
  then some d else none

def effectMirrorRx (src : Nat) (data : Bytes) (s : State) : State :=
  let len := rd data 30 2
  let s := herdTaken (36 + len) data s
  let term := rd data 12 4
  let seq := rd data 24 4
  let k := rd data 28 1
  let frags := rd data 29 1
  if !listens s || s.herd.role != .standby || 256 < len || frags ≤ k || !herdOk s 4 (36 + len) src data
      || term < s.herd.term || rd data 8 1 ≠ s.herd.master then s
  else
    let part := (data.drop 32).take len
    let cur := match s.herd.partialM with
      | some m => if m.term = term && m.seq = seq then some m
                  else if m.term < term || (m.term = term && m.seq < seq) then some ⟨seq, term, frags, [], []⟩ else none
      | none => some ⟨seq, term, frags, [], []⟩
    match cur with
    | none => s
    | some m =>
      let m : Mirror := { m with parts := put m.parts k part }
      match assemble m with
      | some d => s.modHerd fun h => { h with active := some { m with data := d, parts := [] }, activeAt := rd d 8 8, partialM := none }
      | none => s.modHerd fun h => { h with partialM := some m }

/-! ## SHADOW_FAULT (R372) -/

def effectShadowFault (s : State) : State :=
  if s.herd.role == .standby && s.herdN .shadowMissMax ≤ s.herd.shadowRun && !shadowFault s then
    raise 205 2 (herdFlag 13 true (s.modHerd fun h => { h with role := .referee }))
  else s

/-- A write of `HERD.ELIGIBLE` clears it. -/
def clearShadowFault (s : State) : State := herdFlag 13 false (s.modHerd fun h => { h with shadowRun := 0 })

/-! ## HERD_MODE_PREPARE and HERD_MODE_ABORT (R312, R374) -/

def notMaster (s : State) : Outcome := Outcome.bad .herdNotMaster (if s.herd.master = 255 then 0xFFFF else s.herd.master)

def herdPrepare (mode applyAt : Nat) (s : State) : State × Outcome :=
  if !(s.herd.role == .master || s.herd.role == .solo) then (s, notMaster s)
  else if 4 < mode || applyAt < s.herd.cycle + 6 then (s, Outcome.bad .outOfRange 0)
  else if s.herd.pendMode.isSome then (s, Outcome.bad .busyRetry 2)
  else
    let e := wrap32 (max s.herd.epoch s.herd.lastEpoch + 1)
    (s.modHerd fun h =>
      { h with pendMode := some (Mode.ofCode mode), pendEpoch := e, applyAt := applyAt, committed := false, lastEpoch := e,
               ackEpoch := e, ackMask := 2 ^ selfM s, decision := none }, Outcome.ok (le 4 e))

def herdAbort (epoch : Nat) (s : State) : State × Outcome :=
  if !(s.herd.role == .master || s.herd.role == .solo) then (s, notMaster s)
  else if s.herd.pendMode.isNone || s.herd.pendEpoch ≠ epoch then (s, Outcome.bad .outOfRange 1)
  else if s.herd.committed || s.herd.applyAt < s.herd.cycle + 5 || (s.herd.applyAt = s.herd.cycle + 5 && s.herd.windowClosed)
  then (s, Outcome.bad .outOfRange 2)
  else (abortMode s, Outcome.ok [])

end Sys2Proof.Machine
end

