-- ==== Sys2Proof/Machine/Start.lean ====
section
/-! DEFINITION. Start and restart (R402 to R423), the store of the journal engine (R382, R395 to R399) and the power-fail
shutdown (R434). -/

namespace Sys2Proof.Machine

/-! ## Banks (R422) -/

/-- The CRC-32C of each 4 KiB page of a bank's contents (R32), in the order of the pages; `n` bounds their number. -/
def pageCrcs : Nat → Bytes → List Nat
  | 0, _ => []
  | _, [] => []
  | n + 1, b => crc32c (b.take 4096) :: pageCrcs n (b.drop 4096)
def bankCrcs (s : State) (b : Nat) : List Nat := pageCrcs 4096 (vget s.boot.bankImage b [])

def bankState (s : State) (b : Nat) : Nat := vget s.boot.bankState b 0
/-- The bank that a start of a cause boots: a TRIAL bank is first booted at a power-on, or at once by FW_ACTIVATE. -/
def bootBank (s : State) (cause : Nat) : Nat :=
  let other := 1 - s.boot.activeBank
  if (cause = 0 || cause = 2) && bankState s other = 2 then other else s.boot.activeBank
def trial (s : State) : Bool := bankState s s.boot.activeBank = 2

/-! ## A full start (R402 to R406, R459) -/

/-- What one axis keeps: lifetime counters, stored learning, leaf-clock points 8 to 31 and its phase record. A record whose
write was not confirmed, or whose axis lost its phase since, is not valid (R115, R116). -/
def axisAtStart (configured : Bool) (x : Axis) : Axis :=
  let keep := x.drive.recordDue.isNone && x.drive.phaseValid
  { Axis.atReset configured with
    learned := x.saved, saved := x.saved, lcTable := mixPoints lcUnused x.lcTable
    drive := { (Axis.atReset configured).drive with record := if keep then x.drive.record else x.drive.record.map fun r => { r with valid := false } }
    ltMoves := x.ltMoves, ltDist := x.ltDist, ltDistRem := x.ltDistRem, ltEnergUs := x.ltEnergUs, ltSto := x.ltSto,
    ltStage := x.ltStage, ltHomings := x.ltHomings }

/-- What one doorway keeps: isolation, stored seal references, learning state, lifetime counters. -/
def doorAtStart (x : Doorway) : Doorway :=
  { Doorway.reset with
    sealRef := x.savedSealRef, savedSealRef := x.savedSealRef, learn := x.savedLearn, savedLearn := x.savedLearn,
    teachLeft := x.savedTeachLeft, savedTeachLeft := x.savedTeachLeft,
    isolated := x.isolated, isolatedChamois := x.isolated, ltCycles := x.ltCycles, ltObst := x.ltObst,
    ltSealFails := x.ltSealFails, ltRedrives := x.ltRedrives, ltReopens := x.ltReopens, ltEgress := x.ltEgress,
    ltFaults := x.ltFaults, ltIsol := x.ltIsol }

def supplyAtStart (u : Supply) : Supply :=
  { Supply.reset with
    logicVolt := u.logicVolt, logicNom := u.logicNom, nomDue := u.nomDue, driveVolt := u.driveVolt, driveNom := u.driveNom, regenTemp := u.regenTemp,
    pfWarnings := u.pfWarnings, bridged := u.bridged, wakeSrc := u.wakeSrc, logicTemp := u.logicTemp, baseTemp := u.baseTemp,
    basePeak := u.baseTemp, base105Us := u.base105Us, base125Us := u.base125Us, energyDrive := u.energyDrive,
    energyLogic := u.energyLogic, soSupply := u.soSupply }

/-- Step 1 of a full start of a cause: everything that is not stored is as after reset. -/
def fullStart (cause : Nat) (s : State) : State :=
  let bank := bootBank s cause
  let tries := if bankState s bank = 2 then s.boot.bootTries + 1 else s.boot.bootTries
  let kept := s.boot.kept
  let par := match kept with | some k => k.par | none => s.par
  let mode := match kept with | some k => k.mode | none => s.herd.mode
  let axis (a : Nat) : Axis := match kept with | some k => (s.axis a).withLife (vget k.axes a (s.axis a).life) | none => s.axis a
  let door (d : Nat) : Doorway := match kept with | some k => (s.door d).withLife (vget k.doors d (s.door d).life) | none => s.door d
  let look := { s with par := par }.val
  let on (a : Nat) : Bool := slotIn (look (.dw (doorOf a) .type)) (look (.dw (doorOf a) .stepMode)) (slotOf a)
  { State.reset with
    pending := s.pending, us := s.us, fresh := s.fresh
    par := par
    ax := Vector.ofFn fun a : Fin 24 => axisAtStart (on a.val) (axis a.val)
    dw := Vector.ofFn fun d : Fin 8 => doorAtStart (door d.val)
    saf := { Safety.reset with commitCount := s.saf.commitCount, heldOff := s.saf.heldOff, modeC := mode,
                               lanes := { Safety.reset.lanes with restarts := s.saf.lanes.restarts, restartTimes := s.saf.lanes.restartTimes } }
    stations := s.stations.map fun x => { Station.reset with subst := x.subst }
    logic := { Logic.reset with
      active := match kept with | some k => k.plan | none => s.logic.active
      activeBytes := match kept with | some k => k.planBytes | none => s.logic.activeBytes
      retained := if kept.isSome then none else s.logic.retained }
    kcp := { Kcp.reset with outbox := s.kcp.outbox }
    net := { Net.reset with ports := s.net.ports.map fun p => { NetPort.reset with macHi := p.macHi, macLo := p.macLo },
                            keys := s.net.keys, sent := s.net.sent }
    herd := { Herd.reset with term := s.herd.term, mode := mode }
    jrn := { Journal.reset with
      regions := s.jrn.regions, spare := s.jrn.spare, sealCount := s.jrn.sealCount, lastSeal := s.jrn.lastSeal, sealAt := s.jrn.sealAt,
      caddySince := s.jrn.caddySince, scrubPassH := s.jrn.scrubPassH, scrubAt := s.jrn.scrubAt, priorStates := s.jrn.priorStates,
      opTime := s.jrn.opTime, powerCycle := s.jrn.powerCycle, storedOpTime := s.jrn.storedOpTime, newestTime := s.jrn.newestTime }
    ev := { Events.reset with sticky := s.ev.sticky }
    boot := { s.boot with
      power := .on, cause := cause, warm := false, info := 0, step := 1, stepUs := s.us, startMs := 0, activeBank := bank,
      bootTries := tries, confirmFrom := none, restartPending := none, laneDown := [], fwImage := [],
      fwSize := none, fwVerified := false, fwVerifying := false, revertSet := none, feedsOnAt := 0, kept := none }
    sup := supplyAtStart (match kept with | some k => s.sup.withLife k.power | none => s.sup)
    tab := { Tables.reset with cams := s.tab.cams, sines := match kept with | some k => k.sines | none => s.tab.sines } }

/-- A try of the running bank fails (R422): after the third a TRIAL bank is given up for the other one. -/
def failTry (cause : Nat) (s : State) : State :=
  if trial s && 3 ≤ s.boot.bootTries then
    let b := s.boot.activeBank
    fullStart 3 (s.modBoot fun t =>
      { t with bankState := vset (vset t.bankState b 4) (1 - b) 3, fallbacks := inc32 t.fallbacks, activeBank := 1 - b })
  else fullStart cause s

/-- LOGIC supply applied (R402): from off, SLEEP or the halt of R421. A shutdown under way is not cancelled (R434). -/
def effectPowerOn (s : State) : State :=
  match s.boot.power with
  | .off | .sleep | .halted => fullStart 0 (s.modSup fun u => { u with nomDue := true })
  | _ => s

/-! ## Step 2 (R407) -/

def effectLaneBoot (ok : Bool) (s : State) : State :=
  if s.boot.power != .on || s.boot.step ≠ 1 then s
  else
    let s := forwardTo (some (s.boot.stepUs + 1250000)) s
    if ok then s.modBoot fun b => { b with step := 3 } else failTry s.boot.cause s

/-! ## Step 3 (R380, R382, R408 to R413) -/

/-- Operating time and power-cycle count go on from the largest value found (R382). -/
def startCounters (s : State) : State :=
  let heads := (List.range 5).filterMap fun r => if (s.region r).next = 0 then none else get (s.region r).recs ((s.region r).next - 1)
  let op := heads.foldl (fun m b => max m (rd b 0 6)) s.jrn.storedOpTime
  let pc := heads.foldl (fun m b => max m (rd b 6 4)) s.jrn.powerCycle
  s.modJrn fun j => { j with opTime := op + 1, opTimeUs := 0, storedOpTime := op + 1, powerCycle := sat32 (pc + 1) }

/-- Every writable parameter, or every RWS parameter, takes the default of a set. -/
def defaultsOf (set : Nat) (ps : List Par) (s : State) : State := ps.foldl (fun s p => s.setVal p (p.dflt set)) s

/-- The loss of one item (R380, R411, R412). -/
def loseItem (s : State) (i : StoreItem) : State :=
  match i with
  | .phase a => s.modDrive a fun d => { d with record := none }
  | .learned a => s.modAxis a fun x => { x with learned := Learned.empty, saved := Learned.empty }
  | .sealRef d => s.modDoor d fun x =>
      { x with sealRef := .replicate 4 SealRef.empty, savedSealRef := .replicate 4 SealRef.empty, learn := 0, savedLearn := 0,
               teachLeft := 0, savedTeachLeft := 0 }
  | .sine t => { s with tab := { s.tab with sines := vset s.tab.sines t [] } }
  | .retained => s.modLogic fun g => { g with retained := none }
  | .points a => s.modAxis a fun x => { x with lcTable := lcUnused }
  | .cam t => { s with tab := { s.tab with cams := vset s.tab.cams t none } }
  | .subst f => s.modStation f fun x => { x with subst := zeros 64 }

/-- The items that a cold start sets to their cold values (R411). -/
def coldItems : List StoreItem :=
  (List.range 24).flatMap (fun a => [StoreItem.phase a, .learned a]) ++ (List.range 8).map StoreItem.sealRef
    ++ [1, 2, 3].map StoreItem.sine ++ [.retained]

/-- The host-owned outputs hold their safe value after a start (R326). -/
def startPins (s : State) : State := each 112 (fun s n => if ownedBy s n 3 then safePin n s else s) s

/-- The START record and its event (R384, R385, R457). -/
def startRecord (s : State) : State :=
  let fw := vget s.boot.fwVersion s.boot.activeBank 0
  let s := kindRecord 5 0 (le 1 (b2n s.boot.warm) ++ le 1 s.boot.cause ++ le 4 fw) true s
  raise 195 (s.boot.cause + 256 * b2n s.boot.warm + 65536 * s.boot.info.toNat) s

/-- The start goes on after a failed store check (R409): defaults in SRAM, no plan, regions FAILED. -/
def withoutStore (s : State) : State :=
  let s := keepStored s
  let s := (s.modHerd fun h => { h with mode := .service }).modSaf fun x => { x with modeC := .service }
  let s := defaultsOf s.boot.orderCode allWritable { s with par := [] }
  let s := s.modLogic fun g => { g with active := none, activeBytes := [], retained := none }
  let s := { s with ax := s.ax.map fun (x : Axis) => { x with learned := Learned.empty } }
  let s := { s with dw := s.dw.map fun (x : Doorway) => { x with sealRef := .replicate 4 SealRef.empty, learn := 0, teachLeft := 0 }
                    tab := { s.tab with sines := .replicate 4 [] } }
  failStore 5 s

/-- The rest of step 3: warm or cold, the configuration, the START record; steps 4 to 6 begin. -/
def afterCheck (passed : Bool) (r : StoreReport) (s : State) : State :=
  let req := s.modp .coldReq = 1
  let s := if passed then recoverStore s else withoutStore s
  let cold := !passed || r.firstStart || r.formatChanged || req
  let s := if cold && passed then coldItems.foldl loseItem s else s
  let s := if passed then r.lost.foldl loseItem s else s
  let s := s.setVal (.mod .coldReq) 0
  let lostSafety := passed && r.safetyLost
  let s := if lostSafety then defaultsOf s.boot.orderCode safetyPars (s.modSaf fun x => { x with heldOff := true }) else s
  let crc := activeCrc s
  let s := s.modSaf fun x => { x with configCrc := crc, configCrcC := crc }
  let info : Nat := ofBits [r.firstStart && passed, req && passed, r.formatChanged && passed, false, false, passed && r.lost ≠ [], lostSafety, !passed]
  let s := s.modBoot fun b =>
    { b with warm := !cold, info := BitVec.ofNat 8 info, step := 5, storeCheckMs := min r.ms 2000 }
  let s := startPrecharge (startPins s)
  let s := startRecord s
  let s := if s.boot.cause = 3 then raise 196 1 s else s
  rejoin (s.modHerd fun h => { h with boundaryAt := s.us })

def effectStoreCheck (r : StoreReport) (s : State) : State :=
  if s.boot.power != .on || s.boot.step ≠ 3 then s
  else
    let s := elapse (1000 * min r.ms 2000) s
    afterCheck (r.passed && r.ms ≤ 2000) r (startCounters s)

def effectStoreTimeout (s : State) : State :=
  if s.boot.power != .on || s.boot.step ≠ 3 then s
  else afterCheck false ⟨false, 2000, false, false, false, []⟩ (startCounters (elapse 2000000 s))

/-! ## Step 5 (R415) -/

/-- A pair as the dark test leaves it in a lane: contacts open, INACTIVE seen except for the reset pair. -/
def darkPair (p : Nat) (now : Nat) (x : PairLane) : PairLane :=
  { x with c1 := ⟨false, false, now⟩, c2 := ⟨false, false, now⟩, result := .inactive, timer := none, latched := false,
           seenInactive := p ≠ 27 }

def darkLane (lane : Lane) (s : State) : State :=
  each 32 (fun s p => s.modPair lane p fun x => if pairType s p = 0 then x else darkPair p s.us x) s

def effectDarkTest (refs : List ContactRef) (s : State) : State :=
  if s.boot.power != .on || s.boot.step ≠ 5 then s
  else
    let s := darkLane .chamois (darkLane .ibex (elapse 20000 s))
    let s := setReset .chamois { ResetLane.reset with feedAt := s.us } (setReset .ibex { ResetLane.reset with feedAt := s.us } s)
    let s := darkContacts refs s
    s.modBoot fun b => { b with step := 6, feedsOnAt := s.us }

/-! ## Phase memory (R416) -/

/-- A leaf or swing axis is held by its lock. -/
def heldByLock (s : State) (a : Nat) : Bool :=
  slotOf a = 2 || (bothActive s (3 * doorOf a) && bothActive s (3 * doorOf a + 1))

/-- Condition 4: three consecutive good frames agree with the restored position. -/
def ssiAgrees (s : State) (a : Nat) (r : PhaseRec) : Bool :=
  let d := doorOf a
  ssiAxisOf s d ≠ some a ||
    (let pos : Rat := (r.encCount : Rat) * umCount s a + r.posOfs
     let l := (s.axis a).fb.ssiLast
     (s.axis a).fb.ssiOk && 3 ≤ l.length && (l.take 3).all fun x => absR ((x : Rat) - pos) ≤ (s.dwp d .ssiTol : Rat))

/-- Validate and restore the phase record of one axis. -/
def restorePhase (s : State) (a : Nat) : State :=
  if !s.axOn a then s.modDrive a fun d => { d with state := .disabled, stoDone := true }
  else
    match (s.axis a).drive.record with
    | none => s
    | some r =>
      if s.boot.warm && r.valid && (r.cause = 1 || r.cause = 2) && heldByLock s a && ssiAgrees s a r then
        let um := umStep s a
        let s := s.modAxis a fun x =>
          { x with
            cmd := (r.ustepPos : Rat) * um, cmdPrev := (r.ustepPos : Rat) * um
            fb := ({ x.fb with count := r.encCount, dup := r.encCount, raw := r.encCount, dupRaw := r.encCount, overflow := 0,
                               snap := r.encCount, prevSnap := r.encCount, posOfs := r.posOfs, indexPos := r.indexPos }).mark 13 r.indexRef
            drive := { x.drive with state := .parked, phaseOfs := offsetFor s a r.ustepPos r.phase, phaseValid := true,
                                    commOffset := r.commOffset, commValid := r.commValid,
                                    commPrev := if r.commValid then some r.commOffset else x.drive.commPrev } }
        setPosValid a true s
      else s

/-! ## Step 7 (R418, R419) -/

def setFirst (d : Nat) (st : DState) (s : State) : State :=
  s.modDoor d fun x => { x with leaf := st, shown := st, closedAt := s.us, step := stepRest s d }

def firstState (s : State) (d : Nat) : DState :=
  let proof := provenBoth s d
  let known := (s.axesOf d).all fun a => posValid s a
  let mode := s.effMode
  if !s.doorOn d then .unconfigured
  else if (s.door d).isolated && !s.boot.info.getLsbD 7 then .isolated
  else if s.boot.info.getLsbD 7 || s.saf.heldOff then .faultHold
  else if !bothActive s (3 * d + 2) then .egress
  else if proof && known then .lockedClosed
  else if proof && (mode == .maintenance || (bit (s.modN .startHome) d && mode != .wash)) then .homing
  else .faultHold

def initDoor (s : State) (d : Nat) : State :=
  let st := firstState s d
  -- the axes of an EGRESS or of a start without a safety configuration are in STO (R418)
  let sto := st == .egress || (st == .faultHold && (s.boot.info.getLsbD 7 || s.saf.heldOff))
  let s := if sto then (s.axesOf d).foldl (fun s a => s.modDrive a fun x => { x with state := .sto }) s else s
  let s := s.modDoor d fun x => { x with isolatedChamois := st == .isolated }
  if st == .homing then enterHoming d (setFirst d .faultHold s)
  else if st == .lockedClosed then writePoints d (setFirst d st s)
  else setFirst d st s

/-- Pairs in use have been read for their filter time since the feeds returned. -/
def filtersDone (s : State) : Nat :=
  s.boot.feedsOnAt + 1000 * ((List.range 32).foldl (fun m p => if pairType s p = 0 then m else max m (s.safN (.inFiltMs p))) 0)

/-- Herd listening has ended (R417). -/
def heardHerd (s : State) : Bool := isSolo s || s.herd.lastMaster.isSome || s.herd.joinLeft = 0

/-- Both lanes withdraw the start demand; each keeps its own reasons. -/
def endStartDemand (s : State) : State :=
  each 24 (fun s a =>
    s.modDrive a fun d => { d with demandIbex := s.axOn a && stoReason s .ibex a, demandChamois := s.axOn a && stoReason s .chamois a,
                                   stoDone := true, stoSince := none }) s

def effectStep7 (s : State) : State :=
  if s.boot.power != .on || s.boot.step ≠ 6 || !heardHerd s then s
  else
    let s := forwardTo (some (filtersDone s)) s
    let s := (List.range 24).foldl restorePhase s
    let s := (List.range 8).foldl initDoor s
    let s := endStartDemand s
    let s := s.modSaf fun x =>
      { x with dlSinceI := none, dlSinceC := none, spSinceI := none, spSinceC := none, dlReadyI := false, dlReadyC := false,
               spReadyI := false, spReadyC := false }
    let s := s.modBoot fun b =>
      { b with step := 0, startMs := (s.us - b.stepUs) / 1000, confirmFrom := if trial s then some s.jrn.opTime else none }
    let s := startLink (kscStart s)
    autostart (!s.boot.warm) s

/-- TRIAL_CONFIRMATION (R423): 60 s of operating time after step 7. -/
def effectTrialConfirm (s : State) : State :=
  match s.boot.confirmFrom with
  | none => s
  | some t =>
    if !trial s then s
    else
      let s := forwardTo (some (s.us + 1000 * (t + 60000 - s.jrn.opTime))) s
      let b := s.boot.activeBank
      let s := s.modBoot fun x =>
        { x with bankState := vset (if vget x.bankState (1 - b) 0 = 3 then vset x.bankState (1 - b) 1 else x.bankState) b 3,
                 bootTries := 0, minSec := vget x.secVersion b 0, confirmFrom := none }
      raise 196 2 s

/-! ## Lane restarts (R27, R420, R421) -/

/-- What stops with Ibex: sessions, engines and everything that lives in its SRAM. -/
def stopIbex (s : State) : State :=
  let s := endSessions (fun _ => true) s
  let s := (s.modKcp fun k => { Kcp.reset with outbox := k.outbox }).modSaf fun x => { x with commit := none }
  let s := s.modJrn fun j => { j with held := [], queue := [] }
  let s := s.modHerd fun h => { h with role := if isSolo s then .solo else .member, candidate := none, votes := [] }
  { (s.modLogic fun g => { g with state := .stop, running := [], ready := [] }) with reqs := [], probe := [] }

/-- STO at once on every configured axis. -/
def stoAll (s : State) : State := each 24 (fun s a => if s.axOn a then demandSto a .chamois (demandSto a .ibex s) else s) s

/-- A lane halts with a cause of R402, also while it restarts or the other lane does. A fourth restart within 600 s of operating
time halts both lanes; on a TRIAL bank the module starts anew instead. -/
def haltLane (lane : Lane) (cause bitNo : Nat) (s : State) : State :=
  if s.boot.power != .on then s
  else if trial s then failTry cause s
  else
    let recent := s.saf.lanes.restartTimes.filter fun t => s.jrn.opTime ≤ t + 600000
    if 3 ≤ recent.length then
      let s := raise 196 3 (takeSafeState bitNo s)
      let s := stoAll s
      (stopIbex s).modBoot fun b => { b with power := .halted }
    else
      let s := s.modLanes fun l =>
        { l with restarts := inc32 l.restarts, restartTimes := s.jrn.opTime :: recent,
                 ibexUp := l.ibexUp && lane != .ibex, chamoisUp := l.chamoisUp && lane != .chamois }
      -- with Ibex the fabric enable path drops at once (R27)
      let s := if lane == .ibex then stoAll s else s.modSaf fun x => { x with shadowC := [] }
      let s := takeSafeState bitNo s
      let s := if lane == .ibex then stopIbex s else s
      s.modBoot fun b =>
        { b with laneDown := (lane, cause) :: b.laneDown.filter (fun x => x.1 != lane), confirmFrom := none }

/-- The restarted lane rejoins the exchange (R420, R459). -/
def effectLaneDone (lane : Lane) (s : State) : State :=
  match s.boot.power, s.boot.laneDown.find? fun x => x.1 == lane with
  | .on, some (_, cause) =>
    let s := s.modLanes fun l =>
      { l with ibexUp := l.ibexUp || lane == .ibex, chamoisUp := l.chamoisUp || lane == .chamois, goodRun := 0, exchangedAt := none, slotsI := 0, slotsC := 0,
               badWindowsIbex := if lane == .ibex then 0 else l.badWindowsIbex,
               badWindowsChamois := if lane == .chamois then 0 else l.badWindowsChamois, disagree := [] }
    let s := each 32 (fun s p => s.modPair lane p fun x =>
      if pairType s p = 0 then x
      else { x with c1 := { x.c1 with filt := false, since := s.us }, c2 := { x.c2 with filt := false, since := s.us },
                    result := .inactive, timer := none, latched := false, seenInactive := p ≠ 27 }) s
    let s := modKsc lane (fun _ => { Ksc.reset with state := if s.safN .kscConnId = 0 then .off else .lost }) s
    let s := setReset lane { ResetLane.reset with feedAt := s.us } s
    -- Chamois reads the stored isolations and takes the mode and the configuration that are in force
    let s := if lane == .ibex then s
      else each 8 (fun s d => s.modDoor d fun x => { x with isolatedChamois := x.isolated && !s.boot.info.getLsbD 7 })
        (s.modSaf fun x => { x with modeC := s.herd.mode, configCrcC := x.configCrc })
    let s := s.modBoot fun b => { b with laneDown := b.laneDown.filter (fun x => x.1 != lane), cause := cause, warm := true }
    if lane == .ibex then
      -- Ibex reads the stored state; a cycle under way begins anew with the start (R389, R420)
      let s := { s with ax := s.ax.map fun (x : Axis) => { x with learned := x.saved, cycOpen := [], cycClose := [], injected := 0 }
                        dw := s.dw.map fun (x : Doorway) =>
                          { x with sealRef := x.savedSealRef, learn := x.savedLearn, teachLeft := x.savedTeachLeft,
                                   cycle := Cycle.empty, capture := Capture.empty, injected := 0,
                                   sealTest := { x.sealTest with injFail := false } } }
      let s := s.modEv fun v => { v with pending := .replicate 256 false, raiseSeq := 0, lastRaise := [] }
      autostart false (startLink (rejoin (startTime (startRecord s))))
    else startRecord s
  | _, _ => s

/-! ## The journal engine (R382, R395 to R399) -/

/-- The first queued write that the engine can carry out: writes to a FAILED store wait. -/
def nextWrite (s : State) : Option JWrite :=
  s.jrn.queue.find? fun w =>
    match w with
    | .record r _ => r = 4 || !storeFailed s
    | _ => !storeFailed s

def popWrite (w : JWrite) (s : State) : State := s.modJrn fun j => { j with queue := j.queue.erase w }
def writeRegion : JWrite → Nat
  | .record r _ => r
  | _ => 3

/-- A slot whose write found no line reads as all ones (R393, R395). -/
def voidRec (w : JWrite) (s : State) : State :=
  match w with
  | .record r n => rewriteSlot r n s
  | _ => s
where
  rewriteSlot (r n : Nat) (s : State) : State :=
    s.modRegion r fun g => { g with recs := g.recs.filter fun e => e.1 ≠ n }

/-- The write is on the store. -/
def writeOk (w : JWrite) (s : State) : State :=
  let s := (popWrite w s).modJrn fun j => { j with failRun := 0 }
  match w with
  | .phase a => confirmPhase a s
  | _ => s

def lineError (r : Nat) (s : State) : State := s.modRegion r fun g => { g with lineErrs := inc32 g.lineErrs }

/-- A failed Caddy write (R397). -/
def caddyFault (s : State) : State := raise 206 (4 + 65536) (jrnFlag 12 (lineError 4 s))

/-- A line has failed twice (R395): it is remapped while the pool has a line; then the slot is void and the region DEGRADED. -/
def lineFails (reg : Nat) (w : JWrite) (s : State) : State :=
  let s := lineError reg s
  if 0 < s.jrn.spare then writeOk w (jrnFlag 3 (s.modJrn fun j => { j with spare := j.spare - 1 }))
  else setRegion reg .degraded 7 0xFFFFFFFF (voidRec w (popWrite w s))

def effectWriteDone (r : WriteResult) (s : State) : State :=
  match nextWrite s with
  | none => s
  | some w =>
    let reg := writeRegion w
    if reg = 4 then (if r = .ok then writeOk w s else caddyFault (voidRec w (popWrite w s)))
    else
      match r with
      | .ok => writeOk w s
      | .remapped | .noSpare => lineFails reg w s
      | .failed =>
        let n := s.jrn.failRun + 1
        let s := s.modJrn fun j => { j with failRun := n }
        if s.jrnN .failLimit ≤ n then failStore 1 s else s

/-- The store answers again (R399): what was held in SRAM is stored; after a start without it the module starts anew (R409). -/
def storeBack (s : State) : State :=
  let again := s.boot.info.getLsbD 7
  let s := recoverStore s
  if again then fullStart 4 s
  else each 24 (fun s a => storeLearned a s) (s.modBoot fun b => { b with kept := none })

def effectRecheck (ok : Bool) (s : State) : State :=
  if !storeFailed s then s
  else
    let s := forwardTo (some s.jrn.recheckAt) s
    let s := s.modJrn fun j => { j with recheckAt := s.us + 60000000 }
    if ok then storeBack s else s

def effectOpTimeStore (s : State) : State := if storeFailed s then s else s.modJrn fun j => { j with storedOpTime := j.opTime }

/-- The automatic seal (R394). -/
def effectSealPeriod (s : State) : State :=
  let h := s.jrnN .sealPeriodH
  if h = 0 then s
  else
    let dueMs := s.jrn.sealAt + 3600000 * h
    sealJournal 0xFFFF0001 (forwardTo (some (s.us + 1000 * (dueMs - s.jrn.opTime))) s)

/-! ## Power fail (R434), SLEEP and WAKE (R446) -/

def effectInterruption (s : State) : State :=
  if s.boot.power == .off || s.boot.power == .sleep || s.sup.holdupSince.isSome then s
  else supFlag 14 true (s.modSup fun u => { u with holdupSince := some s.us, holdupMj := (Config.measured 43 s.us).toNat })

def effectBridged (ms : Nat) (s : State) : State :=
  match s.sup.holdupSince with
  | some t =>
    if s.boot.power != .on || 20 ≤ ms then s
    else
      let s := forwardTo (some (t + 1000 * ms)) s
      supFlag 2 true (supFlag 14 false (s.modSup fun u =>
        { u with holdupSince := none, bridged := inc32 u.bridged, longestBridge := max u.longestBridge ms }))
  | none => s

/-- Write the record of a raise to the event journal and to Caddy whatever the policy of its source. -/
def recordBoth (e detail : Nat) (s : State) : State :=
  let pol := s.evN e .cfg / 8192 % 4
  let had := if pol = 0 then [] else eventRegions s (pol == 2)
  ((eventRegions s true).filter fun r => !had.contains r).foldl (fun s r => newEvent r e 0 detail false s) s

/-- Safe outputs open and STO everywhere; phase kept where an axis is at rest. -/
def shutOff (s : State) : State :=
  let s := s.modSaf fun x => { x with pulse := none, outs := x.outs.map fun o =>
    { o with demandIbex := false, demandChamois := false, hsCmd := false, lsCmd := false } }
  stoAll s

/-- Step 4: queued writes, operating time, pending items and phase records of axes at rest. -/
def finalWrites (s : State) : State :=
  if storeFailed s then s.modJrn fun j => { j with queue := [] }
  else
    let s := each 24 (fun s a => confirmPhase a s) s
    s.modJrn fun j => { j with queue := [], storedOpTime := j.opTime }

def effectPowerFail (s : State) : State :=
  match s.sup.holdupSince with
  | some t =>
    if s.boot.power != .on then s
    else
      let s := shutOff (forwardTo (some (t + 20000)) s)
      let s := supFlag 3 true (s.modSup fun u => { u with pfWarnings := inc32 u.pfWarnings })
      let s := recordBoth 192 2 (raise 192 2 s)
      (loseDrive (Config.measured 42 s.us).toNat s).modBoot fun b => { b with power := .shutdown }
  | none => s

def effectHoldupRelease (s : State) : State :=
  if s.boot.power != .shutdown then s
  else
    let s := match s.sup.holdupSince with | some t => forwardTo (some (t + 35000)) s | none => s
    (finalWrites s).modBoot fun b => { b with power := .off }

/-- SLEEP: the stored state is written, then everything is off except the WAKE monitor. -/
def enterSleep (s : State) : State :=
  let s := finalWrites (shutOff s)
  (loseDrive (Config.measured 42 s.us).toNat s).modBoot fun b => { b with power := .sleep }

def effectWake (s : State) : State :=
  if s.boot.power == .sleep then
    let s := fullStart 0 s
    s.modSup fun u => { u with wakeSrc := 4 }
  else if s.boot.power == .on then leaveStandby 3 s else s

end Sys2Proof.Machine
end

