-- ==== Sys2Proof/Machine/Graze.lean ====
section
/-! DEFINITION. Graze (R464 to R472): the tests of its items, the STO path test, the step drive check and the schedule. -/

namespace Sys2Proof.Machine

def itemCfg (s : State) (i : Nat) : Nat := s.modN (.grazeCfg (i - 1))
def itemOn (s : State) (i : Nat) : Bool := 1 ≤ i && i ≤ 12 && bit (itemCfg s i) 15

/-- A doorway qualifies for items 5 and 6 (R465): LOCKED_CLOSED for 10 s without a request, its axes PARKED. -/
def doorQualifies (s : State) (d : Nat) : Bool :=
  s.doorOn d && (s.door d).leaf == .lockedClosed && (s.graze.fast || (s.door d).closedAt + 10000000 ≤ s.us)
    && !(s.reqs.any fun r => r.d = d) && !grazeOn s d && (s.axesOf d).all fun a => (s.axis a).drive.state == .parked

/-- An axis held after a failed STO path test may be tested again under GRAZE_NOW (R466). -/
def heldAgain (s : State) (a : Nat) : Bool :=
  (s.axis a).drive.grazeHold && s.graze.head.contains 5 && s.graze.sto.isNone && !(s.axis a).drive.demandIbex
    && !(s.axis a).drive.demandChamois

/-! ## The STO path test (R466) -/

def setSto (t : Option (Nat × Nat × Nat)) (s : State) : State := s.modGraze fun g => { g with sto := t }

/-- The axis is restored and its enable ramp runs; `step` is the step under way. -/
def stoEnable (a step : Nat) (s : State) : State :=
  let s := s.modDrive a fun d => { d with grazeHold := false, stoDone := true, stoSince := none, recordDue := none }
  setSto (some (a, step, s.us + 1000 * s.axN a .enableRampMs)) (enableAxis a s)

/-- One lane drops its own enable alone, announced: the axis is in STO, its phase kept. -/
def stoDrop (a step : Nat) (byIbex : Bool) (s : State) : State :=
  let s := endEnableRamp a s
  let s := s.modDrive a fun d =>
    { d with state := .sto, grazeHold := true, enIbex := d.enIbex && !byIbex, enChamois := d.enChamois && byIbex, ramp := none,
             stoSince := some s.us, stoAtRest := true, stoDone := false, iSel := 0, iApplied := 0, holdAt := none }
  setSto (some (a, step, s.us + 2000)) s

/-- A failed path: both lanes hold the axis in STO and the doorway enters FAULT_HOLD. -/
def stoFail (a path : Nat) (s : State) : State :=
  let d := doorOf a
  let s := s.modDrive a fun x => { x with grazeHold := true, enIbex := false, enChamois := false, stoDone := true, stoSince := none }
  let s := grazeResult 5 (2 * a + path) false (setSto none s)
  enterFault d (raiseDoor d 11 (s.door d).leaf.code false s)

/-- A path has passed its check: the dwell runs. -/
def stoPass (a path step : Nat) (s : State) : State :=
  setSto (some (a, step, s.us + 50000)) (grazeResult 5 (2 * a + path) true s)

/-- The count has not left the place where the axis was parked (R466 step 3). -/
def heldAtPark (s : State) (a : Nat) : Bool :=
  match (s.axis a).drive.record with
  | some r => absI ((s.axis a).fb.count - r.encCount) ≤ s.axp a .parkTol
  | none => true

def effectStoTestStep (a : Nat) (checkOk : Bool) (s : State) : State :=
  match s.graze.sto with
  | none => s
  | some (b, step, t) =>
    if a ≠ b then s
    else if (s.axis a).drive.demandIbex || (s.axis a).drive.demandChamois then grazeAbort true s
    else
      let s := forwardTo (some t) s
      let checkOk := checkOk && heldAtPark s a
      match step with
      | 1 => stoDrop a 2 false s
      | 2 => if checkOk then stoPass a 0 3 s else stoFail a 0 s
      | 3 => stoEnable a 4 s
      | 4 => stoDrop a 5 true s
      | 5 => if checkOk then stoPass a 1 6 s else stoFail a 1 s
      | 6 => stoEnable a 7 s
      | _ => (reqPark a (setSto none (endEnableRamp a s))).1

/-! ## The step drive check (R467) -/

/-- 8 full steps of an axis, in µm. -/
def eightSteps (s : State) (a : Nat) : Rat := 2048 * umStep s a

/-- Start the check of a doorway's step with the verdict that it will end with. -/
def startStepCheck (d : Nat) (pass : Bool) (s : State) : State :=
  let a := axisOf d 2
  if (s.dwp d .stepSafePos : Rat) ≤ 2 * eightSteps s a then s
  else
    let v : Int := rnd (256 * s.axN a .bemfMinSps * umStep s a)
    let m : MoveReq := { rel := false, target := rnd (eightSteps s a), v := v, acc := s.axp a .accOpen, jerk := s.axp a .jerkOpen,
                         kind := .point, by_ := .graze, slots := 0 }
    let s := s.modGraze fun g => { g with stepCheck := some a, stepVerdict := some pass, stepOut := 0, stepBack := 0 }
    (wakeAxis a s).modDrive a fun x => { x with afterEnable := some m }

/-! ## One instance of an item (R465) -/

/-- Lane whose comparator did not detect its altered copy: the command does not say which. -/
def blindLane (k : Nat) : Lane := if Config.open_ 971 [(k : Int)] % 2 = 0 then .ibex else .chamois

/-- What a failed instance does beside its report. -/
def itemFails (i k : Nat) (s : State) : State :=
  match i with
  | 1 => haltLane .ibex 6 3 s
  | 2 => haltLane .chamois 7 3 s
  | 3 => (match blindLane k with
    | .ibex => haltLane .ibex 6 3 s
    | .chamois => haltLane .chamois 7 3 s)
  | 4 => lockOut (k / 2) (if k % 2 = 0 then 6 else 7) s
  | 9 =>
    let b := k / 4096
    let s := if b ≠ s.boot.activeBank && bankState s b = 1 then s.modBoot fun x => { x with bankState := vset x.bankState b 4 } else s
    raise 196 (4 + 256 * b) s
  | 10 =>
    let r := (Config.open_ 970 [(k : Int)] % 4).toNat
    let n := (Config.open_ 972 [(k : Int)]).toNat
    lineError r (s.modRegion r fun g => { g with recs := g.recs.filter fun e => if r = 0 then e.1 / 2 ≠ n / 2 else e.1 ≠ n })
  | 11 => caddyFault s
  | _ => s

/-- The condition of an instance beside idle time. -/
def itemMay (s : State) (i k : Nat) : Bool :=
  match i with
  | 5 => doorQualifies s (doorOf (k / 2)) || heldAgain s (k / 2)
  | 6 => doorQualifies s k
  | 7 =>
    let a := if k < 72 then k / 3 else (ssiAxisOf s (k - 72)).getD 0
    (s.axis a).drive.state == .parked || (s.axis a).drive.state == .sto
  | 8 => !groupBad s (groupOf k)
  | 12 => s.herd.role == .standby
  | _ => true

/-- Whether Graze may start a test of an item now (R464). -/
def grazeMay (s : State) (i k : Nat) : Bool :=
  started s && s.saf.lanes.ibexUp && s.saf.lanes.chamoisUp && itemOn s i && grazeHas s i k && itemMay s i k
    && (!s.saf.lanes.safe || i = 1 || i = 2 || i = 9 || i = 10 || i = 11)

/-- A scrub pass is complete (R401). -/
def scrubDone (from_ : Nat) (s : State) : State :=
  s.modJrn fun j => { j with scrubAt := some j.opTime, scrubPassH := (j.opTime - from_) / 3600000 }

/-- A result that ends a coverage cycle takes the item off the head of the schedule. -/
def takeResult (i k : Nat) (pass : Bool) (s : State) : State :=
  let before := (grazeItem s i).lastRun
  let s := grazeResult i k pass s
  let g := grazeItem s i
  if g.lastRun = before then s
  else
    let s := s.modGraze fun z => { z with head := z.head.filter fun x => x ≠ i }
    if i = 10 then scrubDone g.cycleFrom s else s

def effectGrazeRun (i k : Nat) (pass : Bool) (s : State) : State :=
  if i = 12 && s.herd.role != .standby then
    s.modGraze fun z => { z with items := vset z.items 12 { grazeItem s 12 with result := 0 } }
  else if !grazeMay s i k then s
  else
    match i with
    | 5 => if s.graze.sto.isNone then stoEnable (k / 2) 1 s else s
    | 6 => if s.graze.stepCheck.isNone then startStepCheck k pass s else s
    | 12 =>
      let ok := decide (s.herd.shadowMis = s.graze.shadowBase)
      (takeResult 12 k ok s).modGraze fun z => { z with shadowBase := s.herd.shadowMis }
    | _ =>
      let s := takeResult i k pass s
      if pass then s else itemFails i k s

/-- An item has not completed its coverage in time (R470). -/
def effectGrazeOverdue (i : Nat) (s : State) : State :=
  let g := grazeItem s i
  if !itemOn s i || g.overdue then s
  else
    let dueMs := g.cycleFrom + 3600000 * (itemCfg s i % 256)
    let s := forwardTo (some (s.us + 1000 * (dueMs - s.jrn.opTime))) s
    let s := s.modGraze fun z =>
      { z with items := vset z.items i { g with overdue := true }, overdue := z.overdue ||| (1#16 <<< (i - 1)), status := z.status ||| 8#16 }
    raise 218 (65536 * i + 8192) s

/-- GRAZE_NOW (R313, R472): the item, or every enabled item, at the head of the schedule. -/
def grazeNow (item : Nat) (s : State) : State × Outcome :=
  if item = 0xFFFF then
    (s.modGraze fun g => { g with head := ((List.range 13).filter (itemOn s)) ++ g.head.filter fun x => !itemOn s x }, ⟨.okQueued, 0, []⟩)
  else if 1 ≤ item && item ≤ 12 then
    (s.modGraze fun g => { g with head := item :: g.head.filter fun x => x ≠ item }, ⟨.okQueued, 0, []⟩)
  else (s, Outcome.bad .outOfRange 0)

end Sys2Proof.Machine
end

