-- ==== Sys2Proof/Machine/Writes.lean ====
section
/-! DEFINITION. Writes of parameters and blocks (R12, R13, R300, R301, R320 to R329): the order of the checks, the timing of an
accepted value, and what each parameter's own rule adds. -/

namespace Sys2Proof.Machine

/-! ## Who writes -/

/-- The writer of a request: its session, role (R292) and port. -/
structure Writer where
  id : Nat
  role : Nat
  port : Port
  deriving DecidableEq, Repr

def roleOf (s : State) (q : Req) : Nat := ((sessionOf s q.session).map Session.role).getD 0
def writerOf (s : State) (q : Req) : Writer := ⟨q.session, roleOf s q, q.port⟩

/-- A MAINTAINER session in MAINTENANCE (R12). -/
def maintains (s : State) (w : Writer) : Bool := 2 ≤ w.role && s.effMode == .maintenance

/-! ## Values to come -/

/-- The value a parameter will have when a write takes effect (R324): pending, else active. -/
def willBe (s : State) (p : Par) : Int :=
  match p with
  | .io n .mode => match (s.pin n).modeNext with | some m => (m : Int) | none => s.coming p
  | .herd _ => (sget s.herd.writes p.key).getD (s.coming p)
  | _ => s.coming p

/-- The same with the safety shadow over it. -/
def willBeSafe (s : State) (p : Par) : Int := (s.committing s.safShadow p).getD (willBe s p)

def withVal (look : Par → Int) (p : Par) (v : Int) : Par → Int := fun r => if r = p then v else look r

/-! ## Pins named by other functions (R233) -/

def posAction (c : LcPoint) : Bool := c.flags.getLsbD 0 && (c.action = 1 || c.action = 2)
def cmpPin (pos : BitVec 32) : Bool :=
  pos.getLsbD 31 && (let k := pos.toNat / 0x1000000 % 8; 1 ≤ k && k ≤ 3)

/-- Enabled leaf-clock points and armed compare units of axis a that act on pin n. -/
def pointsUse (s : State) (a n : Nat) : Bool :=
  let x := s.axis a
  let t (v : Vector LcPoint 32) : Bool := (v.toList.drop 8).any fun c => posAction c && c.operand == n
  t x.lcTable || (match x.lcShadow with | some v => t v | none => false)
    || (List.range 4).any fun u =>
      let c := cmpOf s a u
      (cmpPin c.cfg && c.cfg.toNat % 256 == n) ||
        (match c.next with | some (_, _, g) => cmpPin g && g.toNat % 256 == n | none => false)

def latchUses (s : State) (a n : Nat) : Bool :=
  (List.range 2).any fun l => let x := latchOf s a l; x.armed && x.src = 2 && x.cfg.toNat % 256 == n

/-- Every function that names pin n finds it configured as R233 requires. -/
def pinUsesOk (s : State) (look : Par → Int) (n : Nat) : Bool :=
  (List.range 8).all (fun d => [DwP.unlockPin, .lockPin, .warnPin, .edgePin, .curtainPin].all fun q =>
    look (.dw d q) ≠ (n : Int) || relOk look (.dw d q))
  && (List.range 24).all fun a =>
    (look (.ax a .homePin) ≠ (n : Int) || relOk look (.ax a .homePin))
      && (!pointsUse s a n || pinIs look n 2 2) && (!latchUses s a n || look (.io n .mode) ≠ 0)

/-- The pin of a position action or latch lies in the group of the axis or in group 8. -/
def pinNear (a n : Nat) : Bool := n < 112 && (groupOf n = doorOf a || groupOf n = 8)

/-- A latch configuration (R144). -/
def latchCfgOk (s : State) (a : Nat) (v : Nat) : Bool :=
  let src := v / 256 % 16
  let edge := v / 4096 % 4
  src ≤ 4 && !((src = 1 || src = 2 || src = 4) && edge = 0)
    && !(src = 2 && (!pinNear a (v % 256) || (bit v 15 && willBe s (.io (v % 256) .mode) = 0)))

/-! ## The checks of one write -/

/-- An axis at rest (R92), and a doorway with every axis at rest. -/
def axStands (s : State) (a : Nat) : Bool := atRest s a && !moving s a
def doorStands (s : State) (d : Nat) : Bool := (s.axesOf d).all fun a => axStands s a
/-- The owner of an RWR parameter is at rest (R321); a move that has been formed has not begun before the tick that takes the
mailbox (R29). -/
def axRest (s : State) (a : Nat) : Bool := axStands s a || starting s a
def doorRest (s : State) (d : Nat) : Bool := (s.axesOf d).all fun a => axRest s a
def ownerRest (s : State) (p : Par) : Bool :=
  match p with
  | .ax a _ => axRest s a
  | .dw d _ => doorRest s d
  | _ => (List.range 24).all fun a => !s.axOn a || axRest s a

/-- A value that enters a shadow set (R323). -/
def deferred (s : State) (p : Par) : Bool :=
  p.info.acc = .rws || (p.info.acc = .rwr && !ownerRest s p)

def readOnly (s : State) (p : Par) : Bool :=
  p.info.acc = .ro || (match p with | .io n .out => s.iop n .owner ≠ 3 | _ => false)

/-- The rules of class and parameter that name a module mode. -/
def modeAllows (s : State) (w : Writer) (p : Par) (v : Int) : Bool :=
  (p.info.acc ≠ .rwm || maintains s w) &&
  match p with
  | .dw _ .teach => v = 0 || maintains s w
  | .ax _ .stageFault => !bit v.toNat 15 || maintains s w
  | .mod .grazeFast => s.effMode == .test
  | .mod .powerMode => v = 0 || s.effMode == .depot
  | _ => true

def valueOk (s : State) (p : Par) (v : Int) : Bool :=
  let v := storeMask p v
  fixedOk p v
    && (p.info.acc = .rws || (relOk (withVal (willBe s) p v) p && relOk (withVal (willBeSafe s) p v) p))
    && match p with
      | .io n .mode | .io n .owner => pinUsesOk s (withVal (willBe s) p v) n && pinUsesOk s (withVal (willBeSafe s) p v) n
      | .ax a (.latchCfg _) => latchCfgOk s a v.toNat
      | _ => true

/-- Doorways and axes allow a restart (R403). -/
def restartOk (s : State) : Bool :=
  (List.range 8).all (fun d => match (s.door d).leaf with
    | .lockedClosed | .isolated | .unconfigured => true | _ => false)
  && (List.range 24).all fun a => !s.axOn a || axStands s a

/-- Refusals for which R13 gives no place. R127 names no latch sources; DESIGN CHOICE (log 68): the COMPARE source alone needs
a position, since it alone is defined by one. -/
def stateRefuses (s : State) (p : Par) (v : Int) : Option Status :=
  match p with
  | .dw d .teach => if v = 1 && !doorStands s d then some .notAtRest else none
  | .mod .restart => if v = 1 && !restartOk s then some .doorwayStateForbids else none
  | .mod .powerMode => if v ≠ 0 && !lowPowerOk s then some .doorwayStateForbids else none
  | .ax a (.latchCfg _) =>
    if bit v.toNat 15 && v.toNat / 256 % 16 = 3 && !posValid s a then some .doorwayStateForbids else none
  | _ => none

/-- Writes that need the main store (R398). -/
def needsStore (p : Par) : Bool :=
  (match p.info.acc with | .rw | .rwr | .rwm | .rws => true | _ => false)
    && (match p with | .io _ .out => false | _ => true)

/-- The status of a write of one scalar, accepting or refusing (R13, R323, R398). -/
def writeCheck (s : State) (w : Writer) (p : Par) (v : Int) : Status × Nat :=
  if readOnly s p then (.readOnly, 0)
  else if p.info.acc = .rws && w.role ≠ 3 then (.safetyLocked, 0)
  else if !modeAllows s w p v then (.modeForbids, 0)
  else if !valueOk s p v then (.outOfRange, 0)
  else if needsStore p && storeFailed s then (.journalDegraded, 0)
  else
    match stateRefuses s p v with
    | some st => (st, 0)
    | none =>
      if deferred s p then (.okDeferred, 0)
      else
        match p with
        | .saf (.soStatus o) =>
          if (BitVec.ofNat 16 v.toNat &&& (s.out o).status &&& (if (s.out o).overLock then 0x1F0#16 else 0xF0#16)) ≠ 0
              && maintains s w then (.okQueued, 0) else (.ok, 0)
        | _ => (.ok, 0)

/-! ## Effects of accepted writes -/

def maskOff {n : Nat} (x : BitVec n) (v m : Nat) : BitVec n := x &&& ~~~(BitVec.ofNat n (v &&& m))

/-- A W1C write of `SAF.SO_STATUS[o]` (R205). -/
def clearSoStatus (w : Writer) (o v : Nat) (s : State) : State :=
  let locked := (s.out o).overLock
  let s := if bit v 8 && !locked then s.modOut o fun x => { x with status := setBit x.status 8 false } else s
  let want := BitVec.ofNat 16 (v &&& (if locked then 0x1F0 else 0xF0)) &&& (s.out o).status
  if want ≠ 0 && maintains s w then
    s.modOut o fun x => { x with clearMask := some (want ||| x.clearMask.getD 0), clearPassed := 0, clearAt := s.us }
  else s

/-- W1C and SC writes (R327). -/
def actWrite (w : Writer) (p : Par) (v : Nat) (s : State) : State :=
  match p with
  | .mod .flStatus => s.modLink fun l => { l with seen := maskOff l.seen v 0xE }
  | .mod (.fgStatus g) => s.modGroup g fun x => { x with status := maskOff x.status v 0xC }
  | .mod .supplyStatus => s.modSup fun u => { u with status := maskOff u.status v 0x3E }
  | .mod .tempStatus => s.modSup fun u => { u with tempStatus := maskOff u.tempStatus v 3 }
  | .mod .grazeStatus => s.modGraze fun g => { g with status := maskOff g.status v 0xE }
  | .ax a .stageFault => clearStage a v s
  | .ax a .fbStatus => clearFbStatus a v s
  | .dw d .learnState => if bit v 5 then s.modDoor d fun x => { x with sealLow := false } else s
  | .dw d .teach => if v = 1 then startTeaching d s else s
  | .io n .status => clearPinStatus n v s
  | .fs f .status => s.modStation f fun x => { x with status := maskOff x.status v 0xC0 }
  | .saf (.soStatus o) => clearSoStatus w o v s
  | .saf .kscStatus => kscStatusClear v s
  | .net .timeStatus => s.modTime fun t => { t with seen := maskOff t.seen v 6 }
  | .net .cntClear => if v = 1 then clearCounters s else s
  | .herd .status => s.modHerd fun h => { h with status := maskOff h.status v 0x3E }
  | .jrn .status => s.modJrn fun j => { j with status := maskOff j.status v 0x1E }
  | .jrn .recheck => if v = 1 then s.modJrn fun j => { j with recheckAt := s.us } else s
  | _ => s

/-- The sessions that came through a port end (R352). -/
def endPort (p : Port) (s : State) : State := endSessions (fun x => x.port = p) s
def portOf (i : Nat) : Port := if i = 0 then .netA else if i = 1 then .netB else .svc
/-- The ports whose sessions end with a write of a parameter. -/
def portsOf : Par → List Port
  | .net (.ipAddr i) | .net (.ipMask i) | .net (.gateway i) => [portOf i]
  | .net .prpMode | .net .prpWindow | .net .prpAgeMs | .net .prpSupMs => [.netA, .netB]
  | _ => []

/-- An RW or RWM value takes effect at once, by the parameter's own rule. -/
def takeNow (w : Writer) (p : Par) (v : Int) (s : State) : State :=
  match p with
  | .io n .mode => if willBe s p = v then s else writeMode n v s
  | .io n .out => (cmdPin n (v = 1) s).modPin n fun x => { x with writer := w.id }
  | .fs f .enable => enableStation f v s
  | .herd q =>
    let s := s.modHerd fun h => { h with writes := sput h.writes p.key v }
    if q = .eligible then clearShadowFault s else s
  | .mod .powerMode =>
    if v = 0 then leaveStandby 1 s
    else if v = 1 then (if s.sup.powerMode = 1 then s else enterStandby s)
    else s.modSup fun u => { u with powerMode := 2 }
  | .mod .grazeFast => s.modGraze fun g => { g with fast := v = 1 }
  | .mod .restart => if v = 1 then s.modBoot fun b => { b with restartPending := some 1 } else s
  | .ax a (.latchCfg l) => modLatch a l (fun x => { x with cfg := BitVec.ofInt 16 v }) s
  | .net .portEnable | .net .prpMode => (portsOf p).foldl (fun s x => endPort x s) (portsChanged (takeVal p v s))
  | .net .ptpEnable | .net .timePref | .net .slaveOnly | .net .priority1 | .net .priority2 => clocksChanged (takeVal p v s)
  | _ => (portsOf p).foldl (fun s x => endPort x s) (takeVal p v s)

/-- An accepted write (R323). -/
def writeDo (w : Writer) (p : Par) (v : Int) (s : State) : State :=
  let v := storeMask p v
  match p.info.acc with
  | .ro => s
  | .rws =>
    -- a halted Chamois misses the write
    { s with safShadow := sput s.safShadow p.key v
             saf := { s.saf with verified := none, shadowOwner := some w.id
                                 shadowC := if s.saf.lanes.chamoisUp then sput s.saf.shadowC p.key v else s.saf.shadowC } }
  | .rwr =>
    if ownerRest s p then takeVal p v { s with shadow := sdel s.shadow p.key }
    else { s with shadow := sput s.shadow p.key v }
  | .w1c | .sc => actWrite w p v.toNat s
  | .rw | .rwm => takeNow w p v s

/-- The value that 32 bits give for a parameter (R320). -/
def readValue (p : Par) (raw : Nat) : Int := if p.signed then toSigned 32 raw else raw

/-- The status of an entry of PARAM_WRITE. -/
def entryCheck (s : State) (w : Writer) (e : Nat × Nat) : Status × Nat :=
  match keyOf e.1 with
  | none => (.noSuchParameter, 0)
  | some (.block _) => (.outOfRange, 0)
  | some (.scalar p) => writeCheck s w p (readValue p e.2)

def entryDo (w : Writer) (e : Nat × Nat) (s : State) : State :=
  match keyOf e.1 with
  | some (.scalar p) => writeDo w p (readValue p e.2) s
  | _ => s

/-- Entries one by one (R300 without ATOMIC): the state they leave and their statuses. -/
def writeEach (w : Writer) : List (Nat × Nat) → State → State × List (Status × Nat)
  | [], s => (s, [])
  | e :: r, s =>
    let st := entryCheck s w e
    let q := writeEach w r (if st.1.good then entryDo w e s else s)
    (q.1, st :: q.2)

/-- Entries as a whole (R300, R325): the state that all of them leave, or the number and status of the first refused. -/
def writeAll (w : Writer) (late : Option Bool) : List (Nat × Nat) → Nat → State → State × List (Status × Nat) × Option Nat
  | [], _, s => (s, [], none)
  | e :: r, i, s =>
    let st := entryCheck s w e
    let d : Bool := st.1 = .okDeferred
    if !st.1.good then (s, [st], some i)
    else if (match late with | some x => x != d | none => false) then (s, [(.notAtRest, 0)], some i)
    else
      let q := writeAll w (some d) r (i + 1) (entryDo w e s)
      (q.1, st :: q.2.1, q.2.2)

def entriesOf (b : Bytes) (n : Nat) : List (Nat × Nat) := (List.range n).map fun i => (rd b (4 + 8 * i) 4, rd b (8 + 8 * i) 4)

def entryBytes (es : List (Nat × Nat)) (sts : List (Status × Nat)) : Bytes :=
  le 2 es.length ++ [0, 0] ++ (es.zip sts).flatMap fun x => le 4 x.1.1 ++ le 2 x.2.1.code ++ le 2 x.2.2

/-- The header status of a PARAM_WRITE (R300). -/
def headStatus (sts : List (Status × Nat)) : Status × Nat :=
  match sts.findIdx? fun x => !x.1.good with
  | some i => ((lget sts i (.ok, 0)).1, i)
  | none => if sts.any fun x => x.1 = .okDeferred then (.okDeferred, 0) else (.ok, 0)

/-- PARAM_WRITE after the length check (R300, R323). -/
def paramWriteOp (w : Writer) (b : Bytes) (s : State) : State × Outcome :=
  let es := entriesOf b (rd b 0 2)
  if bit (rd b 2 2) 0 then
    let q := writeAll w none es 0 s
    match q.2.2 with
    | some i =>
      let own := lget q.2.1 i (.ok, 0)
      let sts := (List.range es.length).map fun k => if k = i then own else (Status.busyRetry, 4)
      (s, ⟨own.1, i, entryBytes es sts⟩)
    | none => let h := headStatus q.2.1; (q.1, ⟨h.1, h.2, entryBytes es q.2.1⟩)
  else
    let q := writeEach w es s
    let h := headStatus q.2
    (q.1, ⟨h.1, h.2, entryBytes es q.2⟩)

/-- The payload that writes one scalar. -/
def onePayload (p : Par) (v : Int) : Bytes := le 2 1 ++ le 2 0 ++ le 4 p.key ++ le 4 (toWord 32 v)

/-! ## Blocks (R301, R330) -/

/-- Points of a leaf-clock table (R51); a SEQ bit is not stored. -/
def lcPoints (b : Bytes) : Vector LcPoint 32 :=
  Vector.ofFn fun i : Fin 32 =>
    ⟨rdI b (8 * i.val) 4, rd b (8 * i.val + 4) 1, lget b (8 * i.val + 5) 0 &&& 0xF7, rd b (8 * i.val + 6) 2⟩

/-- One point of 8 to 31 as R52 and R233 permit it for axis a. -/
def lcPointOk (s : State) (a : Nat) (c : LcPoint) : Bool :=
  let n := c.operand
  c.action ≤ 7 && (c.flags &&& 0xF0) = 0
    && (!(c.action = 1 || c.action = 2) || pinNear a n)
    && (!posAction c || pinIs (willBe s) n 2 2)
    && (c.action ≠ 3 || (n % 256 < 24 && doorOf (n % 256) = doorOf a))

/-- The arming of a compare unit (R147, R233). -/
def cmpOk (s : State) (a : Nat) (pos : Int) (step : Nat) (cfg : BitVec 32) : Bool :=
  let dir := cfg.toNat / 0x10000000 % 4
  let act := cfg.toNat / 0x1000000 % 8
  let w := cfg.toNat / 0x10000 % 256
  let per := cfg.getLsbD 27
  !cfg.getLsbD 31 ||
    (s.axp a .softMin ≤ pos && pos ≤ s.axp a .softMax && dir ≠ 0 && act ≠ 7 && (if act = 3 then w ≠ 0 else w = 0)
      && !(per && (dir = 3 || (step : Int) * 65536 < s.axp a .umPerCount))
      && (!cmpPin cfg || (pinNear a (cfg.toNat % 256) && pinIs (willBe s) (cfg.toNat % 256) 2 2)))

def camOf (b : Bytes) : CamTable :=
  { start := rdI b 0 4, stop := rdI b 4 4, flags := rd b 8 2, slave := (List.range 256).map fun i => rdI b (16 + 4 * i) 4 }

def sineOf (b : Bytes) : List Nat := (List.range 256).map fun i => rd b (2 * i) 2
def sineOk (l : List Nat) : Bool :=
  l.all (· < 4096) && lget l 0 0 ≤ 512 && (l.zip (l.drop 1)).all fun x => x.1 ≤ x.2

/-- Axes that select sine table t and are energised and moving; axes that table t couples and that move (R104, R91). -/
def sineMovers (s : State) (t : Nat) : List Nat :=
  (List.range 24).filter fun a => s.axN a .sineSel == t && (s.axis a).drive.energised && moving s a
def camMoves (s : State) (t : Nat) : Bool :=
  (List.range 24).any fun a => moving s a && (match (s.axis a).camOf with | some q => q.1 == t | none => false)

/-- The conditions of a key write (R298). -/
def keyWriteOk (s : State) (w : Writer) (more : Bool) : Bool :=
  w.port = .svc && keyTurned s && (w.role = 3 || (w.id = 0 && (vget s.net.keys 3 none).isNone && !more))

/-- Refusals that do not depend on the data. -/
def blockRefuses (s : State) (w : Writer) (b : Blk) (more : Bool) : Option (Status × Nat) :=
  match b with
  | .roleKey _ => if keyWriteOk s w more then none else some (.safetyLocked, 5)
  | _ => if b.acc = .ro then some (.readOnly, 0)
         else if b.acc = .rwm && !maintains s w then some (.modeForbids, 0) else none

/-- The check of the whole block (R52, R88, R103, R146). -/
def blockOk (s : State) (b : Blk) (data : Bytes) : Bool :=
  match b with
  | .lcTable a => ((lcPoints data).toList.drop 8).all fun c => lcPointOk s a c
  | .cmp a _ => cmpOk s a (rdI data 0 4) (rd data 4 4) (BitVec.ofNat 32 (rd data 8 4))
  | .cam _ => let c := camOf data; c.flags < 4 && camOk c
  | .sine _ => sineOk (sineOf data)
  | _ => true

/-- Refusals by the store, which follow those of R13, then by the state of the block's owner (R398, R127, R104). -/
def blockState (s : State) (b : Blk) (data : Bytes) : Option (Status × Nat) :=
  let own : Option (Status × Nat) :=
    match b with
    | .cmp a _ => if bit (rd data 8 4) 31 && !posValid s a then some (.doorwayStateForbids, 0) else none
    | .sine t => if (vget s.tab.sineShadow t none).isSome then some (.busyRetry, 0) else none
    | _ => none
  if storeFailed s then some (.journalDegraded, 0) else own

/-- The block takes its new contents (R55, R91, R104, R146, R298); a key write leaves its archive record (R392). -/
def blockDo (b : Blk) (data : Bytes) (s : State) : State × Status :=
  match b with
  | .lcTable a =>
    if axRest s a then (s.modAxis a fun x => { x with lcTable := mixPoints x.lcTable (lcPoints data), lcShadow := none }, .ok)
    else (s.modAxis a fun x => { x with lcShadow := some (lcPoints data) }, .okDeferred)
  | .cmp a u =>
    (modCmp a u (fun c => { c with next := some (rdI data 0 4, rd data 4 4, BitVec.ofNat 32 (rd data 8 4)) }) s, .ok)
  | .subst f => (s.modStation f fun x => { x with subst := fix 64 data }, .ok)
  | .cam t =>
    if camMoves s t then ({ s with tab := { s.tab with camShadow := vset s.tab.camShadow t (some (camOf data)) } }, .okDeferred)
    else ({ s with tab := { s.tab with cams := vset s.tab.cams t (some (camOf data)),
                                       camShadow := vset s.tab.camShadow t none } }, .ok)
  | .sine t =>
    let l := sineMovers s t
    if l = [] then ({ s with tab := { s.tab with sines := vset s.tab.sines t (sineOf data) } }, .ok)
    else
      let s := l.foldl (fun s a => s.modDrive a fun d => { d with sineOld := true }) s
      ({ s with tab := { s.tab with sineShadow := vset s.tab.sineShadow t (some (sineOf data)) } }, .okDeferred)
  | .roleKey r =>
    let k := fix 32 data
    let set := k ≠ zeros 32
    let s := s.modNet fun n => { n with keys := vset n.keys r (if set then some k else none) }
    (endSessions (fun x => x.role = r) (archive 5 0 0 r 988 (le 1 (b2n set)) s), .ok)
  | _ => (s, .ok)

/-- A whole block, checked and applied. -/
def blockApply (b : Blk) (data : Bytes) (s : State) : State × Outcome :=
  if data.length ≠ blockSize s b then (s, .bad .outOfRange 1)
  else if !blockOk s b data then (s, .bad .outOfRange 0)
  else
    match blockState s b data with
    | some x => (s, .bad x.1 x.2)
    | none => let r := blockDo b data s; (r.1, ⟨r.2, 0, []⟩)

def transferOf (s : State) (id key : Nat) : Option Transfer :=
  s.kcp.transfers.find? fun t => t.session = id && t.key = key
def dropTransfer (id key : Nat) (s : State) : State :=
  s.modKcp fun k => { k with transfers := k.transfers.filter fun t => !(t.session = id && t.key = key) }

/-- Packets of one transfer from offset 0 upward without gaps; the data when the last has come (R301, R308). -/
def stage (id key total ofs : Nat) (more : Bool) (data : Bytes) (s : State) : State × Option (Option Bytes) :=
  let have_ : Bytes := if ofs = 0 then [] else match transferOf s id key with
    | some t => if t.total = total then t.data else []
    | none => []
  let s' := dropTransfer id key s
  if ofs ≠ have_.length || total < ofs + data.length then (s, none)
  else
    let all := have_ ++ data
    if more then
      (s'.modKcp fun k => { k with transfers := ⟨id, key, total, all⟩ :: k.transfers }, some none)
    else (s', some (some all))

/-- BLOCK_WRITE after the length check (R301). -/
def blockWriteOp (w : Writer) (more : Bool) (b : Bytes) (s : State) : State × Outcome :=
  let key := rd b 0 4
  let len := rd b 12 2
  match keyOf key with
  | none => (s, .bad .noSuchParameter 0)
  | some (.scalar _) => (s, .bad .outOfRange 2)
  | some (.block k) =>
    match blockRefuses s w k more with
    | some x => (s, .bad x.1 x.2)
    | none =>
      if len = 0 || 1400 < len then (s, .bad .outOfRange 0)
      else if rd b 8 4 ≠ blockSize s k then (s, .bad .outOfRange 1)
      else
        match stage w.id key (rd b 8 4) (rd b 4 4) more (b.drop 16) s with
        | (s, none) => (s, .bad .outOfRange 1)
        | (s, some none) => (s, ⟨.okQueued, 0, []⟩)
        | (s, some (some all)) => blockApply k all s

/-! ## Reading (R300, R301) -/

/-- The value that a session reads of a scalar; with SHADOW the pending one (R300, R328). -/
def readScalar (s : State) (w : Writer) (shadow : Bool) (p : Par) : Int :=
  if shadow then
    if p.info.acc = .rws then
      (if s.saf.shadowOwner = some w.id && w.id ≠ 0 then (sget s.safShadow p.key).getD (view s p) else view s p)
    else (sget s.shadow p.key).getD (view s p)
  else view s p

def readEntry (s : State) (w : Writer) (shadow : Bool) (k : Nat) : Bytes :=
  match keyOf k with
  | some (.scalar p) => le 4 k ++ le 2 0 ++ [0, 0] ++ leI 4 (readScalar s w shadow p)
  | some (.block _) => le 4 k ++ le 2 Status.outOfRange.code ++ [0, 0] ++ le 4 0
  | none => le 4 k ++ le 2 Status.noSuchParameter.code ++ [0, 0] ++ le 4 0

def paramReadOp (s : State) (w : Writer) (b : Bytes) : Outcome :=
  let n := rd b 0 2
  .ok (le 2 n ++ [0, 0] ++ (List.range n).flatMap fun i => readEntry s w (bit (rd b 2 2) 0) (rd b (4 + 4 * i) 4))

/-- BLOCK_READ: the outcome, and whether more of the block follows. A latch record whose SEQ is returned is no longer unread
(R145). -/
def blockReadOp (w : Writer) (b : Bytes) (s : State) : State × Outcome × Bool :=
  let key := rd b 0 4
  let ofs := rd b 4 4
  let len := rd b 8 2
  match keyOf key with
  | none => (s, .bad .noSuchParameter 0, false)
  | some (.scalar _) => (s, .bad .outOfRange 2, false)
  | some (.block k) =>
    let hidden := k = .verifyImage && !(match s.saf.verified with | some v => v.1 = w.id | none => false)
    if hidden then (s, .bad .safetyLocked 3, false)
    else
      let all := blockBytes s k
      if len = 0 || 1400 < len || all.length ≤ ofs then (s, .bad .outOfRange 0, false)
      else
        let part := (all.drop ofs).take len
        let s := match k with
          | .latch a l => if ofs < 4 then modLatch a l (fun x => { x with unread := false }) s else s
          | _ => s
        (s, .ok (le 4 key ++ le 4 ofs ++ le 4 all.length ++ le 2 part.length ++ [0, 0] ++ part), ofs + part.length < all.length)

end Sys2Proof.Machine
end

