-- ==== Sys2Proof/Machine/SafetyCommit.lean ====
section
/-! DEFINITION. The safety commit (R226 to R229, R45) and the reversion of shadow sets (R302, R328, R329). -/

namespace Sys2Proof.Machine

/-! ## Judging an image (R228, R324, and the commit rules R45, R134, R172, R178, R210) -/

/-- A doorway whose type or step mode may change (R45). -/
def typeMayChange (s : State) (d : Nat) : Bool :=
  (match (s.door d).leaf with
   | .unconfigured | .lockedClosed | .isolated | .faultHold => true
   | _ => false) && [0, 1, 2].all fun sl => axStands s (axisOf d sl)

/-- The configured axes of slot sl in an image. -/
def slotAxesIn (look : Par → Int) (sl : Nat) : List Nat :=
  ((List.range 8).filter fun d => slotIn (look (.dw d .type)) (look (.dw d .stepMode)) sl).map fun d => axisOf d sl

/-- An edge or curtain pin that is also a coil or warning pin (R172). -/
def pinTaken (look : Par → Int) (d : Nat) (v : Int) : Bool :=
  v = look (.dw d .unlockPin) || v = look (.dw d .lockPin) || v = look (.dw d .warnPin)

/-- Commit rules that single subject chapters add to one entry. -/
def commitRule (s : State) (look : Par → Int) (p : Par) : Bool :=
  let v := look p
  match p with
  | .dw d q =>
    let L := fun r => look (.dw d r)
    match q with
    | .type | .stepMode => v = s.val p || typeMayChange s d
    | .ssiPeriodUs => (L .ssiBits + L .ssiStatBits + 1) * 1000 ≤ (v - L .ssiPauseUs) * L .ssiClockKhz
    | .edgePin => L .edgeMode = 0 || !pinTaken look d v
    | .curtainPin => L .curtainMode = 0 || (!pinTaken look d v && (L .edgeMode = 0 || v ≠ L .edgePin))
    | .sealContactMs | .sealStepMs => L .sealContactMs + 4 * L .sealStepMs ≤ 900
    | .sealF i => (i = 0 || L (.sealF (i - 1)) < v) && (i ≠ 3 || 10 * v ≤ 6 * L .fcap)
    | _ => true
  | .ax a .encMode => v ≠ 3 || !slotIn (look (.dw (doorOf a) .type)) (look (.dw (doorOf a) .stepMode)) (slotOf a)
  | .saf (.ssDecel sl) => (slotAxesIn look sl).all fun a => v ≤ look (.ax a .amax)
  | .saf (.ssJerk sl) => (slotAxesIn look sl).all fun a => v ≤ look (.ax a .jmax)
  | _ => true

/-- One entry of an image stands: its own range, its relations, those of the parameters whose range names it, its
commit rules. -/
def entryOk (s : State) (look : Par → Int) (p : Par) : Bool :=
  fixedOk p (look p) && relOk look p && (dependents p).all (relOk look) && commitRule s look p

/-- The number of the first offending entry. -/
def imageFault (s : State) : Option Nat := safetyPars.findIdx? fun p => !entryOk s s.image p

/-! ## SAF_VERIFY (R227 step 3, R228, R302) -/

/-- The images that the two lanes form differ (R228). -/
def imagesDiffer (s : State) : Bool := imageOf s.image != imageOf s.imageC

def verifyRefuses (s : State) : Option (Status × Nat) :=
  if !keyTurned s then some (.safetyLocked, 1)
  else if imagesDiffer s then some (.safetyLocked, 2)
  else
    match imageFault s with
    | some i => some (.outOfRange, i)
    | none => none

/-- Chamois's image is kept for the session and returned. -/
def verifyDo (id : Nat) (s : State) : State × Bytes :=
  let img := imageOf s.imageC
  let crc := crc32c (imageBytes img)
  (s.modSaf fun x => { x with verified := some (id, img, crc) }, le 4 crc ++ le 4 img.length)

/-! ## SAF_COMMIT (R228, R229) -/

def commitRefuses (s : State) (id crc : Nat) : Option (Status × Nat) :=
  if !keyTurned s then some (.safetyLocked, 1)
  else
    match s.saf.verified with
    | some v =>
      if v.1 ≠ id then some (.safetyLocked, 3)
      else if v.2.2 ≠ crc then some (.safetyLocked, 4)
      else
        match imageFault s with
        | some i => some (.outOfRange, i)
        | none => if storeFailed s then some (.journalDegraded, 0) else none
    | none => some (.safetyLocked, 3)

/-- A pair restarts at the exchange (R229 step 3). -/
def commitPair (now : Nat) (x : PairLane) : PairLane :=
  let x := restartPair x
  { x with c1 := { x.c1 with since := now }, c2 := { x.c2 with since := now }, result := .inactive, seenInactive := true }

def restartPairs (l : List Nat) (s : State) : State :=
  l.foldl (fun s p =>
    let s := s.modPair .ibex p (commitPair s.us)
    let s := s.modPair .chamois p (commitPair s.us)
    if p < 24 then s.modDoor (p / 3) fun x => { x with proofRestart := p :: x.proofRestart.filter fun q => q ≠ p } else s) s

/-- An axis whose slot is no longer configured: the current ramps to 0 where it is energised, then DISABLED. -/
def dropSlot (a : Nat) (s : State) : State :=
  if (s.axis a).drive.state == .standstill then startDisableRamp a s
  else s.modDrive a fun d => { d with state := .disabled, phaseValid := false, stoDone := true, stoSince := none,
                                      demandIbex := false, demandChamois := false }

/-- An axis whose slot becomes configured starts in STO without a position. -/
def addSlot (a : Nat) (s : State) : State :=
  let s := s.modDrive a fun d => { d with state := .sto, ramp := none, stoDone := true, stoAtRest := true, stoSince := none,
                                          phaseValid := false, demandIbex := true, demandChamois := true }
  clearPosValid a s

/-- R45 for one doorway whose type or step mode has changed; `old` tells which slots were configured. -/
def changeDoor (d : Nat) (oldType : Int) (old : List Nat) (s : State) : State :=
  let new := s.axesOf d
  let s := (old.filter fun a => !new.contains a).foldl (fun s a => dropSlot a s) s
  let s := (new.filter fun a => !old.contains a).foldl (fun s a => addSlot a s) s
  let typeNow := s.dtype d
  -- any change clears masses, profiles and envelopes (R86, R163)
  let s := [0, 1, 2].foldl (fun s sl => s.modAxis (axisOf d sl) fun x =>
    { x with learned := x.learned.noMass, saved := x.saved.noMass }) s
  let s := untaught d s
  if typeNow = 0 then
    (setIsolated d false s).modDoor d fun x =>
      { x with leaf := .unconfigured, step := .retracted, shown := .unconfigured, released := false }
  else if oldType = 0 then
    setFirst d .faultHold (restartPairs [3 * d, 3 * d + 1, 3 * d + 2] s)
  else if (s.door d).leaf == .isolated then s
  else setLeaf d .faultHold s

def pairsChanged (ps : List Par) : List Nat :=
  (List.range 32).filter fun i => ps.contains (.saf (.pairType i)) || ps.contains (.saf (.disc i)) || ps.contains (.saf (.inFiltMs i))

def kscChanged (ps : List Par) : Bool :=
  ps.any fun p => match p with
    | .saf .kscConnId | .saf .kscCode | .saf .kscPeerA | .saf .kscPeerB | .saf .kscCycleMs | .saf .kscWdMs
    | .saf .kscPolicy | .saf .kscSingleMax | .saf .kscPairUs | .saf .kscSeqGap => true
    | _ => false

/-- DW and AX parameters that the safety functions read themselves: they act from the exchange of the commit on a moving owner
too (R229 step 2; DEDUCED, log 49). -/
def actsAtOnce : Par → Bool
  | .dw _ .type | .dw _ .side | .dw _ .stepMode | .dw _ .stepSafePos | .dw _ .fcap => true
  | _ => false

/-- A committed value: an owner that moves keeps the value it has until it is at rest (R94). -/
def commitVal (p : Par) (v : Int) (s : State) : State :=
  let keep (l : List (Nat × Int)) : List (Nat × Int) := if (sget l p.key).isSome then l else sput l p.key (s.val p)
  match p with
  | .ax a _ =>
    if axRest s a then takeVal p v s else (s.setVal p v).modAxis a fun x => { x with held := keep x.held }
  | .dw d _ =>
    if actsAtOnce p || doorRest s d then takeVal p v s else (s.setVal p v).modDoor d fun x => { x with held := keep x.held }
  | _ => takeVal p v s

/-- SAF_COMMIT is accepted: its values wait for the next exchange, and its verification is used up (R228, R229 step 1). -/
def acceptCommit (q : Req) (s : State) : State :=
  { s with safShadow := []
           saf := { s.saf with commit := some (q, s.safShadow), verified := none, shadowOwner := none, shadowC := [] } }

/-- An accepted commit is applied (R229). -/
def commitDo (vals : List (Nat × Int)) (s : State) : State :=
  let old := s
  let entries := vals.filterMap fun e =>
    match keyOf e.1 with
    | some (.scalar p) => if s.val p = e.2 then none else some (p, e.2)
    | _ => none
  let ps := entries.map Prod.fst
  let oldCrc := s.saf.configCrc
  let s := entries.foldl (fun s e => commitVal e.1 e.2 s) s
  let s := each 8 (fun s d =>
    if ps.contains (.dw d .type) || ps.contains (.dw d .stepMode) then changeDoor d (old.dtype d) (old.axesOf d) s else s) s
  let s := restartPairs (pairsChanged ps) s
  let s := if kscChanged ps then kscStart s else s
  let crc := activeCrc s
  let n := wrap32 (s.saf.commitCount + 1)
  let s := s.modSaf fun x => { x with configCrc := crc, configCrcC := crc, commitCount := n, heldOff := false }
  let s := match s.boot.revertSet with
    | some k => s.modBoot fun b => { b with defaultSet := k, revertSet := none }
    | none => s
  archive 1 oldCrc crc n 984 (imageBytes (imageOf s.val)) (raise 201 n s)

/-! ## REVERT (R302, R329) -/

/-- KIND 0: the pending values of one owner; KIND 1: all of them. -/
def revertOwner (g i : Nat) (s : State) : State :=
  { s with shadow := s.shadow.filter fun e => !(e.1 / 16777216 = g && e.1 / 65536 % 256 = i) }
def revertAll (s : State) : State := { s with shadow := [] }
/-- KIND 2. -/
def revertSafety (s : State) : State :=
  { s with safShadow := [], saf := { s.saf with verified := none, shadowOwner := none, shadowC := [] }
           boot := { s.boot with revertSet := none } }

/-- KIND 3: the defaults of a set as if written one by one, but for host commands of outputs. The sessions of a port whose
values change end when all is written (R352; DEDUCED, log 49: R329's own procedure goes on in the session that reverts, so a
value that stays ends none). -/
def revertDefaults (w : Writer) (set : Nat) (s : State) : State :=
  let ports := allWritable.flatMap fun p => if s.val p = p.dflt set then [] else portsOf p
  let s := allWritable.foldl (fun s p => match p with
    | .io _ .out => s
    | _ => if portsOf p = [] then writeDo w p (p.dflt set) s else s.setVal p (p.dflt set)) s
  ports.foldl (fun s x => endPort x s) (s.modBoot fun b => { b with revertSet := some set })

end Sys2Proof.Machine
end

