-- ==== Sys2Proof/Machine/Kcp.lean ====
section
/-! DEFINITION. The command protocol around a command (R284 to R299, R315, R316): opcode table, packets as they arrive, the checks
of R290, replies, sessions, forwarding. -/

namespace Sys2Proof.Machine

/-! ## The opcode table (R299) -/

def opHello : Nat := 0x0001
def opLogin : Nat := 0x0002
def opLogout : Nat := 0x0003
def opKeepalive : Nat := 0x0004
def opParamRead : Nat := 0x0101
def opParamWrite : Nat := 0x0102
def opBlockRead : Nat := 0x0103
def opBlockWrite : Nat := 0x0104
def opSafVerify : Nat := 0x0105
def opSafCommit : Nat := 0x0106
def opRevert : Nat := 0x0107
def opEventPoll : Nat := 0x0201
def opEventAck : Nat := 0x0202
def opEventInject : Nat := 0x0203
def opOpen : Nat := 0x0301
def opClose : Nat := 0x0302
def opHold : Nat := 0x0303
def opIsolate : Nat := 0x0304
def opDeisolate : Nat := 0x0305
def opDoorStatus : Nat := 0x0306
def opMoveAbs : Nat := 0x0401
def opMoveRel : Nat := 0x0402
def opStop : Nat := 0x0403
def opQuickStop : Nat := 0x0404
def opHome : Nat := 0x0405
def opJog : Nat := 0x0406
def opPark : Nat := 0x0407
def opEnable : Nat := 0x0408
def opDisable : Nat := 0x0409
def opPlanLoad : Nat := 0x0501
def opPlanExchange : Nat := 0x0502
def opLogicRun : Nat := 0x0503
def opLogicStop : Nat := 0x0504
def opLogicHold : Nat := 0x0505
def opLogicStep : Nat := 0x0506
def opVarRead : Nat := 0x0507
def opVarForce : Nat := 0x0508
def opJrnRead : Nat := 0x0601
def opJrnStats : Nat := 0x0602
def opJrnSeal : Nat := 0x0603
def opJrnStream : Nat := 0x0604
def opTimeStatus : Nat := 0x0701
def opTimeAccept : Nat := 0x0702
def opHerdStatus : Nat := 0x0801
def opHerdPrepare : Nat := 0x0802
def opHerdAbort : Nat := 0x0803
def opGrazeNow : Nat := 0x0901
def opGrazeReport : Nat := 0x0902
def opFwBegin : Nat := 0x0F01
def opFwChunk : Nat := 0x0F02
def opFwVerify : Nat := 0x0F03
def opFwActivate : Nat := 0x0F04

def opcodes : List Nat :=
  [0x0001, 0x0002, 0x0003, 0x0004, 0x0101, 0x0102, 0x0103, 0x0104, 0x0105, 0x0106, 0x0107, 0x0201, 0x0202, 0x0203]
  ++ [0x0301, 0x0302, 0x0303, 0x0304, 0x0305, 0x0306, 0x0401, 0x0402, 0x0403, 0x0404, 0x0405, 0x0406, 0x0407, 0x0408, 0x0409]
  ++ [0x0501, 0x0502, 0x0503, 0x0504, 0x0505, 0x0506, 0x0507, 0x0508, 0x0601, 0x0602, 0x0603, 0x0604]
  ++ [0x0701, 0x0702, 0x0801, 0x0802, 0x0803, 0x0901, 0x0902, 0x0F01, 0x0F02, 0x0F03, 0x0F04]

/-- Least role of an opcode with a payload (R299, R302, R312). -/
def opRole (s : State) (op : Nat) (b : Bytes) : Nat :=
  let forMode (m : Nat) : Nat := if m ≤ 2 then 1 else 2
  if op = opHello || op = opLogin || op = opParamRead || op = opBlockRead || op = opEventPoll || op = opDoorStatus
    || op = opVarRead || op = opJrnRead || op = opJrnStats || op = opTimeStatus || op = opHerdStatus || op = opGrazeReport then 0
  else if op = opSafVerify || op = opSafCommit || op = opIsolate || op = opDeisolate || op = opFwActivate then 3
  else if op = opRevert then (if rd b 0 1 ≤ 1 then 1 else 3)
  else if op = opMoveAbs || op = opMoveRel || op = opJog || op = opPark || op = opEnable || op = opDisable || op = opPlanLoad
    || op = opPlanExchange || op = opLogicRun || op = opJrnSeal || op = opTimeAccept || op = opFwBegin || op = opFwChunk
    || op = opFwVerify then 2
  else if op = opHerdPrepare then forMode (rd b 0 1)
  else if op = opHerdAbort then forMode ((s.herd.pendMode.map Mode.code).getD 0)
  else 1

/-- Opcodes marked TM (R292). -/
def opTm (op : Nat) : Bool :=
  op = opEventInject || op = opHome || op = opLogicHold || op = opLogicStep || op = opVarForce || op = opGrazeNow

/-- Target kinds that an opcode takes (R288, R299). -/
def opKinds (op : Nat) : List Nat :=
  if op = opRevert then [0, 1, 2]
  else if op = opEventInject then [5]
  else if op = opDoorStatus then [0, 1]
  else if opOpen ≤ op && op ≤ opDeisolate then [1]
  else if opMoveAbs ≤ op && op ≤ opQuickStop then [1, 2]
  else if opHome ≤ op && op ≤ opDisable then [2]
  else if op = opLogicStep then [6]
  else [0]

/-- Number of targets of a kind. -/
def kindCount (k : Nat) : Nat :=
  if k = 0 then 1 else if k = 1 then 8 else if k = 2 then 24 else if k = 3 then 112 else if k = 4 then 16
  else if k = 5 then 256 else if k = 6 then 24 else 0

/-- PAYLOAD_LEN matches the opcode. -/
def opLen (op : Nat) (b : Bytes) : Bool :=
  let n := b.length
  if op = opLogin then n = 20
  else if op = opParamRead then n = 4 + 4 * rd b 0 2
  else if op = opParamWrite then n = 4 + 8 * rd b 0 2
  else if op = opBlockRead || op = opVarForce || op = opJrnStream || op = opTimeAccept || op = opHerdPrepare then n = 12
  else if op = opBlockWrite then 16 ≤ n && n = 16 + rd b 12 2
  else if op = opSafCommit || op = opRevert || op = opEventInject || op = opHome || op = opLogicRun || op = opJrnSeal
    || op = opHerdAbort || op = opGrazeNow || op = opFwActivate then n = 4
  else if op = opEventAck then n = 72
  else if op = opMoveAbs || op = opMoveRel then n = 28
  else if op = opJog || op = opFwBegin then n = 8
  else if op = opPlanLoad then 12 ≤ n && n = 12 + rd b 8 2
  else if op = opFwChunk then 8 ≤ n && n = 8 + rd b 4 2
  else if op = opVarRead then n = 4 + 8 * rd b 0 2
  else if op = opJrnRead then n = 16
  else n = 0

/-- Commands that a start refuses until its step 7 is complete (R406). -/
def opNeedsStart (op : Nat) : Bool :=
  op = opParamWrite || op = opBlockWrite || op = opSafVerify || op = opSafCommit || (opOpen ≤ op && op ≤ opDeisolate)
    || (opMoveAbs ≤ op && op ≤ opDisable) || (opPlanLoad ≤ op && op ≤ opLogicStep) || op = opVarForce

/-! ## Steps 10 to 12 of R290, R406 -/

/-- A block write of session 0 to a role key, judged by R298. -/
def keyWrite0 (q : Req) (op : Nat) : Bool :=
  op = opBlockWrite && q.session = 0 && (match keyOf (rd q.payload 0 4) with | some (.block (.roleKey _)) => true | _ => false)

def roleRefuses (s : State) (op : Nat) (q : Req) : Option (Status × Nat) :=
  let role := roleOf s q
  if q.session ≠ 0 && (sessionOf s q.session).isNone then some (.authRequired, 1)
  else if keyWrite0 q op then (if keyWriteOk s (writerOf s q) q.more then none else some (.safetyLocked, 5))
  else if opTm op then
    match s.effMode with
    | .test => if 1 ≤ role then none else some (.authRequired, 0)
    | .maintenance => if 2 ≤ role then none else some (.authRequired, 0)
    -- EVENT_INJECT in another mode is refused with the case of R461 instead
    | _ => if op = opEventInject && 1 ≤ role then none
           else if op = opEventInject then some (.authRequired, 0) else some (.modeForbids, 0)
  else if role < opRole s op q.payload then some (.authRequired, 0) else none

def targetRefuses (s : State) (op : Nat) (q : Req) : Option (Status × Nat) :=
  if !(opKinds op).contains (tKind q.target) then some (.outOfRange, 0xFF01)
  else if kindCount (tKind q.target) ≤ tIndex q.target then some (.outOfRange, 0xFF02)
  else if tMember q.target ≠ s.herdN .member then some (.outOfRange, 0xFF03)
  else none

def gate (s : State) (op : Nat) (q : Req) : Option (Status × Nat) :=
  match roleRefuses s op q with
  | some x => some x
  | none =>
    match targetRefuses s op q with
    | some x => some x
    | none =>
      if !opLen op q.payload then some (.badLength, 1)
      else if opNeedsStart op && s.boot.step ≠ 0 then some (.busyRetry, 2)
      else none

/-! ## Replies -/

def replyOf (op : Nat) (q : Req) (st d : Nat) (more : Bool) (b : Bytes) : Reply :=
  { port := q.port, dst := q.src, dstPort := q.srcPort, trailer := q.trailer, op := op, seq := q.seq, session := q.session,
    target := q.target, auth := q.auth && st ≠ Status.authRequired.code && st ≠ Status.authFailed.code, more := more, fwd := q.fwd,
    status := st, detail := d, payload := b, tag := [], wires := [] }

def tagOf (key nonce head : Bytes) : Bytes := (hmac key (head ++ nonce)).take 16

/-- Header and payload of a reply (R286, R287). -/
def Reply.head (r : Reply) : Bytes :=
  [0x4B, 0x5A, 1] ++ le 1 (1 + 2 * b2n r.auth + 4 * b2n r.more + 8 * b2n r.fwd) ++ le 2 r.op ++ le 2 r.seq ++ le 4 r.session
    ++ le 2 r.target ++ le 2 r.payload.length ++ le 2 r.status ++ le 2 r.detail ++ zeros 4 ++ r.payload

/-- The packet of a reply (R285). -/
def Reply.bytes (r : Reply) : Bytes :=
  let b := r.head ++ r.tag
  b ++ le 4 (crc32c b)

/-- Key and session nonce that tag the reply to a request: those of its session, or those that a LOGIN names (R293, R294). -/
def replySeal (s : State) (op : Nat) (q : Req) : Option (Bytes × Bytes) :=
  if op = opLogin then (vget s.net.keys (rd q.payload 0 1) none).map fun k => (k, (q.payload.drop 4).take 16)
  else (sessionOf s q.session).map fun x => (x.key, x.nonce)

/-- A reply with its tag. -/
def sealed (k : Option (Bytes × Bytes)) (r : Reply) : Reply :=
  match k with
  | some k => if r.auth then { r with tag := tagOf k.1 k.2 r.head } else r
  | none => { r with auth := false }

/-- The copies of a reply (R284, R337): on both ports with trailers where its request had one and the two ports are one node,
else on the port of the request; a request without IP is answered without IP. -/
def replyWires (s : State) (r : Reply) : List Wire :=
  if r.trailer && prpOn s then wiresAB s 3 true fun _ => r.dst
  else wireOn s 3 false (r.dstPort ≠ 0) (fun _ => r.dst) (Port.index r.port)

/-- A reply is sent. -/
def emit (r : Reply) (s : State) : State :=
  let l := replyWires s r
  (countWires l s).modKcp fun k => { k with outbox := k.outbox ++ [{ r with wires := l }] }

def modSession (id : Nat) (f : Session → Session) (s : State) : State :=
  s.modKcp fun k => { k with sessions := k.sessions.map fun x => if x.id = id then f x else x }

/-- The first entry of a request in a list of requests goes. -/
def dropReq (op : Nat) (q : Req) (l : List (Nat × Req)) : List (Nat × Req) := l.erase (op, q)

/-- The session is kept alive by an accepted request (R296). -/
def touch (id : Nat) (s : State) : State :=
  modSession id (fun x => { x with aliveUntil := s.us + 1000000 * s.netN .kcpKeepaliveS }) s

/-- The one reply to a request: sent, cached in its session, the request no longer waits; the session ends after SEQ
0xFFFF (R285, R295). -/
def sendReply (op : Nat) (q : Req) (r : Reply) (s : State) : State :=
  let s := (emit r s).modKcp fun k => { k with waiting := dropReq op q k.waiting, progress := dropReq op q k.progress }
  let s := modSession q.session (fun x => { x with cache := ((op, q, r) :: x.cache).take 8 }) s
  if q.seq = 0xFFFF && q.session ≠ 0 then endSessions (fun x => x.id = q.session) s else s

/-- The reply with an outcome; the seal may be that of a session which its own request has ended (R296). -/
def replyWith (k : Option (Bytes × Bytes)) (op : Nat) (q : Req) (o : Outcome) (more : Bool) (s : State) : State :=
  sendReply op q (sealed k (replyOf op q o.status.code o.detail more o.payload)) s

def reply (op : Nat) (q : Req) (o : Outcome) (more : Bool) (s : State) : State := replyWith (replySeal s op q) op q o more s

/-- What a command starts once its reply is sent: a restart (R403, R314) or SLEEP (R446). -/
def afterReply (s : State) : State :=
  match s.boot.restartPending with
  | some c => fullStart c s
  | none => if s.sup.powerMode = 2 && s.boot.power == .on then enterSleep s else s

/-- A command of the protocol: the checks of R290 that are left, then its own rules. `h` gives the reply, or nothing where
the reply comes later. -/
def kcp (op : Nat) (q : Req) (h : State → State × Option (Outcome × Bool)) (s : State) : State :=
  if !listens s then s
  else
    let s := touch q.session s
    match gate s op q with
    | some x => reply op q (.bad x.1 x.2) false s
    | none =>
      let r := h s
      match r.2 with
      | some o => afterReply (replyWith (replySeal s op q) op q o.1 o.2 r.1)
      | none => r.1

/-- The same for a command that answers at once without MORE. -/
def kcpNow (op : Nat) (q : Req) (h : State → State × Outcome) (s : State) : State :=
  kcp op q (fun s => let r := h s; (r.1, some (r.2, false))) s

/-! ## LOGIN (R293, R296, R297) -/

def lockedOut (s : State) (src : Nat) : Bool :=
  match get s.kcp.lockouts src with
  | some t => s.us < t
  | none => false

/-- Refusals of a LOGIN that do not need its tag. -/
def loginRefuses (s : State) (src : Nat) (b : Bytes) : Option (Status × Nat) :=
  let role := rd b 0 1
  if lockedOut s src then some (.authFailed, 3)
  else if !(s.kcp.nonces.any fun n => n.1 = (b.drop 4).take 8 && s.us < n.2) then some (.authFailed, 1)
  else if role = 0 || 3 < role then some (.outOfRange, 0)
  else if (vget s.net.keys role none).isNone then some (.authFailed, 2)
  else none

/-- A failed attempt is counted; the fifth within 60 s locks the address out for 60 s. -/
def loginFailed (src : Nat) (s : State) : State :=
  let old := s.kcp.logins.filter fun x => x.1 = src && s.us < x.2 + 60000000
  let s := s.modKcp fun k => { k with logins := (src, s.us) :: k.logins }
  if 4 ≤ old.length && !lockedOut s src then
    s.modKcp fun k => { k with lockouts := put k.lockouts src (s.us + 60000000), logins := k.logins.filter fun x => x.1 ≠ src }
  else s

/-- A nonce serves for one LOGIN. -/
def useNonce (n : Bytes) (s : State) : State :=
  s.modKcp fun k => { k with nonces := k.nonces.filter fun x => !(x.1 = n) && s.us < x.2 }

/-- An identifier other than 0, 0xFFFF_FFFF and those in use; the spec leaves the choice open (free place 980). -/
def newId (s : State) : Nat :=
  let x := (Config.open_ 980 [(s.fresh : Int)] % 0xFFFFFFFE).toNat + 1
  (List.range 9).foldl (fun x _ => if s.kcp.sessions.any (fun y => y.id = x) then x % 0xFFFFFFFE + 1 else x) x

/-! ## Packets (R285 to R290) -/

structure Packet where
  op : Nat
  flags : Nat
  q : Req
  tag : Bytes
  head : Bytes
  deriving DecidableEq, Repr

/-- The fields of a packet; the payload is empty where its length is not consistent. -/
def packet (f : Frame) : Packet :=
  let b := f.data
  let fl := rd b 3 1
  let n := rd b 14 2
  { op := rd b 4 2, flags := fl, head := b.take (24 + n), tag := (b.drop (24 + n)).take 16
    q := { port := f.port, src := f.src, srcPort := f.srcPort, trailer := f.trailer, seq := rd b 6 2, session := rd b 8 4,
           auth := bit fl 1, more := bit fl 2, fwd := bit fl 3, target := rd b 12 2, payload := (b.drop 24).take n,
           rest := (b.drop 16).take 8 } }

def packetLenOk (f : Frame) (p : Packet) : Bool :=
  let n := rd f.data 14 2
  n ≤ 1428 && f.data.length = 28 + n + (if p.q.auth then 16 else 0)

/-- The refusal of a packet at steps 2 to 6: header fields echoed, AUTH clear. -/
def early (p : Packet) (st : Status) (d : Nat) (s : State) : State :=
  emit { replyOf p.op p.q st.code d p.q.more [] with auth := false } s

/-- A refusal at steps 7 to 9 that is not cached. -/
def late (p : Packet) (st : Status) (d : Nat) (s : State) : State :=
  emit (sealed (replySeal s p.op p.q) (replyOf p.op p.q st.code d false [])) s

/-- Identical as requests, whatever port they came on. -/
def sameReq (a b : Nat × Req) : Bool :=
  a.1 = b.1 && a.2.seq = b.2.seq && a.2.session = b.2.session && a.2.target = b.2.target && a.2.auth = b.2.auth
    && a.2.more = b.2.more && a.2.fwd = b.2.fwd && a.2.payload = b.2.payload && a.2.rest = b.2.rest

/-- Acceptance of a SEQ (R295): the session with it, or none. -/
def takeSeq (x : Session) (n : Nat) : Option Session :=
  if x.h < n then some { x with h := n, seen := (x.h :: x.seen).filter fun k => n ≤ k + 32 }
  else if n < x.h && x.h ≤ n + 32 && !x.seen.contains n then some { x with seen := n :: x.seen }
  else none

/-- Steps 8 and 9: forwarding, then room in the queue (R315, R316). -/
def enqueue (p : Packet) (s : State) : State :=
  let m := tMember p.q.target
  if p.q.fwd && m ≠ s.herdN .member then
    if p.q.session ≠ 0 || opRole s p.op p.q.payload ≠ 0 || p.op = opLogin then reply p.op p.q (.bad .modeForbids 0x10) false s
    else if !bit s.herd.present m then late p .busyRetry 8 s
    else send (.forward m p.q) (s.modKcp fun k => { k with forwards := k.forwards ++ [(m, p.q.seq, p.q, p.op, s.us)] })
  else if 64 ≤ s.kcp.waiting.length then late p .busyRetry 1 s
  else s.modKcp fun k => { k with waiting := k.waiting ++ [(p.op, p.q)] }

/-- Step 7 for a session, then the rest. -/
def sequence (p : Packet) (x : Session) (s : State) : State :=
  match takeSeq x p.q.seq with
  | some y => enqueue p (touch x.id (modSession x.id (fun _ => y) s))
  | none =>
    if s.kcp.progress.any fun e => sameReq e (p.op, p.q) then late p .busyRetry 2 s
    else
      match x.cache.find? fun e => sameReq (e.1, e.2.1) (p.op, p.q) with
      | some e => emit { e.2.2 with port := p.q.port, dst := p.q.src, dstPort := p.q.srcPort, trailer := p.q.trailer } s
      | none => late p .replay 0 s

/-- Steps 5 to 9 for a LOGIN: the nonce, the key and the tag. -/
def loginPacket (p : Packet) (s : State) : State :=
  let b := p.q.payload
  match loginRefuses s p.q.src b with
  | some (.authFailed, d) => early p .authFailed d (if d = 3 then s else loginFailed p.q.src s)
  | some _ => enqueue p s
  | none =>
    let key := (vget s.net.keys (rd b 0 1) none).getD []
    if p.tag = tagOf key ((b.drop 4).take 16) p.head then enqueue p s
    else early p .authFailed 0 (loginFailed p.q.src (useNonce ((b.drop 4).take 8) s))

/-- A KCP packet as it reaches the protocol (R290 steps 1 to 9). -/
def kcpPacket (f : Frame) (s : State) : State :=
  let b := f.data
  let p := packet f
  if b.length < 28 || rd b 0 1 ≠ 0x4B || rd b 1 1 ≠ 0x5A || rd b 2 1 ≠ 1 || bit p.flags 0 then s
  else if rd b (b.length - 4) 4 ≠ crc32c (b.take (b.length - 4)) then early { p with q := { p.q with payload := [] } } .badCrc 0 s
  else if !packetLenOk f p then early { p with q := { p.q with payload := [] } } .badLength 0 s
  else if !opcodes.contains p.op then early p .badOpcode 0 s
  else if p.op = opLogin then
    if p.q.session = 0 && p.q.auth && b.length = 64 then loginPacket p s
    else if p.q.session = 0 && p.q.auth then early p .badLength 1 s
    else early p .authRequired 1 s
  else if p.q.session = 0 then (if p.q.auth then early p .authRequired 1 s else enqueue p s)
  else
    match sessionOf s p.q.session with
    | none => early p .authRequired 1 s
    | some x =>
      if !p.q.auth then early p .authFailed 0 s
      else if p.tag ≠ tagOf x.key x.nonce p.head then early p .authFailed 0 s
      else sequence p x s

/-! ## Frames (R335 to R338) -/

/-- A frame of the class Other: the only one that the rate limit and the duplicate discard apply to. -/
def otherClass : FrameClass → Bool
  | .kcpUdp | .kcpL2 | .otherIp | .prpSupervision => true
  | .ptp | .ksc | .herd => false

/-- A port takes KCP of a framing (R284, R352). -/
def kcpOn (s : State) (f : Frame) : Bool :=
  let p := Port.index f.port
  bit (s.netN .kcpPorts) p &&
    match f.cls with
    | .kcpUdp => portIp s p ≠ 0
    | .kcpL2 => p = 2 && s.netp .svcL2Kcp = 1
    | _ => false

/-- Frames of the present second on a port; beyond the limit a frame is dropped and counted (R336). -/
def takeIn (p : Nat) (s : State) : State × Bool :=
  let sec := s.us / 1000000
  let s := s.modPort p fun x => if x.framesSec = sec then { x with frames := x.frames + 1 } else { x with framesSec := sec, frames := 1 }
  if s.netN (.rateLimit p) < (s.port p).frames then (netCount p 3 s, false) else (s, true)

/-- A frame is received: counted, sorted by class, and a request of KCP taken up. A Delay_Req is answered here, for which the
table has no row of its own (R339); the other frames of the classes PTP, KSC and herd reach their own commands. -/
def effectFrameRx (f : Frame) (s : State) : State :=
  let p := Port.index f.port
  if !listens s || !portOn s p then s
  else
    let s := netCount p 0 s
    if !otherClass f.cls then (if f.cls = .ptp then takePtpFrame p f.data s else s)
    else
      match takeIn p s with
      | (s, false) => s
      | (s, true) =>
        let s := if f.trailer && p < 2 && f.lanB != (p == 1) then netCount p 6 s else s
        let s := if p < 2 && prpOn s && (f.trailer || f.cls = .prpSupervision) then heardOn p s else s
        let d := if f.trailer && p < 2 && prpOn s then dupCheck p f.src f.prpSeq s else (s, true)
        if d.2 && kcpOn d.1 f then kcpPacket f d.1 else d.1

/-! ## Forwarding (R315) -/

def forwardOf (s : State) (m seq : Nat) : Option (Nat × Nat × Req × Nat × Nat) :=
  s.kcp.forwards.find? fun x => x.1 = m && x.2.1 = seq
def dropForward (x : Nat × Nat × Req × Nat × Nat) (s : State) : State :=
  s.modKcp fun k => { k with forwards := k.forwards.erase x }

/-- The reply of the other member is relayed to the host. -/
def effectForwardReply (m seq st d : Nat) (more : Bool) (b : Bytes) (s : State) : State :=
  match forwardOf s m seq with
  | some x => emit (replyOf x.2.2.2.1 x.2.2.1 st d more b) (dropForward x s)
  | none => s

/-- No reply within 20 ms. -/
def effectForwardTimeout (m seq : Nat) (s : State) : State :=
  match forwardOf s m seq with
  | some x =>
    let s := forwardTo (some (x.2.2.2.2 + 20000)) s
    emit (replyOf x.2.2.2.1 x.2.2.1 Status.busyRetry.code 8 false []) (dropForward x s)
  | none => s

end Sys2Proof.Machine
end

