-- ==== Sys2Proof/Machine/HostCmds.lean ====
section
/-! DEFINITION. The commands of the host (R293 to R315) apart from doors and motion: sessions, parameters and blocks, the
safety commit, events, the logic, the journal and its stream, time, herd, Graze, firmware. -/

namespace Sys2Proof.Machine

/-! ## Sessions (R293, R296) -/

def effectHello (q : Req) (s : State) : State :=
  kcpNow opHello q (fun s =>
    let nonce := le 8 (Config.nonce s.fresh)
    let s := s.draw.modKcp fun k => { k with nonces := (nonce, s.us + 10000000) :: k.nonces.filter fun x => s.us < x.2 }
    (s, .ok (helloBytes s nonce))) s

/-- LOGIN's own rules: what R293 and R297 refuse, then the limits of R296. -/
def loginOp (q : Req) (s : State) : State × Outcome :=
  let b := q.payload
  let role := rd b 0 1
  match loginRefuses s q.src b with
  | some x => (if x.1 = .authFailed && x.2 ≠ 3 then loginFailed q.src s else s, .bad x.1 x.2)
  | none =>
    let s := useNonce ((b.drop 4).take 8) s
    if role = 3 && !keyTurned s then (s, .bad .safetyLocked 1)
    else if 8 ≤ s.kcp.sessions.length || (role = 3 && s.kcp.sessions.any fun x => x.role = 3) then (s, .bad .busyRetry 3)
    else
      let x : Session := { id := newId s, role := role, port := q.port, src := q.src, key := (vget s.net.keys role none).getD [],
                           nonce := (b.drop 4).take 16, h := q.seq, seen := [], cache := [],
                           aliveUntil := s.us + 1000000 * s.netN .kcpKeepaliveS }
      (s.draw.modKcp fun k => { k with sessions := k.sessions ++ [x] }, .ok (le 4 x.id ++ le 2 (s.netN .kcpKeepaliveS) ++ [0, 0]))

/-- Role 0 of a LOGIN is its payload's, so steps 10 to 12 need nothing of the role. -/
def effectLogin (q : Req) (s : State) : State := kcpNow opLogin q (loginOp q) s

/-- LOGOUT: the reply, then the end of the session. -/
def effectLogout (q : Req) (s : State) : State :=
  if !listens s then s
  else
    let ok := (gate (touch q.session s) opLogout q).isNone
    let s := kcpNow opLogout q (fun s => (s, .ok [])) s
    if ok then endSessions (fun x => x.id = q.session) s else s

def effectKeepalive (q : Req) (s : State) : State := kcpNow opKeepalive q (fun s => (s, .ok [])) s

/-! ## Parameters and blocks -/

def countBad (b : Bytes) : Bool := rd b 0 2 = 0 || 64 < rd b 0 2

def effectParamRead (q : Req) (s : State) : State :=
  kcpNow opParamRead q (fun s =>
    (s, if countBad q.payload then .bad .outOfRange 0 else paramReadOp s (writerOf s q) q.payload)) s

def effectParamWrite (q : Req) (s : State) : State :=
  kcpNow opParamWrite q (fun s =>
    if countBad q.payload then (s, .bad .outOfRange 0) else paramWriteOp (writerOf s q) q.payload s) s

/-- A scalar that has a command row of its own: the PARAM_WRITE of one entry. -/
def effectRegWrite (p : Par) (w : RegWrite) (s : State) : State :=
  effectParamWrite { w.req with payload := onePayload p w.value } s

def effectBlockRead (q : Req) (s : State) : State :=
  kcp opBlockRead q (fun s => let r := blockReadOp (writerOf s q) q.payload s; (r.1, some (r.2.1, r.2.2))) s

def effectBlockWrite (q : Req) (s : State) : State :=
  kcpNow opBlockWrite q (fun s => blockWriteOp (writerOf s q) q.more q.payload s) s

/-- The last packet of a block write with the whole block staged before it. -/
def wholeWrite (b : Blk) (q : Req) (data : Bytes) (s : State) : State :=
  kcpNow opBlockWrite { q with payload := le 4 b.key ++ le 4 0 ++ le 4 data.length ++ le 2 data.length ++ [0, 0] ++ data }
    (fun s =>
      match blockRefuses s (writerOf s q) b q.more with
      | some x => (s, .bad x.1 x.2)
      | none => blockApply b data s) s

/-! ## Safety commit and REVERT -/

/-- SAF_VERIFY: the refusals at once; an accepted one is answered when the image is formed. -/
def effectSafVerify (q : Req) (s : State) : State :=
  kcp opSafVerify q (fun s =>
    if s.kcp.progress.any fun e => e.1 = opSafVerify then (s, some (.bad .busyRetry 2, false))
    else if !keyTurned s then (s, some (.bad .safetyLocked 1, false))
    else (s.modKcp fun k => { k with progress := k.progress ++ [(opSafVerify, q)] }, none)) s

/-- The request in progress of an opcode. -/
def inProgress (s : State) (op : Nat) : Option Req := (s.kcp.progress.find? fun e => e.1 = op).map Prod.snd

/-- The session of a request in progress may have ended. -/
def finish (op : Nat) (q : Req) (h : State → State × Outcome) (s : State) : State :=
  if (sessionOf s q.session).isNone then reply op q (.bad .authRequired 1) false s
  else let r := h s; reply op q r.2 false r.1

def effectSafVerifyDone (s : State) : State :=
  match inProgress s opSafVerify with
  | some q => finish opSafVerify q (fun s =>
      match verifyRefuses s with
      | some x => (s, .bad x.1 x.2)
      | none => let r := verifyDo q.session s; (r.1, .ok r.2)) s
  | none => s

/-- SAF_COMMIT: the refusals at once; an accepted one is applied and answered at the next exchange (R229 step 1). -/
def effectSafCommit (q : Req) (s : State) : State :=
  kcp opSafCommit q (fun s =>
    match commitRefuses s q.session (rd q.payload 0 4) with
    | some x => (s, some (.bad x.1 x.2, false))
    | none => ((acceptCommit q s).modKcp fun k => { k with progress := k.progress ++ [(opSafCommit, q)] }, none)) s

/-- CROSS_LANE_EXCHANGE: the comparison, then the switch of both lanes to an accepted commit with its reply. -/
def effectExchange (s : State) : State :=
  let s := crossLaneExchange s
  match s.saf.commit with
  | some (q, vals) =>
    if exchanging s then
      let s := commitDo vals (s.modSaf fun x => { x with commit := none })
      finish opSafCommit q (fun s => (s, .ok (le 4 s.saf.commitCount ++ le 4 s.saf.configCrc))) s
    else s
  | none => s

/-- REVERT with the KIND of the row (R302). KIND 1 to 3 take the module as target. -/
def effectRevert (kind : Nat) (q : Req) (s : State) : State :=
  kcpNow opRevert { q with payload := BitVec.ofNat 8 kind :: q.payload.drop 1 } (fun s =>
    let k := tKind q.target
    let i := tIndex q.target
    if kind ≠ 0 && k ≠ 0 then (s, .bad .outOfRange 0xFF01)
    else if kind = 0 then (revertOwner (if k = 0 then 1 else if k = 1 then 3 else 2) i s, .ok [])
    else if kind = 1 then (revertAll s, .ok [])
    else if kind = 2 then (revertSafety s, .ok [])
    else
      let set := rd q.payload 1 1
      if s.effMode != .maintenance then (s, .bad .modeForbids 0)
      else if set ≠ 1 && set ≠ 2 then (s, .bad .outOfRange 0)
      else if storeFailed s then (s, .bad .journalDegraded 0)
      else (revertDefaults (writerOf s q) set s, .ok [])) s

/-! ## Events (R303, R304, R461, R462) -/

def effectEventPoll (q : Req) (s : State) : State := kcpNow opEventPoll q (fun s => (s, .ok (pollBytes s))) s

def effectEventAck (q : Req) (s : State) : State :=
  kcpNow opEventAck q (fun s =>
    let b := q.payload
    let r := rd b 0 4
    if ackTooNew s r then (s, .bad .outOfRange 0)
    else
      let pm := (b.drop 8).take 32
      let sm := (b.drop 40).take 32
      (ackEvents r pm sm s, .ok (bitBytes (ackKept s r pm sm)))) s

/-- The case of R461, 0 where an injection is accepted. -/
def injectCase (s : State) (e : Nat) : Nat :=
  if s.effMode != .test && s.effMode != .maintenance then 1
  else if bit (s.evN e .inj) 14 then 2
  else if 219 ≤ e then 3
  else if !sourceOn s e then 4 else 0

/-- An accepted injection: the raise, and the reaction that the next pass takes (R462, R463). -/
def injectEvent (e detail : Nat) (s : State) : State :=
  let react := !bit (s.evN e .inj) 15
  let s := s.modEv fun v => { v with injections := inc32 v.injections, injCount := put v.injCount e (getD v.injCount e 0 + 1) }
  if e < 96 then
    let s := raiseDoor (e / 12) (e % 12) detail true s
    if react then s.modDoor (e / 12) fun x => { x with injected := x.injected ||| (1#12 <<< (e % 12)) } else s
  else if e < 192 then
    let s := raiseAxis ((e - 96) / 4) ((e - 96) % 4) detail true s
    if react then s.modAxis ((e - 96) / 4) fun x => { x with injected := x.injected ||| (1#4 <<< ((e - 96) % 4)) } else s
  else raiseBy e 0 detail true s

def effectEventInject (q : Req) (s : State) : State :=
  kcpNow opEventInject q (fun s =>
    let e := tIndex q.target
    let c := injectCase s e
    if c ≠ 0 then (s, .bad .modeForbids c) else (injectEvent e (rd q.payload 0 4) s, .ok [])) s

/-! ## Logic (R275 to R281, R308) -/

/-- Key of the transfer of a plan. -/
def planKey : Nat := 0xFFFFFFFF

/-- PLAN_LOAD: one session loads at a time; the last packet is answered when the checks are done (R291, R308). -/
def effectPlanLoad (q : Req) (s : State) : State :=
  kcp opPlanLoad q (fun s =>
    let b := q.payload
    let len := rd b 8 2
    if s.kcp.transfers.any (fun t => t.key = planKey && t.session ≠ q.session) then (s, some (.bad .busyRetry 5, false))
    else if (inProgress s opPlanLoad).isSome then (s, some (.bad .busyRetry 2, false))
    else if len = 0 || 1400 < len then (s, some (.bad .outOfRange 0, false))
    else
      match stage q.session planKey (rd b 4 4) (rd b 0 4) q.more (b.drop 12) s with
      | (s, none) => (s, some (.bad .outOfRange 1, false))
      | (s, some none) => (s, some (⟨.okQueued, 0, []⟩, false))
      | (s, some (some all)) =>
        (s.modKcp fun k => { k with transfers := ⟨q.session, planKey, rd b 4 4, all⟩ :: k.transfers,
                                    progress := k.progress ++ [(opPlanLoad, q)] }, none)) s

def effectPlanCheckDone (s : State) : State :=
  match inProgress s opPlanLoad with
  | some q =>
    finish opPlanLoad q (fun s =>
      match transferOf s q.session planKey with
      | some t =>
        if t.data.length ≠ t.total then (dropTransfer q.session planKey s, .bad .outOfRange 1)
        else planChecked t.data (dropTransfer q.session planKey s)
      | none => (s, .bad .outOfRange 1)) s
  | none => s

def effectPlanExchange (q : Req) (s : State) : State :=
  kcpNow opPlanExchange q (fun s => if storeFailed s then (s, .bad .journalDegraded 0) else planExchange q.session s) s

/-- LOGIC_RUN WARM or COLD; in STANDBY the logic stays in STOP (R446). -/
def effectLogicRun (warm : Bool) (q : Req) (s : State) : State :=
  kcpNow opLogicRun q (fun s => if s.sup.powerMode ≠ 0 then (s, .bad .modeForbids 0) else logicRun warm s) s

def effectLogicStop (q : Req) (s : State) : State := kcpNow opLogicStop q logicStop s
def effectLogicHold (q : Req) (s : State) : State := kcpNow opLogicHold q logicHold s
def effectLogicStep (q : Req) (s : State) : State := kcpNow opLogicStep q (logicStep (tIndex q.target)) s

def effectVarRead (q : Req) (s : State) : State :=
  kcpNow opVarRead q (fun s =>
    let b := q.payload
    let n := rd b 0 2
    if countBad b then (s, .bad .outOfRange 0)
    else (s, .ok (le 2 n ++ [0, 0] ++ (List.range n).flatMap fun i => varEntry s (rd b (4 + 8 * i) 4) (rd b (8 + 8 * i) 1)))) s

/-- VAR_FORCE with the ACTION of the row: release or force. -/
def effectVarForce (on : Bool) (q : Req) (s : State) : State :=
  kcpNow opVarForce q (fun s => varForce (rd q.payload 0 4) (rd q.payload 4 1) on (BitVec.ofNat 32 (rd q.payload 8 4)) s) s

/-! ## Journal (R309, R393, R394) -/

/-- A record passes the doorway mask. -/
def recShown (s : State) (r mask n : Nat) : Bool :=
  mask = 0 || !(r = 1 || r = 2) || bit mask (rd (recAt s r n) 16 1)

/-- The records of a reply toward newer: those that pass, up to `cap`, and the number after the last examined. -/
def readUp (s : State) (r mask cap : Nat) : Nat → Nat → List Bytes × Nat
  | 0, n => ([], n)
  | fuel + 1, n =>
    if (s.region r).next ≤ n || cap = 0 then ([], n)
    else if recShown s r mask n then
      match cap with
      | 0 => ([], n)
      | c + 1 =>
        if c = 0 then ([recAt s r n], n + 1)
        else let q := readUp s r mask c fuel (n + 1); (recAt s r n :: q.1, q.2)
    else readUp s r mask cap fuel (n + 1)

/-- Toward older, from n downward; the next number, none below the oldest. -/
def readDown (s : State) (r mask cap : Nat) : Nat → Nat → List Bytes × Option Nat
  | 0, n => ([], some n)
  | fuel + 1, n =>
    let below : Option Nat := if n ≤ oldest s r then none else some (n - 1)
    let shown := recShown s r mask n
    let cap' := if shown then cap - 1 else cap
    let here : List Bytes := if shown then [recAt s r n] else []
    if cap' = 0 then (here, below)
    else
      match below with
      | none => (here, none)
      | some k => let q := readDown s r mask cap' fuel k; (here ++ q.1, q.2)

def jrnReadOp (b : Bytes) (s : State) : Outcome :=
  let r := rd b 0 1
  let mask := rd b 1 1
  let dir := rd b 2 1
  let start := rd b 4 8
  let max := rd b 12 2
  if 4 < r || 1 < dir || max = 0 then .bad .outOfRange 0
  else if r < 4 && regFailed s r then .bad .journalDegraded 0
  else
    let next := (s.region r).next
    let cap := min max (1408 / recSize r)
    let out (nx : Nat) (l : List Bytes) : Outcome := .ok (le 8 nx ++ le 2 l.length ++ le 2 (recSize r) ++ zeros 4 ++ l.flatten)
    if start ≠ allOnes64 && start < oldest s r then .bad .outOfRange 1
    else if dir = 0 then
      let from_ := if start = allOnes64 then oldest s r else start
      let q := readUp s r mask cap 4096 from_
      out q.2 q.1
    else if next = 0 then out allOnes64 []
    else
      let from_ := if start = allOnes64 then next - 1 else min start (next - 1)
      let q := readDown s r mask cap 4096 from_
      out (q.2.getD allOnes64) q.1

def effectJrnRead (q : Req) (s : State) : State := kcpNow opJrnRead q (fun s => (s, jrnReadOp q.payload s)) s
def effectJrnStats (q : Req) (s : State) : State := kcpNow opJrnStats q (fun s => (s, .ok (statsBytes s))) s

def effectJrnSeal (q : Req) (s : State) : State :=
  kcpNow opJrnSeal q (fun s =>
    if regFailed s 3 then (s, .bad .journalDegraded 0)
    else let s := sealJournal (rd q.payload 0 4) s; (s, .ok (le 8 s.jrn.lastSeal))) s

/-! ## The force stream (R310) -/

def streamBad (b : Bytes) : Bool :=
  rd b 1 1 = 0 || 250 < rd b 1 1 || 16777216 ≤ rd b 4 4 || rd b 8 4 = 0 || 65535 < rd b 8 4

/-- OPEN and CREDIT are answered by the stream packets themselves. -/
def effectStreamOpen (q : Req) (s : State) : State :=
  kcp opJrnStream q (fun s =>
    let b := q.payload
    if streamBad b then (s, some (.bad .outOfRange 0, false))
    else if (match s.kcp.stream with | some t => t.session != q.session | none => false) then (s, some (.bad .busyRetry 6, false))
    else
      (s.modKcp fun k => { k with
        waiting := dropReq opJrnStream q k.waiting
        stream := some { session := q.session, req := q, op := opJrnStream, mask := rd b 4 4, decim := rd b 1 1, credit := rd b 8 4,
                         seq := 0, lost := 0, baseS := 0, baseNs := 0, samples := [], ticks := 0 } }, none)) s

def effectStreamCredit (q : Req) (s : State) : State :=
  kcp opJrnStream q (fun s =>
    let b := q.payload
    match s.kcp.stream with
    | some t =>
      if t.session ≠ q.session then (s, some (.bad .busyRetry 6, false))
      else if rd b 8 4 = 0 || 65535 < rd b 8 4 then (s, some (.bad .outOfRange 0, false))
      else (s.modKcp fun k => { k with waiting := dropReq opJrnStream q k.waiting,
                                       stream := some { t with req := q, credit := rd b 8 4 } }, none)
    | none => (s, some (.bad .outOfRange 0, false))) s

def effectStreamClose (q : Req) (s : State) : State :=
  kcpNow opJrnStream q (fun s =>
    (s.modKcp fun k => { k with stream := match k.stream with
      | some t => if t.session = q.session then none else some t
      | none => none }, .ok [])) s

/-- The samples gathered go out as one packet of the credit. -/
def effectStreamPacket (s : State) : State :=
  match s.kcp.stream with
  | some t =>
    if !listens s || t.samples = [] || t.credit = 0 then s
    else
      let b := le 4 t.seq ++ le 8 t.baseS ++ le 4 t.baseNs ++ le 4 t.lost ++ t.samples.flatten
      (emit (sealed (replySeal s t.op t.req) (replyOf t.op t.req 0 0 (1 < t.credit) b)) s).modKcp fun k => { k with
        stream := some { t with seq := wrap32 (t.seq + 1), credit := t.credit - 1, lost := 0, samples := [], ticks := 0 } }
  | none => s

/-! ## Time, herd, Graze (R311 to R313) -/

def effectTimeStatus (q : Req) (s : State) : State := kcpNow opTimeStatus q (fun s => (s, .ok (timeStatusBytes s))) s
def effectTimeAccept (q : Req) (s : State) : State :=
  kcpNow opTimeAccept q (fun s => timeAccept (rd q.payload 0 1) (rdI q.payload 4 8) s) s
def effectHerdStatus (q : Req) (s : State) : State := kcpNow opHerdStatus q (fun s => (s, .ok (herdStatusBytes s))) s
def effectHerdPrepare (q : Req) (s : State) : State :=
  kcpNow opHerdPrepare q (fun s => herdPrepare (rd q.payload 0 1) (rd q.payload 4 8) s) s
def effectHerdAbort (q : Req) (s : State) : State := kcpNow opHerdAbort q (fun s => herdAbort (rd q.payload 0 4) s) s
def effectGrazeNow (q : Req) (s : State) : State := kcpNow opGrazeNow q (fun s => grazeNow (rd q.payload 0 2) s) s
def effectGrazeReport (q : Req) (s : State) : State := kcpNow opGrazeReport q (fun s => (s, .ok (grazeBytes s))) s

/-! ## Firmware (R314, R422) -/

def otherBank (s : State) : Nat := 1 - s.boot.activeBank
def setBank (b st v sec : Nat) (s : State) : State :=
  s.modBoot fun x => { x with bankState := vset x.bankState b st, fwVersion := vset x.fwVersion b v,
                              secVersion := vset x.secVersion b sec }

/-- The mode and the other session's transfer. -/
def fwRefuses (s : State) (q : Req) : Option (Status × Nat) :=
  if s.effMode != .maintenance then some (.modeForbids, 0)
  else
    match s.boot.fwSize with
    | some f => if f.2 ≠ q.session then some (.busyRetry, 7) else none
    | none => none

def effectFwBegin (q : Req) (s : State) : State :=
  kcpNow opFwBegin q (fun s =>
    let n := rd q.payload 0 4
    match fwRefuses s q with
    | some x => (s, .bad x.1 x.2)
    | none =>
      if n = 0 || 16777216 < n then (s, .bad .outOfRange 0)
      else
        let s := setBank (otherBank s) 0 0 0 s
        (s.modBoot fun b => { b with fwImage := [], fwSize := some (n, q.session), fwVerified := false, fwVerifying := false,
                                     bankImage := vset b.bankImage (otherBank s) [] },
         .ok (le 1 (otherBank s) ++ zeros 3))) s

def effectFwChunk (q : Req) (s : State) : State :=
  kcpNow opFwChunk q (fun s =>
    let b := q.payload
    let len := rd b 4 2
    let have_ := s.boot.fwImage.length
    let gap (s : State) : State × Outcome := (s, ⟨.outOfRange, 1, le 4 have_⟩)
    match fwRefuses s q with
    | some x => (s, .bad x.1 x.2)
    | none =>
      match s.boot.fwSize with
      | none => gap s
      | some f =>
        if s.boot.fwVerifying then (s, .bad .busyRetry 2)
        else if len = 0 || 1400 < len then (s, .bad .outOfRange 0)
        else if rd b 0 4 ≠ have_ || f.1 < have_ + len then gap s
        else (s.modBoot fun x => { x with fwImage := x.fwImage ++ b.drop 8, fwVerified := false,
                                          bankImage := vset x.bankImage (otherBank s) (x.fwImage ++ b.drop 8) }, .ok (le 4 (have_ + len)))) s

def effectFwVerify (q : Req) (s : State) : State :=
  kcp opFwVerify q (fun s =>
    match fwRefuses s q with
    | some x => (s, some (.bad x.1 x.2, false))
    | none =>
      if (inProgress s opFwVerify).isSome then (s, some (.bad .busyRetry 2, false))
      else ((s.modBoot fun b => { b with fwVerifying := true }).modKcp fun k =>
              { k with progress := k.progress ++ [(opFwVerify, q)] }, none)) s

def fwCheck (s : State) : Option Nat :=
  let img := s.boot.fwImage
  match s.boot.fwSize with
  | some f =>
    if img.length ≠ f.1 then some 2
    else if !Config.signatureOk img then some 3
    else if Config.imageSecVersion img % 4294967296 < s.boot.minSec then some 4
    else none
  | none => some 2

def effectFwVerifyDone (s : State) : State :=
  match inProgress s opFwVerify with
  | some q =>
    finish opFwVerify q (fun s =>
      let bad := fwCheck s
      let s := s.modBoot fun b => { b with fwVerifying := false }
      match bad with
      | some d => (s, .bad .outOfRange d)
      | none =>
        let v := Config.imageVersion s.boot.fwImage % 4294967296
        let sec := Config.imageSecVersion s.boot.fwImage % 4294967296
        ((setBank (otherBank s) 1 v sec s).modBoot fun b => { b with fwVerified := true }, .ok (le 4 v ++ le 4 sec))) s
  | none => s

/-- FW_ACTIVATE: at the next power-up, or at once after the reply (R314), with its archive record (R392). -/
def effectFwActivate (now : Bool) (q : Req) (s : State) : State :=
  kcpNow opFwActivate q (fun s =>
    if s.effMode != .maintenance then (s, .bad .modeForbids 0)
    else if !s.boot.fwVerified then (s, .bad .outOfRange 5)
    else if now && !restartOk s then (s, .bad .doorwayStateForbids 0)
    else
      let n := otherBank s
      let s := archive 4 0 0 (vget s.boot.fwVersion n 0) 988
        (le 1 n ++ le 4 (vget s.boot.secVersion n 0) ++ le 1 (b2n now)) s
      (s.modBoot fun b => { b with bankState := vset b.bankState n 2, bootTries := 0, fwVerified := false,
                                   fwSize := none, fwImage := [], restartPending := if now then some 2 else b.restartPending },
       .ok [])) s

end Sys2Proof.Machine
end

