-- ==== Sys2Proof/Machine/DoorCmds.lean ====
section
/-! DEFINITION. Door and motion commands of the host (R305 to R307, R31, R40, R60, R64, R92 to R98, R113, R114), and the sequencer
pass that answers the door commands. -/

namespace Sys2Proof.Machine

/-! ## Door commands: handed to the next pass (R31, R291) -/

def doorCmd (op : Nat) (d : DoorOp) (q : Req) (s : State) : State :=
  kcp op q (fun s => ({ s with reqs := s.reqs ++ [⟨.kcp op q, d, tIndex q.target⟩] }, none)) s

/-- The reply of a request in the pass: the entry of the doorway, or of the axis for a motion command (R305, R306). -/
def requestEntry (s : State) (r : DoorReq) : Bytes :=
  match r.src with
  | .kcp _ q => if isMotion r.op then motionEntry s (replyAxis s r.op q) else doorEntry s r.d
  | _ => doorEntry s r.d

/-- A request of KCP is answered after the pass with its outcome there and the entry. -/
def answerDoor (r : DoorReq × Status) (s : State) : State :=
  match r.1.src with
  | .kcp op q =>
    if q.session ≠ 0 && (sessionOf s q.session).isNone then reply op q (.bad .authRequired 1) false s
    else reply op q ⟨r.2, 0, requestEntry s r.1⟩ false s
  | _ => s

def effectSequencerPass (s : State) : State :=
  let r := sequencerPass s
  r.2.foldl (fun s x => answerDoor x s) r.1

def effectDoorStatus (q : Req) (s : State) : State :=
  kcpNow opDoorStatus q (fun s =>
    (s, .ok (if tKind q.target = 1 then doorEntry s (tIndex q.target) else (List.range 8).flatMap fun d => doorEntry s d))) s

/-! ## Motion commands: handed to the next pass (R31, R306, R307, R114) -/

/-- The flags and the slot mask of MOVE_ABS and MOVE_REL fit the target (R306). -/
def moveShapeOk (q : Req) : Bool :=
  let m := movePay q.payload
  let axis := tKind q.target = 2
  !(rd q.payload 0 2 / 2 ≠ 0 || (axis && m.mask ≠ 0) || (!axis && (m.mask = 0 || 7 < m.mask)))

/-- A motion command is judged and acts in the next pass. -/
def motionCmd (op : Nat) (k : DoorOp) (q : Req) (s : State) : State :=
  kcp op q (fun s => ({ s with reqs := s.reqs ++ [⟨.kcp op q, k, doorOfTarget q⟩] }, none)) s

/-- A move whose payload has no meaning is refused on arrival; every other goes to the next pass. -/
def effectMove (rel : Bool) (q : Req) (s : State) : State :=
  let op := if rel then opMoveRel else opMoveAbs
  kcp op q (fun s =>
    if !moveShapeOk q then (s, some (.bad .outOfRange 0, false))
    else ({ s with reqs := s.reqs ++ [⟨.kcp op q, if rel then .moveRel else .moveAbs, doorOfTarget q⟩] }, none)) s

end Sys2Proof.Machine
end

