-- ==== Sys2Proof/Machine/Tick.lean ====
section
/-! DEFINITION. The fabric tick (R137) with what runs in it: measured registers, the samples of the force stream (R310). -/

namespace Sys2Proof.Machine

/-- Registers that only show an analogue measurement take what is measured now; the energy counters add it up (R453). -/
def measure (us : Nat) (s : State) : State :=
  let m (k : Nat) : Int := Config.measured k s.us
  let s := (takeLogicVolt (m 1).toNat s).modSup fun u =>
    { u with logicPower := sat32 (m 2).toNat, driveCurr := satI 16 (m 3), drivePower := sat16 (m 4).toNat,
             driveAvg := sat16 (m 5).toNat, regenTemp := satI 16 (m 6), dissipation := sat16 (m 8).toNat,
             soSupply := Vector.ofFn fun o : Fin 4 => sat32 (m (10 + o.val)).toNat
             energyDrive := u.energyDrive + sat16 (m 4).toNat * us, energyLogic := u.energyLogic + sat32 (m 2).toNat * us }
  let s := s.modGraze fun g => { g with idlePct := min 100 (m 7).toNat }
  each 9 (fun s g => s.modGroup g fun x => { x with current := (m (20 + g)).toNat, mV := sat16 (m (30 + g)).toNat }) s

/-- Lag of R159 in microsteps. -/
def lagNow (s : State) (a : Nat) : Rat :=
  let x := s.axis a
  (x.cmd - x.fb.xEst) / umStep s a - x.det.lag0

/-- One sample of the stream; `tick` counts ticks from the base time. -/
def sampleOf (s : State) (a tick : Nat) : Bytes :=
  let d := (s.axis a).det
  let i := sqrtR ((d.current.1 * d.current.1 + d.current.2 * d.current.2 : Int) : Rat)
  le 1 a ++ le 1 tick ++ leI 2 (satI 16 (rnd d.forceF)) ++ leI 4 (satI 32 (posUm s a)) ++ leI 4 (satI 32 (speedOf s a))
    ++ le 2 (sat16 (rnd i).toNat) ++ leI 2 (satI 16 (rnd (lagNow s a * 16)))

/-- A sample enters the packet being gathered, or is lost: the credit is spent, or the packet is full. -/
def addSample (t : Stream) (s : State) (a : Nat) : Stream :=
  let base := if t.samples = [] then s.us else t.ticks
  let tick := (s.us - base) / 20
  if t.credit = 0 || 88 ≤ t.samples.length || 255 < tick then { t with lost := inc32 t.lost }
  else
    let t := if t.samples = [] then { t with ticks := s.us, baseS := nowNs s / 1000000000, baseNs := nowNs s % 1000000000 } else t
    { t with samples := t.samples ++ [sampleOf s a tick] }

def tickStream (s : State) : State :=
  match s.kcp.stream with
  | some t =>
    if (s.us / 20) % (max 1 t.decim) = 0 then
      let t := ((List.range 24).filter fun a => bit t.mask a).foldl (fun t a => addSample t s a) t
      s.modKcp fun k => { k with stream := some t }
    else s
  | none => s

/-- Step 7 of R137 for one axis. -/
def tickCorrect (s : State) (a : Nat) : State :=
  if (s.axis a).fb.corrPending.isSome && atRest s a && !moving s a then correctIndex a s else s

/-- The currents of the bridges of an axis that a tick shows. -/
def bridgesOf (m : TickIn) (a : Nat) : List (Int × Int) := ((m.bridges.find? fun x => x.1 = a).map Prod.snd).getD []

/-- A move that begins with this tick takes its parameters from what the mailbox holds now (R29): where they have changed
since it was planned, it is planned again. -/
def reform (s : State) (r : Start) : State :=
  let axes := r.req.moves.map Prod.fst ++ (match r.req.slave with | some q => [q.1] | none => [])
  let fresh := axes.all fun a => (s.axis a).elapsed = some 0 && (s.axis a).ramp.isNone
  if !fresh || (s.par = r.par && s.tab.cams = r.cams) then s
  else
    match planPath s r.door r.req with
    | none => s
    | some p =>
      let closing := pathClosing s r.req
      let s := goPath true r.req p s
      let s := if closing then noteStart r.door p r.slow (s.modDoor r.door fun x => { x with ePlan := r.ePrev }) else s
      if r.req.by_ != .sequencer then s
      else
        let s :=
          if r.req.kind == .step then
            s.modDoor r.door fun y => { y with stepTimeout := some (moveDeadline s (planDur p.phases).floor.toNat) }
          else takePlan r.door p s
        match movingLeader s r.door with
        | some a => writeAccEnd a (writePoints r.door s)
        | none => s

/-- The moves that begin with this tick. -/
def tickStarts (s : State) : State := { s.starts.foldl reform s with starts := [] }

/-- Steps 2 and 3 of R137 for one axis. -/
def tickAxis (m : TickIn) (a : Nat) (s : State) : State :=
  tickDetect a (tickForce a (lget m.currents a (0, 0)) (tickFeedback a (tickRealign a (tickChop a (bridgesOf m a) s))))

/-- FABRIC_TICK: 20 µs pass and every axis takes its steps of R137. Detections that the last tick completed act first, then
the mailbox is taken (R29). -/
def effectFabricTick (m : TickIn) (s : State) : State :=
  if s.boot.power != .on then s
  else
    let s := tickStarts (actDetections s)
    let s := measure 20 (elapse 20 s)
    let s := applyPins (settleProbe (samplePins m (tickShadows 20 s)))
    let s := tickMotion 20 (each 24 (fun s a => watchHoming a s) s)
    let s := each 24 (fun s a => tickAxis m a s) s
    let s := each 8 (fun s d => tickCapture d s) s
    let s := each 24 (fun s a => tickPoints a s) s
    let s := each 24 (fun s a => checkCmps a s) s
    let s := each 24 (fun s a => hostLatches a s) s
    let s := each 24 tickCorrect s
    let s := each 8 (fun s d => tickEnergy d (tickEdges d (tickSeal d 20 s))) s
    tickStream s

end Sys2Proof.Machine
end

