-- ==== Sys2Proof/Machine/Flags.lean ====
section
/-! DEFINITION. Flags that a reported condition sets or clears: the output supervision of R239 to R243 and the discrepancy
of a pair (R191). -/

namespace Sys2Proof.Machine

/-- The switch sensor of an output shows overtemperature, or shows it no longer (R239). -/
def effectOutHot (n : Nat) (hot : Bool) (s : State) : State :=
  let s := s.modPin n fun p => { p with hot := hot }
  if hot && checked s n && (s.pin n).on then pinFault n 3 s else s

/-- A condition of R239 that opens the switch and holds the pin off, reported of a conducting output. -/
def effectOutFault (bitNo n : Nat) (s : State) : State :=
  if checked s n && (s.pin n).on then pinFault n bitNo s else s

/-- The readback is still low 500 µs after the switch-on (R239). -/
def effectFailOn (n : Nat) (s : State) : State :=
  if checked s n && (s.pin n).on then pinFault n 4 (forwardTo (some ((s.pin n).onAt + 500)) s) else s

/-- OPEN_LOAD is live and has no other effect: the current that has held for 10 ms tells it (R239). -/
def effectOpenLoad (n mA : Nat) (s : State) : State :=
  if checked s n && (s.pin n).on then s.modPin n fun p => p.flag 9 (mA < (if heavy n then 10 else 5)) else s

/-- The clamp current has fallen below 20 mA (R240, R241). -/
def effectDemagEnd (n : Nat) (s : State) : State := if (s.pin n).demag then endDemag n s else s

/-- A demagnetisation exceeds a limit of R240; it goes on to its end. -/
def effectDemagOver (n : Nat) (s : State) : State :=
  if (s.pin n).demag && !(s.pin n).status.getLsbD 7 then pinFault n 7 s else s

/-- Reverse current is SHORT_SUPPLY whatever the command and whether or not the pin is a candidate (R242 step 1). -/
def effectReverse (n : Nat) (s : State) : State :=
  if checked s n && !(s.pin n).status.getLsbD 5 then
    shortSupply n { s with probe := s.probe.filter fun e => e.1 ≠ n }
  else s

/-- A pulse on a pin ends, counted from its switch-on (R241). -/
def effectPulseEnd (n : Nat) (s : State) : State :=
  match (s.pin n).pulseEnd with
  | some t => applyPin n (forwardTo (some t) s)
  | none => s

/-- The discrepancy timer of a pair runs out in a lane (R191). -/
def effectDiscrepancy (p : Nat) (lane : Lane) (s : State) : State :=
  match (s.pair lane p).timer with
  | some t => latchDiscrepancy p lane (forwardTo (some (t + 1000 * s.safN (.disc p))) s)
  | none => s

end Sys2Proof.Machine
end

