-- ==== Sys2Proof/Machine/Rows.lean ====
section
/-! DEFINITION. What every row shares: a module without LOGIC supply or in SLEEP does nothing but watch its supply and WAKE
(R402, R446); the registers that a row names by a selector. -/

namespace Sys2Proof.Machine

/-- The module runs: its logic has supply and it is not in SLEEP. -/
def State.lit (s : State) : Bool := s.boot.power != .off && s.boot.power != .sleep

/-- The answer of a row whose effect is f, for a module that runs. -/
def answerOn (s : State) (f : State → State) : Host.Outcome State Fault Refusal :=
  answer s (if s.lit then f s else s)

/-- The answer of a row that acts in every condition of the supply. -/
def answerAlways (s : State) (f : State → State) : Host.Outcome State Fault Refusal := answer s (f s)

/-- The parameter of R356 that a HERD_CONFIG_WRITE names. -/
def herdPar : HerdReg → Par
  | .member => .herd .member
  | .configMask => .herd .configMask
  | .trainId => .herd .trainId
  | .extRefId => .herd .extRefId

/-- The parameter of R352 that a NET_PORT_WRITE names. -/
def netPar : NetReg → Par
  | .ipAddr p => .net (.ipAddr p.val)
  | .ipMask p => .net (.ipMask p.val)
  | .gateway p => .net (.gateway p.val)
  | .prpMode => .net .prpMode
  | .prpWindow => .net .prpWindow
  | .prpAge => .net .prpAgeMs
  | .prpSup => .net .prpSupMs

/-- `MOD.POWER_MODE` written by PARAM_WRITE (R446). -/
def effectPowerMode (v : Int) (q : Req) (s : State) : State :=
  effectParamWrite { q with payload := onePayload (.mod .powerMode) v } s

/-- A whole role key written (R298); there is no key of role 0, and the block of it does not exist. -/
def effectKeyWrite (r : Nat) (q : Req) (data : Bytes) (s : State) : State :=
  if r = 0 then effectBlockWrite { q with payload := le 4 0xFFFFFFFF ++ le 4 0 ++ le 4 32 ++ le 2 32 ++ [0, 0] ++ data } s
  else wholeWrite (.roleKey r) q data s

end Sys2Proof.Machine
end

