-- ==== Sys2Proof/Machine/RowsDrive.lean ====
section
/-! DEFINITION. The meanings of drive stage, power stage faults, doorway timers: one per row of the table, over the
shared operations of the families. -/

namespace Sys2Proof.Machine

/-- PROFILE_END (R170): A move's profile ends and the axis reaches rest and its arrival test. -/
def execProfileEnd (a : Fin 24) (s : State) : Host.Outcome State Fault Refusal := answerOn s (effectProfileEnd a.val)
/-- STOP_RAMP_END (R111): A stop ramp reaches rest and the axis enters STANDSTILL, or SAFE_STOPPING ends in STO. -/
def execStopRampEnd (a : Fin 24) (s : State) : Host.Outcome State Fault Refusal := answerOn s (effectStopRampEnd a.val)
/-- HOLD_DELAY_EXPIRY (R106): The hold delay after arrival ends, and the current ramps to I_HOLD. -/
def execHoldDelayExpiry (a : Fin 24) (s : State) : Host.Outcome State Fault Refusal := answerOn s (effectHoldExpiry a.val)
/-- ENABLE_RAMP_END (R115): The enable ramp completes, and a pending sequencer move starts. -/
def execEnableRampEnd (a : Fin 24) (s : State) : Host.Outcome State Fault Refusal := answerOn s (effectEnableRampEnd a.val)
/-- PARK_RAMP_END (R115): The park current ramp reaches 0, and the phase record is written. -/
def execParkRampEnd (a : Fin 24) (s : State) : Host.Outcome State Fault Refusal := answerOn s (effectParkRampEnd a.val)
/-- PARK_WRITE_CONFIRMED (R115): The journal engine confirms the phase record; the bridges open and the axis is PARKED. -/
def execParkWriteConfirmed (a : Fin 24) (s : State) : Host.Outcome State Fault Refusal := answerOn s (confirmPhase a.val)
/-- DISABLE_RAMP_END (R111): The disable ramp ends, and the bridges open in DISABLED. -/
def execDisableRampEnd (a : Fin 24) (s : State) : Host.Outcome State Fault Refusal := answerOn s (effectDisableRampEnd a.val)
/-- STO_READBACK (R112): 2 ms after the demand, each lane reads back both enables as off. -/
def execStoReadback (a : Fin 24) (ibexOff : Bool) (chamoisOff : Bool) (s : State) : Host.Outcome State Fault Refusal :=
  answerOn s (effectStoReadback a.val ibexOff chamoisOff)
/-- STO_DWELL_END (R112): The 50 ms STO dwell ends, the sequence is complete and a queued ENABLE is taken up. -/
def execStoDwellEnd (a : Fin 24) (s : State) : Host.Outcome State Fault Refusal := answerOn s (effectStoDwell a.val)
/-- DERATING_RECOMPUTE (R107): Every 100 ms at rest, the derating factor k is recomputed from the baseplate temperature. -/
def execDeratingRecompute (temp : Int) (s : State) : Host.Outcome State Fault Refusal := answerOn s (effectDerating temp)
/-- OVERCURRENT (R120): Bridge current above 11.0 A opens the bridges and latches FAULT. -/
def execOvercurrent (a : Fin 24) (s : State) : Host.Outcome State Fault Refusal := answerOn s (ocFault a.val 1)
/-- SHORT_TO_GROUND (R120): High-side leg over 11 A with low-side under 1 A, treated as overcurrent. -/
def execShortToGround (a : Fin 24) (phaseB : Bool) (s : State) : Host.Outcome State Fault Refusal :=
  answerOn s (ocFault a.val (if phaseB then 3 else 2))
/-- SHORT_TO_DRIVE (R120): Low-side leg over 11 A with high-side under 1 A, treated as overcurrent. -/
def execShortToDrive (a : Fin 24) (phaseB : Bool) (s : State) : Host.Outcome State Fault Refusal :=
  answerOn s (ocFault a.val (if phaseB then 5 else 4))
/-- OPEN_PHASE (R120): Current below 100 mA against a target of at least 500 mA in 8 cycles latches FAULT. -/
def execOpenPhase (a : Fin 24) (phaseB : Bool) (s : State) : Host.Outcome State Fault Refusal :=
  answerOn s (slowFault a.val (if phaseB then 7 else 6))
/-- OVERTEMPERATURE_WARNING (R120): Stage sensor at 135 °C sets OT_WARN and raises the thermal event. -/
def execOvertemperatureWarning (a : Fin 24) (temp : Int) (s : State) : Host.Outcome State Fault Refusal :=
  answerOn s (effectOtWarning a.val temp)
/-- OVERTEMPERATURE (R120): Stage sensor at 150 °C stops the axis and latches FAULT. -/
def execOvertemperature (a : Fin 24) (temp : Int) (s : State) : Host.Outcome State Fault Refusal :=
  answerOn s (effectOvertemperature a.val temp)
/-- DRIVE_UNDERVOLTAGE (R120): DRIVE below 0.6 × nominal for 100 µs faults every energised axis, losing its phase. -/
def execDriveUndervoltage (mV : Nat) (s : State) : Host.Outcome State Fault Refusal := answerOn s (effectUndervoltage mV)
/-- DRIVE_OVERVOLTAGE (R120): DRIVE above 175 V for 10 µs faults every energised axis. -/
def execDriveOvervoltage (mV : Nat) (s : State) : Host.Outcome State Fault Refusal := answerOn s (effectOvervoltage mV)
/-- SEQUENCER_PASS (R42): The 1 ms pass takes every doorway's requests in order and makes its transitions, then runs staggering. -/
def execSequencerPass (s : State) : Host.Outcome State Fault Refusal := answerOn s effectSequencerPass
/-- DWELL_END (R42): An unsuspended open dwell ends, and the doorway enters CLOSE_WARNING. -/
def execDwellEnd (d : Fin 8) (s : State) : Host.Outcome State Fault Refusal := answerOn s (effectDwellEnd d.val)
/-- WARN_END (R42): The close warning lead time ends, and the closing is planned and started through staggering. -/
def execWarnEnd (d : Fin 8) (s : State) : Host.Outcome State Fault Refusal := answerOn s (effectWarnEnd d.val)
/-- SEQUENCER_TIMEOUT (R46): A state timeout expires; the moving axes quick-stop and the doorway enters FAULT_HOLD. -/
def execSequencerTimeout (d : Fin 8) (s : State) : Host.Outcome State Fault Refusal := answerOn s (effectSeqTimeout d.val)
/-- STAGGER_MAX_EXPIRY (R58): A doorway has waited STAGGER_MAX_MS and starts regardless. -/
def execStaggerMaxExpiry (d : Fin 8) (s : State) : Host.Outcome State Fault Refusal := answerOn s (effectStaggerMax d.val)
/-- LOCK_TIME_EXPIRY (R42): The locked pair is not proven in LOCK_TIME_MS: a re-drive, or CLOSED_NOT_LOCKED. -/
def execLockTimeExpiry (d : Fin 8) (s : State) : Host.Outcome State Fault Refusal := answerOn s (effectLockTime d.val)
/-- COIL_PULSE_END (R241): A lock or unlock coil pulse ends, counted from the actual switch-on. -/
def execCoilPulseEnd (n : Fin 112) (s : State) : Host.Outcome State Fault Refusal := answerOn s (effectPulseEnd n.val)
/-- DWELL_OVERRUN (R46): A suspended dwell exceeds DWELL_OVERRUN_S, so the event is raised once. -/
def execDwellOverrun (d : Fin 8) (s : State) : Host.Outcome State Fault Refusal := answerOn s (effectDwellOverrun d.val)
/-- OBST_PAUSE_END (R42): The pause after an obstacle in OPENING, or after a reopen, ends. -/
def execObstPauseEnd (d : Fin 8) (s : State) : Host.Outcome State Fault Refusal := answerOn s (effectObstPause d.val)
/-- PARK_DELAY_END (R44): PARK_DELAY_MS after LOCKED_CLOSED, the energised axes are parked. -/
def execParkDelayEnd (d : Fin 8) (s : State) : Host.Outcome State Fault Refusal := answerOn s (effectParkDelay d.val)
/-- SEAL_CONTACT_CHECK (R178): At SEAL_CONTACT_MS, the tested axes must be settled, or the test fails NO_CONTACT. -/
def execSealContactCheck (d : Fin 8) (s : State) : Host.Outcome State Fault Refusal := answerOn s (effectSealContact d.val)
/-- SEAL_STEP_END (R178): The end of a force step: settle check, gap measured and checked. -/
def execSealStepEnd (d : Fin 8) (s : State) : Host.Outcome State Fault Refusal := answerOn s (effectSealStep d.val)

end Sys2Proof.Machine
end

