-- ==== Sys2Proof/Machine/RowsFabric.lean ====
section
/-! DEFINITION. The meanings of the fabric: tick, feedback, detections, homing: one per row of the table, over the
shared operations of the families. -/

namespace Sys2Proof.Machine

/-- FABRIC_TICK (R137): The 20 µs fabric tick: count snapshot, observer, force, bins, leaf clock, compare units, latches and corrections. -/
def execFabricTick (m : TickIn) (s : State) : Host.Outcome State Fault Refusal := answerOn s (effectFabricTick m)
/-- ENCODER_EDGE (R128): An edge on an encoder input is counted on both counters under the mode, hysteresis and soft limits. -/
def execEncoderEdge (a : Fin 24) (e : EncEdge) (s : State) : Host.Outcome State Fault Refusal :=
  answerOn s (effectEncoderEdge a.val e)
/-- WIRE_DISAGREEMENT (R131): Both wires of a pair sit at the same level for more than 200 ns. -/
def execWireDisagreement (a : Fin 24) (pair : WirePair) (s : State) : Host.Outcome State Fault Refusal :=
  answerOn s (effectWireDisagreement a.val pair)
/-- INDEX_EDGE (R140): A Z edge is recognised as an index and checked against the index reference. -/
def execIndexEdge (a : Fin 24) (rising : Bool) (s : State) : Host.Outcome State Fault Refusal :=
  answerOn s (effectIndexEdge a.val rising)
/-- LATCH_EDGE_CAPTURE (R145): An armed latch captures position, speed and time at its source edge. -/
def execLatchEdgeCapture (a : Fin 24) (l : Fin 2) (rising : Bool) (ageNs : Nat) (s : State) : Host.Outcome State Fault Refusal :=
  answerOn s (effectLatchEdge a.val l.val rising ageNs)
/-- SSI_FRAME_START (R133): The SSI period starts a frame: the clock goes low and the count is captured. -/
def execSsiFrameStart (d : Fin 8) (dataLow : Bool) (s : State) : Host.Outcome State Fault Refusal :=
  answerOn s (effectSsiStart d.val dataLow)
/-- SSI_FRAME_END (R134): A completed SSI frame is decoded and judged, and compared with the incremental position. -/
def execSsiFrameEnd (d : Fin 8) (value : Nat) (status : Nat) (wireBad : Bool) (s : State) : Host.Outcome State Fault Refusal :=
  answerOn s (effectSsiEnd d.val value status wireBad)
/-- ENVELOPE_BREACH (R169): f_filt exceeds the bin limit for ENV_TICKS ticks: an obstacle detection. -/
def execEnvelopeBreach (a : Fin 24) (s : State) : Host.Outcome State Fault Refusal :=
  answerOn s (effectBreach a.val)
/-- DEVIATION (R170): The following error exceeds DEV_WIN for DEV_TICKS ticks: an obstacle detection. -/
def execDeviation (a : Fin 24) (s : State) : Host.Outcome State Fault Refusal := answerOn s (effectDeviation a.val)
/-- ENERGY_CAP_HIT (R80): The doorway's kinetic energy exceeds ECAP for 50 ticks, so the obstacle ramp starts. -/
def execEnergyCapHit (d : Fin 8) (s : State) : Host.Outcome State Fault Refusal := answerOn s (effectEnergyCap d.val)
/-- LOAD_ANGLE_MEASUREMENT (R118): A back-EMF sample at a phase zero crossing completes and gives the load angle. -/
def execLoadAngleMeasurement (a : Fin 24) (samples : List Int) (s : State) : Host.Outcome State Fault Refusal :=
  answerOn s (effectLoadAngle a.val samples)
/-- HOME_STOP_REACHED (R153): The homing search stop criterion holds, and microsteps halt. -/
def execHomeStopReached (a : Fin 24) (s : State) : Host.Outcome State Fault Refusal := answerOn s (effectHomeStop a.val)
/-- HOME_SWITCH_EDGE (R152): The home switch edge is captured during a homing search or creep. -/
def execHomeSwitchEdge (a : Fin 24) (active : Bool) (s : State) : Host.Outcome State Fault Refusal :=
  answerOn s (effectHomeSwitch a.val active)
/-- HOME_MAX_DIST_EXCEEDED (R151): A homing search has travelled HOME_MAX_DIST and fails. -/
def execHomeMaxDistExceeded (a : Fin 24) (s : State) : Host.Outcome State Fault Refusal := answerOn s (effectHomeMaxDist a.val)
/-- HOME_SETTLE_END (R154): The settling after the stop ends, the closed pair is checked and the coordinates are redefined. -/
def execHomeSettleEnd (a : Fin 24) (s : State) : Host.Outcome State Fault Refusal := answerOn s (effectHomeSettle a.val)
/-- HOME_RETRY_DELAY_END (R155): 2,000 ms after a failed attempt, the homing restarts. -/
def execHomeRetryDelayEnd (a : Fin 24) (s : State) : Host.Outcome State Fault Refusal := answerOn s (effectHomeRetry a.val)

end Sys2Proof.Machine
end

