-- ==== Sys2Proof/Machine/RowsField.lean ====
section
/-! DEFINITION. The meanings of field pins, group supplies, field link, logic tasks: one per row of the table, over the
shared operations of the families. -/

namespace Sys2Proof.Machine

/-- FIELD_INPUT_FILTERED (R235): A field input sample has held for FILT_US, and the filtered level changes. -/
def execFieldInputFiltered (n : Fin 112) (level : Bool) (s : State) : Host.Outcome State Fault Refusal :=
  answerOn s (filteredInput n.val level)
/-- COUNT_EDGE (R236): An edge on a counting pin advances its counter. -/
def execCountEdge (n : Fin 112) (rising : Bool) (s : State) : Host.Outcome State Fault Refusal :=
  answerOn s (countEdge n.val rising)
/-- OUTPUT_OVERLOAD (R239): An output held at its current limit is switched off and held off. -/
def execOutputOverload (n : Fin 112) (s : State) : Host.Outcome State Fault Refusal := answerOn s (effectOutFault 2 n.val)
/-- OUTPUT_OVERTEMP (R239): A switch overtemperature holds the output off; the sensor's report of its end lets the bit be
cleared. -/
def execOutputOvertemp (p : PinHeat) (s : State) : Host.Outcome State Fault Refusal :=
  answerOn s (effectOutHot p.pin.val p.hot)
/-- OUTPUT_FAIL_ON (R239): Readback low 500 µs after switch-on holds the output off. -/
def execOutputFailOn (n : Fin 112) (s : State) : Host.Outcome State Fault Refusal := answerOn s (effectFailOn n.val)
/-- OUTPUT_OPEN_LOAD (R239): Current below the open-load level for 10 ms while on sets OPEN_LOAD; a current at or above it
clears it. -/
def execOutputOpenLoad (p : PinLoad) (s : State) : Host.Outcome State Fault Refusal :=
  answerOn s (effectOpenLoad p.pin.val p.mA)
/-- DEMAG_END (R241): The demagnetisation ends, and a held switch-on is applied. -/
def execDemagEnd (n : Fin 112) (s : State) : Host.Outcome State Fault Refusal := answerOn s (effectDemagEnd n.val)
/-- DEMAG_OVER (R240): Demagnetisation exceeds its energy or duration, so DEMAG_OVER latches. -/
def execDemagOver (n : Fin 112) (s : State) : Host.Outcome State Fault Refusal := answerOn s (effectDemagOver n.val)
/-- SHORT_CANDIDATE (R242): An open output's readback stays high for 100 µs; the cause is then resolved. -/
def execShortCandidate (n : Fin 112) (s : State) : Host.Outcome State Fault Refusal := answerOn s (candidate n.val)
/-- REVERSE_CURRENT (R242): Reverse current above 100 mA through a switch is SHORT_SUPPLY at once. -/
def execReverseCurrent (n : Fin 112) (s : State) : Host.Outcome State Fault Refusal := answerOn s (effectReverse n.val)
/-- PROBE_PULSE (R242): A 200 µs off-pulse of one conducting pin probes for the wired partner. -/
def execProbePulse (n : Fin 112) (candidateLow : Bool) (s : State) : Host.Outcome State Fault Refusal :=
  answerOn s (probeStep n.val candidateLow)
/-- FIELD_SUPPLY_MISSING (R245): A group supply below 12.0 V for 1 ms becomes MISSING. -/
def execFieldSupplyMissing (g : Fin 9) (mV : Nat) (s : State) : Host.Outcome State Fault Refusal :=
  answerOn s (supplyMissing g.val mV)
/-- FIELD_SUPPLY_LOW (R245): A group supply below 19.2 V for 1 ms becomes LOW. -/
def execFieldSupplyLow (g : Fin 9) (mV : Nat) (s : State) : Host.Outcome State Fault Refusal := answerOn s (supplyLow g.val mV)
/-- FIELD_SUPPLY_RECOVERED (R246): A group supply leaves MISSING or LOW; the outputs take their recorded commands. -/
def execFieldSupplyRecovered (g : Fin 9) (mV : Nat) (s : State) : Host.Outcome State Fault Refusal :=
  answerOn s (supplyRecovered g.val mV)
/-- FG_CURRENT_WARNING (R442): Group supply current above its limit for 100 ms raises the field group event. -/
def execFgCurrentWarning (g : Fin 9) (mA : Nat) (s : State) : Host.Outcome State Fault Refusal :=
  answerOn s (effectGroupCurrent g.val mA)
/-- FIELD_CYCLE (R247): The field task release starts a cycle and sends the frame with the last outputs. -/
def execFieldCycle (s : State) : Host.Outcome State Fault Refusal := answerOn s effectFieldCycle
/-- FRAME_RETURN (R253): The frame returns, and every station's slot is judged and its state moved. -/
def execFrameReturn (f : FrameBack) (s : State) : Host.Outcome State Fault Refusal := answerOn s (effectFrameReturn f)
/-- FRAME_RETURN_TIMEOUT (R251): The frame does not return within 0.9 × cycle, so the ring or stations are judged. -/
def execFrameReturnTimeout (s : State) : Host.Outcome State Fault Refusal := answerOn s effectFrameTimeout
/-- LOGIC_SLOT (R258): The 1 ms logic slot releases the due cyclic tasks and schedules them by priority. -/
def execLogicSlot (s : State) : Host.Outcome State Fault Refusal := answerOn s effectLogicSlot
/-- TASK_RUN_END (R260): A task run completes and hands on its outputs, requests and retained data. -/
def execTaskRunEnd (task : Fin 24) (us : Nat) (s : State) : Host.Outcome State Fault Refusal :=
  answerOn s (effectTaskRunEnd task.val us)
/-- TASK_OVERRUN (R276): A task exceeds its budget, or is released unfinished, and the logic goes to STOP. -/
def execTaskOverrun (task : Fin 24) (byRelease : Bool) (s : State) : Host.Outcome State Fault Refusal :=
  answerOn s (effectTaskOverrun task.val byRelease)

end Sys2Proof.Machine
end

