-- ==== Sys2Proof/Machine/RowsHerd.lean ====
section
/-! DEFINITION. The meanings of the herd: one per row of the table, over the
shared operations of the families. -/

namespace Sys2Proof.Machine

/-- HERD_CYCLE_BOUNDARY (R350): Module time passes a 10 ms multiple, starting a herd cycle. -/
def execHerdCycleBoundary (s : State) : Host.Outcome State Fault Refusal := answerOn s effectBoundary
/-- BLEAT_TX (R360): Each member sends its bleat 100 µs × m after the boundary. -/
def execBleatTx (s : State) : Host.Outcome State Fault Refusal := answerOn s effectBleatTx
/-- BLEAT_RX (R360): A bleat is received, checked and counted for the present cycle. -/
def execBleatRx (netB : Bool) (src : Nat) (data : Bytes) (s : State) : Host.Outcome State Fault Refusal :=
  answerOn s (effectBleatRx netB src data)
/-- BLEAT_WINDOW_CLOSE (R364): At 5.0 ms, missing bleats are judged and grants held or withdrawn. -/
def execBleatWindowClose (s : State) : Host.Outcome State Fault Refusal := answerOn s effectWindowClose
/-- HOLD_EXPIRY (R364): The 3-cycle hold of the last grant ends and it is withdrawn. -/
def execHoldExpiry (s : State) : Host.Outcome State Fault Refusal := answerOn s effectHoldEnd
/-- JOIN_CYCLES_EXPIRY (R356): After JOIN_CYCLES of listening, a member becomes REFEREE or STANDBY, or requests votes. -/
def execJoinCyclesExpiry (s : State) : Host.Outcome State Fault Refusal := answerOn s effectJoinCycles
/-- VOTE_REQ_RX (R367): A VOTE_REQ is granted or refused under the vote conditions. -/
def execVoteReqRx (_netB : Bool) (src : Nat) (data : Bytes) (s : State) : Host.Outcome State Fault Refusal :=
  answerOn s (effectVoteReqRx src data)
/-- VOTE_RX (R366): A VOTE is counted toward the candidate's quorum. -/
def execVoteRx (_netB : Bool) (src : Nat) (data : Bytes) (s : State) : Host.Outcome State Fault Refusal :=
  answerOn s (effectVoteRx src data)
/-- VOTE_DEADLINE (R366): At 9.0 ms, the candidate becomes master or retries. -/
def execVoteDeadline (s : State) : Host.Outcome State Fault Refusal := answerOn s effectVoteDeadline
/-- MASTER_STEP_DOWN (R368): After 3 NO_QUORUM cycles the master steps down to REFEREE. -/
def execMasterStepDown (s : State) : Host.Outcome State Fault Refusal := answerOn s effectMasterStepDown
/-- MIRROR_TX (R370): The master sends a mirror fragment of its snapshot. -/
def execMirrorTx (s : State) : Host.Outcome State Fault Refusal := answerOn s effectMirrorTx
/-- MIRROR_RX (R371): The standby stores a fragment and swaps buffers on a complete snapshot. -/
def execMirrorRx (_netB : Bool) (src : Nat) (data : Bytes) (s : State) : Host.Outcome State Fault Refusal :=
  answerOn s (effectMirrorRx src data)
/-- SHADOW_FAULT (R372): Consecutive shadow mismatches reach the limit and the standby becomes REFEREE. -/
def execShadowFault (s : State) : Host.Outcome State Fault Refusal := answerOn s effectShadowFault

end Sys2Proof.Machine
end

