-- ==== Sys2Proof/Machine/RowsHost.lean ====
section
/-! DEFINITION. The meanings of commands of the host through KCP and of the sessions: one per row of the table, over the
shared operations of the families. -/

namespace Sys2Proof.Machine

/-- HELLO (R293): Returns module identity, role, mode and a fresh MODULE_NONCE for the next LOGIN. -/
def execHello (q : Req) (s : State) : Host.Outcome State Fault Refusal := answerOn s (effectHello q)
/-- LOGIN (R293): Checks the nonces, the role key and the tag, then opens a session of the requested role. -/
def execLogin (q : Req) (s : State) : Host.Outcome State Fault Refusal := answerOn s (effectLogin q)
/-- LOGOUT (R296): Ends the session and releases the HOST pins, jogs, stream and transfers it holds. -/
def execLogout (q : Req) (s : State) : Host.Outcome State Fault Refusal := answerOn s (effectLogout q)
/-- KEEPALIVE (R296): Renews the session keepalive and changes nothing else. -/
def execKeepalive (q : Req) (s : State) : Host.Outcome State Fault Refusal := answerOn s (effectKeepalive q)
/-- PARAM_READ (R300): Returns up to 64 scalar values, active or shadow, each with its own status. -/
def execParamRead (q : Req) (s : State) : Host.Outcome State Fault Refusal := answerOn s (effectParamRead q)
/-- PARAM_WRITE (R323): Writes up to 64 scalars, each entry alone or all atomically, taking effect by access class; this row also covers writes to registers that have no row of their own. -/
def execParamWrite (q : Req) (s : State) : Host.Outcome State Fault Refusal := answerOn s (effectParamWrite q)
/-- BLOCK_READ (R301): Returns a consistent slice of a block parameter. -/
def execBlockRead (q : Req) (s : State) : Host.Outcome State Fault Refusal := answerOn s (effectBlockRead q)
/-- BLOCK_WRITE (R301): Stages one packet of a block transfer, then checks and applies the block whole on the last packet. -/
def execBlockWrite (q : Req) (s : State) : Host.Outcome State Fault Refusal := answerOn s (effectBlockWrite q)
/-- SAF_VERIFY (R227): Both lanes form and check the configuration image that would result, and Chamois's image and CRC are returned. -/
def execSafVerify (q : Req) (s : State) : Host.Outcome State Fault Refusal := answerOn s (effectSafVerify q)
/-- SAF_VERIFY_DONE (R291): Completion of the image formation and checks of a SAF_VERIFY, which sends its reply. -/
def execSafVerifyDone (s : State) : Host.Outcome State Fault Refusal := answerOn s effectSafVerifyDone
/-- SAF_COMMIT (R229): Accepts the verified safety shadow, and both lanes switch to it at a common exchange. -/
def execSafCommit (q : Req) (s : State) : Host.Outcome State Fault Refusal := answerOn s (effectSafCommit q)
/-- REVERT_OWNER_SHADOW (R329): REVERT kind 0 discards the pending ordinary shadow values of one owner. -/
def execRevertOwnerShadow (q : Req) (s : State) : Host.Outcome State Fault Refusal := answerOn s (effectRevert 0 q)
/-- REVERT_ALL_SHADOWS (R329): REVERT kind 1 discards every pending ordinary shadow value. -/
def execRevertAllShadows (q : Req) (s : State) : Host.Outcome State Fault Refusal := answerOn s (effectRevert 1 q)
/-- REVERT_SAFETY_SHADOW (R329): REVERT kind 2 discards the safety shadow. -/
def execRevertSafetyShadow (q : Req) (s : State) : Host.Outcome State Fault Refusal := answerOn s (effectRevert 2 q)
/-- REVERT_DEFAULT_SET (R329): REVERT kind 3 writes a default set to every writable scalar, with RWS values going to the safety shadow. -/
def execRevertDefaultSet (q : Req) (s : State) : Host.Outcome State Fault Refusal := answerOn s (effectRevert 3 q)
/-- EVENT_POLL (R303): Returns RAISE_SEQ, the pending and sticky vectors and the module time. -/
def execEventPoll (q : Req) (s : State) : Host.Outcome State Fault Refusal := answerOn s (effectEventPoll q)
/-- EVENT_ACK (R303): Clears pending and sticky bits of sources not raised since the given RAISE_SEQ and returns KEPT. -/
def execEventAck (q : Req) (s : State) : Host.Outcome State Fault Refusal := answerOn s (effectEventAck q)
/-- EVENT_INJECT (R462): Raises a source as injected, with its reaction where the source has one and REPORT_ONLY is clear. -/
def execEventInject (q : Req) (s : State) : Host.Outcome State Fault Refusal := answerOn s (effectEventInject q)
/-- OPEN_REQUEST (R40): Door open request, taken in the next sequencer pass under side release and the mode rules. -/
def execOpenRequest (q : Req) (s : State) : Host.Outcome State Fault Refusal := answerOn s (doorCmd opOpen .open_ q)
/-- CLOSE_REQUEST (R40): Door close request, accepted in every state and acting where the transition table gives it an effect. -/
def execCloseRequest (q : Req) (s : State) : Host.Outcome State Fault Refusal := answerOn s (doorCmd opClose .close q)
/-- HOLD_OPEN (R42): Restarts the dwell and suspends it until CLOSE_REQUEST, in OPEN_DWELL or CLOSE_WARNING. -/
def execHoldOpen (q : Req) (s : State) : Host.Outcome State Fault Refusal := answerOn s (doorCmd opHold .hold q)
/-- ISOLATE (R42): Takes a closed doorway at rest into ISOLATED, with its axes parked and the isolation stored. -/
def execIsolate (q : Req) (s : State) : Host.Outcome State Fault Refusal := answerOn s (doorCmd opIsolate .isolate q)
/-- DEISOLATE (R42): Returns an ISOLATED doorway to LOCKED_CLOSED with proof, or to FAULT_HOLD without it. -/
def execDeisolate (q : Req) (s : State) : Host.Outcome State Fault Refusal := answerOn s (doorCmd opDeisolate .deisolate q)
/-- DOOR_STATUS (R305): Returns the doorway entry of one doorway, or of all eight. -/
def execDoorStatus (q : Req) (s : State) : Host.Outcome State Fault Refusal := answerOn s (effectDoorStatus q)
/-- MOVE_ABS (R306): Plans and starts, or queues, an absolute move of one axis or of several slots together. -/
def execMoveAbs (q : Req) (s : State) : Host.Outcome State Fault Refusal := answerOn s (effectMove false q)
/-- MOVE_REL (R306): Plans and starts, or queues, a relative move of one axis or of several slots together. -/
def execMoveRel (q : Req) (s : State) : Host.Outcome State Fault Refusal := answerOn s (effectMove true q)
/-- STOP (R96): Stops an axis or a path along the move's own ramp (rank 4). -/
def execStop (q : Req) (s : State) : Host.Outcome State Fault Refusal := answerOn s (motionCmd opStop .stop q)
/-- QUICK_STOP (R96): Stops an axis or a path along the quick-stop ramp (rank 3). -/
def execQuickStop (q : Req) (s : State) : Host.Outcome State Fault Refusal := answerOn s (motionCmd opQuickStop .quickStop q)
/-- HOME (R151): Host-requested homing of one axis, without retry. -/
def execHome (q : Req) (s : State) : Host.Outcome State Fault Refusal := answerOn s (motionCmd opHome .home q)
/-- JOG (R307): Starts, renews or stops a jog at the given speed while the session keeps it alive. -/
def execJog (q : Req) (s : State) : Host.Outcome State Fault Refusal := answerOn s (motionCmd opJog .jog q)
/-- PARK (R111): Runs the park sequence of an axis at rest. -/
def execPark (q : Req) (s : State) : Host.Outcome State Fault Refusal := answerOn s (motionCmd opPark .park q)
/-- ENABLE (R111): Restores and energises an axis, or queues the enable behind a shutdown. -/
def execEnable (q : Req) (s : State) : Host.Outcome State Fault Refusal := answerOn s (motionCmd opEnable .enable q)
/-- DISABLE (R111): Ramps an axis's current to 0 and disables it, losing its phase. -/
def execDisable (q : Req) (s : State) : Host.Outcome State Fault Refusal := answerOn s (motionCmd opDisable .disable q)
/-- PLAN_LOAD (R308): Stages one packet of a plan image and checks the image whole on the last packet. -/
def execPlanLoad (q : Req) (s : State) : Host.Outcome State Fault Refusal := answerOn s (effectPlanLoad q)
/-- PLAN_LOAD_CHECK_DONE (R265): Completion of the whole-image checks of the last PLAN_LOAD packet, which sends its reply. -/
def execPlanLoadCheckDone (s : State) : Host.Outcome State Fault Refusal := answerOn s effectPlanCheckDone
/-- PLAN_EXCHANGE (R278): Activates the staged plan at once in STOP, or checks and queues an online exchange in RUN. -/
def execPlanExchange (q : Req) (s : State) : Host.Outcome State Fault Refusal := answerOn s (effectPlanExchange q)
/-- LOGIC_RUN_WARM (R275): Starts or resumes the logic with the retained data restored. -/
def execLogicRunWarm (q : Req) (s : State) : Host.Outcome State Fault Refusal := answerOn s (effectLogicRun true q)
/-- LOGIC_RUN_COLD (R275): Starts or resumes the logic with first-scan initialisation. -/
def execLogicRunCold (q : Req) (s : State) : Host.Outcome State Fault Refusal := answerOn s (effectLogicRun false q)
/-- LOGIC_STOP (R275): Takes the logic to STOP once the running instance ends. -/
def execLogicStop (q : Req) (s : State) : Host.Outcome State Fault Refusal := answerOn s (effectLogicStop q)
/-- LOGIC_HOLD (R275): Freezes the logic tasks in HOLD once no task is running. -/
def execLogicHold (q : Req) (s : State) : Host.Outcome State Fault Refusal := answerOn s (effectLogicHold q)
/-- LOGIC_STEP (R275): Runs one release of the named task while the logic is in HOLD. -/
def execLogicStep (q : Req) (s : State) : Host.Outcome State Fault Refusal := answerOn s (effectLogicStep q)
/-- VAR_READ (R308): Returns instance output values as of the end of their task's last run. -/
def execVarRead (q : Req) (s : State) : Host.Outcome State Fault Refusal := answerOn s (effectVarRead q)
/-- VAR_FORCE (R281): Forces an instance output to a fixed value. -/
def execVarForce (q : Req) (s : State) : Host.Outcome State Fault Refusal := answerOn s (effectVarForce true q)
/-- VAR_FORCE_RELEASE (R281): Releases the force on an instance output. -/
def execVarForceRelease (q : Req) (s : State) : Host.Outcome State Fault Refusal := answerOn s (effectVarForce false q)
/-- JRN_READ (R393): Returns whole records of one journal region from a start number, in either direction. -/
def execJrnRead (q : Req) (s : State) : Host.Outcome State Fault Refusal := answerOn s (effectJrnRead q)
/-- JRN_STATS (R309): Returns the state, oldest, newest and capacity of every journal region. -/
def execJrnStats (q : Req) (s : State) : Host.Outcome State Fault Refusal := answerOn s (effectJrnStats q)
/-- JRN_SEAL (R394): Writes a SEAL archive record holding per-region digests, and a SEAL event record that points to it. -/
def execJrnSeal (q : Req) (s : State) : Host.Outcome State Fault Refusal := answerOn s (effectJrnSeal q)
/-- JRN_STREAM_OPEN (R310): Opens the force stream for the selected axes with a credit of packets. -/
def execJrnStreamOpen (q : Req) (s : State) : Host.Outcome State Fault Refusal := answerOn s (effectStreamOpen q)
/-- JRN_STREAM_CREDIT (R310): Sets a new packet credit for the open stream. -/
def execJrnStreamCredit (q : Req) (s : State) : Host.Outcome State Fault Refusal := answerOn s (effectStreamCredit q)
/-- JRN_STREAM_CLOSE (R310): Closes the stream; no stream packet follows the reply. -/
def execJrnStreamClose (q : Req) (s : State) : Host.Outcome State Fault Refusal := answerOn s (effectStreamClose q)
/-- STREAM_PACKET (R310): A stream packet of samples is sent as a reply against the remaining credit. -/
def execStreamPacket (s : State) : Host.Outcome State Fault Refusal := answerOn s effectStreamPacket
/-- TIME_STATUS (R311): Returns the time source, module time and the per-network servo state. -/
def execTimeStatus (q : Req) (s : State) : Host.Outcome State Fault Refusal := answerOn s (effectTimeStatus q)
/-- TIME_ACCEPT_STEP (R345): Accepts a refused time step on one network where the value matches. -/
def execTimeAcceptStep (q : Req) (s : State) : Host.Outcome State Fault Refusal := answerOn s (effectTimeAccept q)
/-- HERD_STATUS (R312): Returns role, master, term, members, herd cycle and effective mode. -/
def execHerdStatus (q : Req) (s : State) : Host.Outcome State Fault Refusal := answerOn s (effectHerdStatus q)
/-- HERD_MODE_PREPARE (R374): The master assigns a new epoch and publishes a pending mode change with its apply-at cycle. -/
def execHerdModePrepare (q : Req) (s : State) : Host.Outcome State Fault Refusal := answerOn s (effectHerdPrepare q)
/-- HERD_MODE_ABORT (R374): Aborts a pending mode change before its commit point. -/
def execHerdModeAbort (q : Req) (s : State) : Host.Outcome State Fault Refusal := answerOn s (effectHerdAbort q)
/-- GRAZE_NOW (R472): Places a Graze item, or every enabled item, at the head of the schedule. -/
def execGrazeNow (q : Req) (s : State) : Host.Outcome State Fault Refusal := answerOn s (effectGrazeNow q)
/-- GRAZE_REPORT (R313): Returns the result and coverage of every Graze item. -/
def execGrazeReport (q : Req) (s : State) : Host.Outcome State Fault Refusal := answerOn s (effectGrazeReport q)
/-- FW_BEGIN (R314): Erases the inactive firmware bank and starts a transfer into it. -/
def execFwBegin (q : Req) (s : State) : Host.Outcome State Fault Refusal := answerOn s (effectFwBegin q)
/-- FW_CHUNK (R314): Writes one firmware chunk at the next expected offset. -/
def execFwChunk (q : Req) (s : State) : Host.Outcome State Fault Refusal := answerOn s (effectFwChunk q)
/-- FW_VERIFY (R314): Checks the length, signatures and security version of the transferred image. -/
def execFwVerify (q : Req) (s : State) : Host.Outcome State Fault Refusal := answerOn s (effectFwVerify q)
/-- FW_VERIFY_DONE (R291): Completion of a firmware verification, which sends its reply. -/
def execFwVerifyDone (s : State) : Host.Outcome State Fault Refusal := answerOn s effectFwVerifyDone
/-- FW_ACTIVATE_AT_POWER_UP (R422): Marks the verified bank TRIAL, to be booted at the next power-on. -/
def execFwActivateAtPowerUp (q : Req) (s : State) : Host.Outcome State Fault Refusal := answerOn s (effectFwActivate false q)
/-- FW_ACTIVATE_NOW (R314): Marks the verified bank TRIAL and restarts at once from it. -/
def execFwActivateNow (q : Req) (s : State) : Host.Outcome State Fault Refusal := answerOn s (effectFwActivate true q)
/-- KCP_FORWARD_REPLY (R315): The reply of the herd member to which a request was forwarded is relayed to the host. -/
def execKcpForwardReply (member : Nat) (seq : Nat) (status : Nat) (detail : Nat) (body : FwdBody) (s : State) : Host.Outcome State Fault Refusal :=
  answerOn s (effectForwardReply member seq status detail body.more body.bytes)
/-- KCP_FORWARD_TIMEOUT (R315): A forwarded request gets no reply within 20 ms and is answered BUSY_RETRY, detail 8. -/
def execKcpForwardTimeout (member : Nat) (seq : Nat) (s : State) : Host.Outcome State Fault Refusal :=
  answerOn s (effectForwardTimeout member seq)
/-- SESSION_KEEPALIVE_EXPIRY (R296): A session with no accepted authenticated request within the keepalive time ends. -/
def execSessionKeepaliveExpiry (session : Nat) (s : State) : Host.Outcome State Fault Refusal :=
  answerOn s (effectKeepaliveExpiry session)
/-- LOGIN_LOCKOUT_END (R297): The 60 s LOGIN lockout of a source address ends. -/
def execLoginLockoutEnd (src : Nat) (s : State) : Host.Outcome State Fault Refusal := answerOn s (effectLockoutEnd src)
/-- JOG_REFRESH_TIMEOUT (R307): A jog that is not renewed in time stops along its own ramp. -/
def execJogRefreshTimeout (a : Fin 24) (s : State) : Host.Outcome State Fault Refusal := answerOn s (effectJogTimeout a.val)

end Sys2Proof.Machine
end

