-- ==== Sys2Proof/Machine/RowsNet.lean ====
section
/-! DEFINITION. The meanings of journal engine, network ports and time: one per row of the table, over the
shared operations of the families. -/

namespace Sys2Proof.Machine

/-- JOURNAL_WRITE_DONE (R395): The journal engine completes a write and its read-back, remapping on failure. -/
def execJournalWriteDone (r : WriteResult) (s : State) : Host.Outcome State Fault Refusal := answerOn s (effectWriteDone r)
/-- STORE_NO_RESPONSE (R396): The main store gives no answer within 10 ms, so regions 0-3 become FAILED. -/
def execStoreNoResponse (s : State) : Host.Outcome State Fault Refusal := answerOn s (failStore 3)
/-- STORE_RECHECK (R399): Every 60 s the failed store is tested, and recovered on success. -/
def execStoreRecheck (ok : Bool) (s : State) : Host.Outcome State Fault Refusal := answerOn s (effectRecheck ok)
/-- SEAL_PERIOD_EXPIRY (R394): SEAL_PERIOD_H of operating time has passed, so an automatic seal is written. -/
def execSealPeriodExpiry (s : State) : Host.Outcome State Fault Refusal := answerOn s effectSealPeriod
/-- OP_TIME_STORE (R382): Operating time is stored every 1 s. -/
def execOpTimeStore (s : State) : Host.Outcome State Fault Refusal := answerOn s effectOpTimeStore
/-- NET_FRAME_RX (R335): A received frame is sorted by class, rate-limited, de-duplicated and delivered. -/
def execNetFrameRx (f : Frame) (s : State) : Host.Outcome State Fault Refusal := answerOn s (effectFrameRx f)
/-- LINK_LOSS (R334): A link loss lasting beyond the debounce is reported and counted. -/
def execLinkLoss (p : Port) (s : State) : Host.Outcome State Fault Refusal := answerOn s (effectLinkLoss (Port.index p))
/-- LINK_UP (R334): A port's link comes up, and its link status is set. -/
def execLinkUp (p : Port) (gigabit : Bool) (s : State) : Host.Outcome State Fault Refusal :=
  answerOn s (effectLinkUp (Port.index p) gigabit)
/-- PRP_SUPERVISION_TX (R337): A PRP supervision frame is sent every PRP_SUP_MS. -/
def execPrpSupervisionTx (s : State) : Host.Outcome State Fault Refusal := answerOn s effectPrpSup
/-- SINGLE_LAN_TIMEOUT (R338): Peers heard on one LAN only, or on neither, for SINGLE_LAN_S changes PRP_STATUS. -/
def execSingleLanTimeout (heardA : Bool) (heardB : Bool) (s : State) : Host.Outcome State Fault Refusal :=
  answerOn s (effectSingleLan heardA heardB)
/-- PTP_SYNC_RX (R344): A Sync sample is taken through the A/B check, the step check and the servo. -/
def execPtpSyncRx (n : Fin 2) (m : SyncMsg) (s : State) : Host.Outcome State Fault Refusal := answerOn s (effectPtpSync n.val m)
/-- PTP_FOLLOW_UP_RX (R339): A Follow_Up completes a two-step Sync sample. -/
def execPtpFollowUpRx (n : Fin 2) (m : SyncMsg) (s : State) : Host.Outcome State Fault Refusal :=
  answerOn s (effectPtpFollowUp n.val m)
/-- PTP_DELAY_RESP_RX (R344): A Delay_Resp gives a path delay measurement and filter update. -/
def execPtpDelayRespRx (n : Fin 2) (rawNs : Nat) (s : State) : Host.Outcome State Fault Refusal :=
  answerOn s (effectPtpDelay n.val rawNs)
/-- PTP_ANNOUNCE_RX (R339): An Announce enters the best master algorithm. -/
def execPtpAnnounceRx (n : Fin 2) (m : AnnounceMsg) (s : State) : Host.Outcome State Fault Refusal :=
  answerOn s (effectPtpAnnounce n.val m)
/-- ANNOUNCE_TIMEOUT (R339): Announce receipt times out and the master is lost. -/
def execAnnounceTimeout (n : Fin 2) (s : State) : Host.Outcome State Fault Refusal := answerOn s (effectAnnounceTimeout n.val)
/-- PTP_SYNC_TX (R339): As master, a one-step Sync is sent. -/
def execPtpSyncTx (n : Fin 2) (s : State) : Host.Outcome State Fault Refusal := answerOn s (effectPtpSyncTx n.val)
/-- PTP_DELAY_REQ_TX (R339): As slave, a Delay_Req is sent. -/
def execPtpDelayReqTx (n : Fin 2) (s : State) : Host.Outcome State Fault Refusal := answerOn s (effectPtpDelayReqTx n.val)
/-- AB_DECISION (R348): After AB_DECIDE_MS in DECIDING, a network is distrusted or none. -/
def execAbDecision (s : State) : Host.Outcome State Fault Refusal := answerOn s effectAbDecision
/-- STEP_CONFIRM_EXPIRY (R345): Refused steps confirmed on both networks for the confirmation time are accepted. -/
def execStepConfirmExpiry (s : State) : Host.Outcome State Fault Refusal := answerOn s effectStepConfirm
/-- AB_RECOVER_EXPIRY (R349): A distrusted network within tolerance for AB_RECOVER_S is trusted again. -/
def execAbRecoverExpiry (s : State) : Host.Outcome State Fault Refusal := answerOn s effectAbRecover

end Sys2Proof.Machine
end

