-- ==== Sys2Proof/Machine/RowsPower.lean ====
section
/-! DEFINITION. The meanings of supplies, start and restart, Graze: one per row of the table, over the
shared operations of the families. -/

namespace Sys2Proof.Machine

/-- POWER_ON (R405): LOGIC supply applied starts a full start. -/
def execPowerOn (s : State) : Host.Outcome State Fault Refusal := answerAlways s effectPowerOn
/-- WAKE (R446): The WAKE input goes active, leaving STANDBY or SLEEP. -/
def execWake (s : State) : Host.Outcome State Fault Refusal := answerAlways s effectWake
/-- LOGIC_INTERRUPTION (R434): LOGIC below threshold for 100 µs; running on hold-up. -/
def execLogicInterruption (s : State) : Host.Outcome State Fault Refusal := answerAlways s effectInterruption
/-- LOGIC_BRIDGED (R434): LOGIC returns within 20 ms and the bridge is counted. -/
def execLogicBridged (ms : Nat) (s : State) : Host.Outcome State Fault Refusal := answerAlways s (effectBridged ms)
/-- POWER_FAIL_WARNING (R434): After 20 ms without LOGIC, outputs open, STO everywhere and stored items written. -/
def execPowerFailWarning (s : State) : Host.Outcome State Fault Refusal := answerAlways s effectPowerFail
/-- HOLDUP_RELEASE (R434): Shutdown writes complete; hold-up released and both lanes reset. -/
def execHoldupRelease (s : State) : Host.Outcome State Fault Refusal := answerAlways s effectHoldupRelease
/-- LOW_LOGIC (R433): LOGIC below 0.7 × nominal for 100 ms sets LOW_LOGIC. -/
def execLowLogic (mV : Nat) (s : State) : Host.Outcome State Fault Refusal := answerAlways s (effectLowLogic mV)
/-- PRECHARGE_COMPLETE (R414): The DRIVE bus is above 0.6 × nominal and stable; precharge complete. -/
def execPrechargeComplete (mV : Nat) (ms : Nat) (s : State) : Host.Outcome State Fault Refusal :=
  answerOn s (effectPrechargeDone mV ms)
/-- PRECHARGE_TIMEOUT (R414): Precharge fails to complete in time, so charging stops and the supply event is raised. -/
def execPrechargeTimeout (s : State) : Host.Outcome State Fault Refusal := answerOn s effectPrechargeTimeout
/-- PRECHARGE_RETRY (R414): Precharge is retried every 10 s after a timeout. -/
def execPrechargeRetry (s : State) : Host.Outcome State Fault Refusal := answerOn s effectPrechargeRetry
/-- DRIVE_INPUT_LOSS (R437): DRIVE input below 0.5 × nominal for 50 ms starts the active discharge. -/
def execDriveInputLoss (dischargeMs : Nat) (s : State) : Host.Outcome State Fault Refusal :=
  answerOn s (effectDriveLoss dischargeMs)
/-- DRIVE_INPUT_RETURN (R414): The DRIVE input returns and precharge runs again. -/
def execDriveInputReturn (s : State) : Host.Outcome State Fault Refusal := answerOn s effectDriveReturn
/-- DRIVE_BREAKER_TRIP (R435): The DRIVE input current limits are exceeded and the breaker trips. -/
def execDriveBreakerTrip (dischargeMs : Nat) (s : State) : Host.Outcome State Fault Refusal :=
  answerOn s (effectBreakerTrip dischargeMs)
/-- REGEN_EPISODE_END (R436): A clamp episode ends, and above 30 J sets REGEN_OVER and REGEN_LOCK. -/
def execRegenEpisodeEnd (mJ : Nat) (s : State) : Host.Outcome State Fault Refusal := answerOn s (effectRegenEnd mJ)
/-- REGEN_LOCK_EXPIRY (R436): The 60 s REGEN_LOCK ends and openings may start again. -/
def execRegenLockExpiry (s : State) : Host.Outcome State Fault Refusal := answerOn s effectRegenLockEnd
/-- INSULATION_MEASUREMENT (R438): Every 10 s the bus insulation is measured, and three lows set INSUL_LOW. -/
def execInsulationMeasurement (kOhm : Nat) (s : State) : Host.Outcome State Fault Refusal := answerOn s (effectInsulation kOhm)
/-- CONTACT_FEED_DARK_PULSE (R443): A contact feed is switched off for 400 µs and its contacts must read open. -/
def execContactFeedDarkPulse (feed : Fin 18) (readClosed : List ContactRef) (s : State) : Host.Outcome State Fault Refusal :=
  answerOn s (effectFeedPulse feed.val readClosed)
/-- CONTACT_FEED_OVERLOAD (R443): A feed drawing over 150 mA for 5 ms is switched off. -/
def execContactFeedOverload (feed : Fin 18) (s : State) : Host.Outcome State Fault Refusal :=
  answerOn s (effectFeedOverload feed.val)
/-- CONTACT_FEED_RETRY (R443): An overloaded contact feed is retried every 1 s. -/
def execContactFeedRetry (feed : Fin 18) (s : State) : Host.Outcome State Fault Refusal := answerOn s (effectFeedRetry feed.val)
/-- ENCODER_SUPPLY_OVERLOAD (R443): An encoder supply over 350 mA for 10 ms is switched off and retried every 1 s. -/
def execEncoderSupplyOverload (d : Fin 8) (s : State) : Host.Outcome State Fault Refusal := answerOn s (effectEncOverload d.val)
/-- BASE_TEMP_WARN (R448): The baseplate at or above BASE_TEMP_WARN for 1 s raises the thermal event. -/
def execBaseTempWarn (temp : Int) (s : State) : Host.Outcome State Fault Refusal := answerOn s (effectBaseWarn temp)
/-- BASE_TEMP_LIMIT (R448): The baseplate at or above 130 °C for 1 s blocks new openings. -/
def execBaseTempLimit (temp : Int) (s : State) : Host.Outcome State Fault Refusal := answerOn s (effectBaseLimit temp)
/-- LOGIC_TEMP_HOT (R448): The logic sensor at or above 140 °C raises the thermal event. -/
def execLogicTempHot (temp : Int) (s : State) : Host.Outcome State Fault Refusal := answerOn s (effectLogicHot temp)
/-- LANE_BOOT_DONE (R407): Lane boot completes with the signature and image cross-check, continuing or failing the try. -/
def execLaneBootDone (ok : Bool) (s : State) : Host.Outcome State Fault Refusal := answerOn s (effectLaneBoot ok)
/-- STORE_CHECK_DONE (R408): The start store check completes; warm or cold is chosen and the START record written. -/
def execStoreCheckDone (r : StoreReport) (s : State) : Host.Outcome State Fault Refusal := answerOn s (effectStoreCheck r)
/-- STORE_CHECK_TIMEOUT (R408): The store check has not passed within 2,000 ms and fails. -/
def execStoreCheckTimeout (s : State) : Host.Outcome State Fault Refusal := answerOn s effectStoreTimeout
/-- CONTACT_DARK_TEST_END (R415): The 20 ms feed-off test ends; feeds return and phase memory is validated after the filters. -/
def execContactDarkTestEnd (readClosed : List ContactRef) (s : State) : Host.Outcome State Fault Refusal :=
  answerOn s (effectDarkTest readClosed)
/-- START_STEP7 (R418): Initial doorway states are set, and sequencers, demands, logic and field link start. -/
def execStartStep7 (s : State) : Host.Outcome State Fault Refusal := answerOn s effectStep7
/-- TRIAL_CONFIRMATION (R423): 60 s after step 7 without a lane fault, the TRIAL bank becomes ACTIVE. -/
def execTrialConfirmation (s : State) : Host.Outcome State Fault Refusal := answerOn s effectTrialConfirm
/-- LANE_RESTART_DONE (R420): The restarting lane rejoins the cross-lane exchange and writes a START record. -/
def execLaneRestartDone (lane : Lane) (s : State) : Host.Outcome State Fault Refusal := answerOn s (effectLaneDone lane)
/-- GRAZE_ITEM_RUN (R465): In idle time, one instance of a Graze item is tested. -/
def execGrazeItemRun (item : Fin 13) (inst : Nat) (pass : Bool) (s : State) : Host.Outcome State Fault Refusal :=
  answerOn s (effectGrazeRun item.val inst pass)
/-- GRAZE_STO_TEST_STEP (R466): A timed step of the STO path test: enable ramp, single-enable drop, check, dwell, park. -/
def execGrazeStoTestStep (a : Fin 24) (checkOk : Bool) (s : State) : Host.Outcome State Fault Refusal :=
  answerOn s (effectStoTestStep a.val checkOk)
/-- GRAZE_OVERDUE (R470): An item has not completed coverage within TARGET_H, so E218 is raised. -/
def execGrazeOverdue (item : Fin 13) (s : State) : Host.Outcome State Fault Refusal := answerOn s (effectGrazeOverdue item.val)
/-- ENCODER_SUPPLY_RETRY (R443): An encoder supply that was switched off after an overload is switched on again every 1 s. -/
def execEncoderSupplyRetry (d : Fin 8) (s : State) : Host.Outcome State Fault Refusal := answerOn s (effectEncRetry d.val)
/-- STORE_MONITOR_FAULT (R396): The main store's supply or bus monitor reports a fault, and regions 0-3 become FAILED. -/
def execStoreMonitorFault (s : State) : Host.Outcome State Fault Refusal := answerOn s (failStore 4)
/-- PARK_RECORD_TIMEOUT (R398): While the main store is FAILED, a park completes 10 ms after its phase record was due, with PHASE_VALID cleared. -/
def execParkRecordTimeout (a : Fin 24) (s : State) : Host.Outcome State Fault Refusal := answerOn s (parkTimeout a.val)
/-- BASE_LIMIT_CLEARED (R448): The baseplate temperature falls below 125.0 °C, BASE_LIMIT clears and the sequencers may start openings again. -/
def execBaseLimitCleared (temp : Int) (s : State) : Host.Outcome State Fault Refusal := answerOn s (effectBaseCleared temp)
/-- OT_WARN_CLEARED (R120): The stage temperature sensor falls below 125.0 °C and OT_WARN clears. -/
def execOtWarnCleared (a : Fin 24) (temp : Int) (s : State) : Host.Outcome State Fault Refusal :=
  answerOn s (effectOtCleared a.val temp)

end Sys2Proof.Machine
end

