-- ==== Sys2Proof/Machine/RowsSafety.lean ====
section
/-! DEFINITION. The meanings of the lanes, the safe inputs and outputs, KSC: one per row of the table, over the
shared operations of the families. -/

namespace Sys2Proof.Machine

/-- LANE_SLOT (R191): The 1 ms slot of each lane: pair evaluation, safe output demands, switch refresh and monitoring. -/
def execLaneSlot (lane : Lane) (m : SlotIn) (s : State) : Host.Outcome State Fault Refusal := answerOn s (laneSlot lane m)
/-- CROSS_LANE_EXCHANGE (R24): The lanes exchange and compare the doorway and module quantities every 1 ms. -/
def execCrossLaneExchange (s : State) : Host.Outcome State Fault Refusal := answerOn s effectExchange
/-- LANE_DISAGREEMENT (R26): A quantity differs beyond its tolerance in 10 consecutive exchanges, and each lane takes the module safe state. -/
def execLaneDisagreement (s : State) : Host.Outcome State Fault Refusal := answerOn s effectDisagreement
/-- LANE_TICK_WINDOW (R16): End of a 4-tick window, whose own-clock cycle count is checked against its expected value. -/
def execLaneTickWindow (lane : Lane) (cycles : Nat) (s : State) : Host.Outcome State Fault Refusal :=
  answerOn s (tickWindow lane (windowBad lane cycles))
/-- LANE_TICK_MISSING (R16): No tick from the other lane for 2 ms, so the window counts as failed. -/
def execLaneTickMissing (lane : Lane) (s : State) : Host.Outcome State Fault Refusal := answerOn s (tickWindow lane true)
/-- LOCKSTEP_MISMATCH (R27): The Ibex cores disagree; Ibex halts and a lane restart follows. -/
def execLockstepMismatch (s : State) : Host.Outcome State Fault Refusal := answerOn s (haltLane .ibex 5 4)
/-- IBEX_WATCHDOG (R420): The Ibex hardware watchdog expires, starting a lane restart. -/
def execIbexWatchdog (s : State) : Host.Outcome State Fault Refusal := answerOn s (haltLane .ibex 6 3)
/-- CHAMOIS_WATCHDOG (R420): The Chamois hardware watchdog expires, starting a lane restart. -/
def execChamoisWatchdog (s : State) : Host.Outcome State Fault Refusal := answerOn s (haltLane .chamois 7 3)
/-- SAFE_CONTACT_CHANGE (R190): The raw level of a safe contact input changes. -/
def execSafeContactChange (p : Fin 32) (second : Bool) (lane : Lane) (closed : Bool) (s : State) : Host.Outcome State Fault Refusal :=
  answerAlways s (effectContactChange p.val second lane closed)
/-- CONTACT_FILTER_EXPIRY (R190): A contact's raw level has held for its filter time, and the filtered contact takes it. -/
def execContactFilterExpiry (p : Fin 32) (second : Bool) (lane : Lane) (s : State) : Host.Outcome State Fault Refusal :=
  answerOn s (effectFilterExpiry p.val second lane)
/-- DISCREPANCY_EXPIRY (R191): The discrepancy timer of a pair runs out, so a discrepancy latches and its event is raised. -/
def execDiscrepancyExpiry (p : Fin 32) (lane : Lane) (s : State) : Host.Outcome State Fault Refusal :=
  answerOn s (effectDiscrepancy p.val lane)
/-- RESET_STUCK (R212): The reset pair stays ACTIVE for more than 3,000 ms, so STUCK is set and RESET_STUCK raised. -/
def execResetStuck (lane : Lane) (s : State) : Host.Outcome State Fault Refusal := answerOn s (effectResetStuck lane)
/-- DL_ON_DELAY_EXPIRY (R198): The door loop condition has held for the on-delay, and the DL demand turns ON. -/
def execDlOnDelayExpiry (lane : Lane) (s : State) : Host.Outcome State Fault Refusal := answerOn s (effectOnDelay lane)
/-- SO_TEST_PULSE (R202): A scheduled test pulse of one safe output switch starts. -/
def execSoTestPulse (s : State) : Host.Outcome State Fault Refusal := answerOn s effectTestPulse
/-- SO_TEST_PULSE_END (R203): A test pulse ends on its pass sense or at its maximum length, and is judged. -/
def execSoTestPulseEnd (during : Bool) (after : Bool) (s : State) : Host.Outcome State Fault Refusal :=
  answerOn s (effectTestPulseEnd during after)
/-- SO_SWITCH_FAIL (R201): A safe output switch conducts while off, or blocks 1 ms after being commanded on, and the pair locks off. -/
def execSoSwitchFail (o : Fin 4) (high : Bool) (conducting : Bool) (s : State) : Host.Outcome State Fault Refusal :=
  answerOn s (effectSwitchFail o.val high conducting)
/-- SO_OVERLOAD (R201): Pair current above 8.0 A, or above 2.5 A for 1 ms, opens both switches. -/
def execSoOverload (o : Fin 4) (mA : Nat) (s : State) : Host.Outcome State Fault Refusal :=
  answerOn s (effectSoOverload o.val mA)
/-- SO_OPEN_LOAD (R201): Pair current below 5 mA while conducting sets OPEN_LOAD. -/
def execSoOpenLoad (o : Fin 4) (mA : Nat) (s : State) : Host.Outcome State Fault Refusal :=
  answerOn s (effectSoOpenLoad o.val mA)
/-- CLOSING_CURRENT_TRIP (R209): A closing axis's current exceeds I_F plus the tolerance in 5 consecutive slots, and Chamois takes the module safe state. -/
def execClosingCurrentTrip (a : Fin 24) (s : State) : Host.Outcome State Fault Refusal := answerOn s (effectCurrentTrip a.val)
/-- SAFE_STOP_TIMEOUT (R208): A safe-stopping axis is not at rest after SS_TMAX, so STO is demanded. -/
def execSafeStopTimeout (a : Fin 24) (s : State) : Host.Outcome State Fault Refusal := answerOn s (effectSafeStopTimeout a.val)
/-- KSC_COPY_RX (R222): A KSC telegram copy is received and validated by each lane. -/
def execKscCopyRx (lane : Lane) (netB : Bool) (src : Nat) (data : Bytes) (s : State) : Host.Outcome State Fault Refusal :=
  answerOn s (effectKscCopy lane netB src data)
/-- KSC_PAIR_WINDOW_END (R222): The pairing window ends with a single copy, accepted or counted as missing by the policy. -/
def execKscPairWindowEnd (lane : Lane) (s : State) : Host.Outcome State Fault Refusal := answerOn s (effectKscWindow lane)
/-- KSC_WATCHDOG_EXPIRY (R223): No telegram accepted within the watchdog time, so the connection goes to LOST. -/
def execKscWatchdogExpiry (lane : Lane) (s : State) : Host.Outcome State Fault Refusal := answerOn s (effectKscWatchdog lane)
/-- KSC_TX_CYCLE (R221): Each KSC cycle, the lanes form the outbound status telegram and send it on both networks. -/
def execKscTxCycle (s : State) : Host.Outcome State Fault Refusal := answerOn s effectKscTx

end Sys2Proof.Machine
end

