-- ==== Sys2Proof/Machine/RowsWrite.lean ====
section
/-! DEFINITION. The meanings of writes of one register or block that have a row of their own: one per row of the table, over the
shared operations of the families. -/

namespace Sys2Proof.Machine

/-- TEACH (R164): A write of 1 to DW.TEACH empties the windows and puts the doorway into TEACHING. -/
def execTeach (d : Fin 8) (w : RegWrite) (s : State) : Host.Outcome State Fault Refusal :=
  answerOn s (effectRegWrite (.dw d.val .teach) w)
/-- RESTART (R403): A write of 1 to MOD.RESTART starts a full restart once every doorway is safe and every axis at rest. -/
def execRestart (w : RegWrite) (s : State) : Host.Outcome State Fault Refusal := answerOn s (effectRegWrite (.mod .restart) w)
/-- RECHECK (R399): A write of 1 to JRN.RECHECK tests the main store at once. -/
def execRecheck (w : RegWrite) (s : State) : Host.Outcome State Fault Refusal := answerOn s (effectRegWrite (.jrn .recheck) w)
/-- CNT_CLEAR (R352): A write of 1 to NET.CNT_CLEAR clears the network counters. -/
def execCntClear (w : RegWrite) (s : State) : Host.Outcome State Fault Refusal := answerOn s (effectRegWrite (.net .cntClear) w)
/-- STAGE_FAULT_CLEAR (R121): A W1C write to AX.STAGE_FAULT clears latched faults, with the OC_LOCK rules, and may take the axis out of FAULT. -/
def execStageFaultClear (a : Fin 24) (w : RegWrite) (s : State) : Host.Outcome State Fault Refusal :=
  answerOn s (effectRegWrite (.ax a.val .stageFault) w)
/-- SO_STATUS_CLEAR (R205): A W1C write to SAF.SO_STATUS clears OVERLOAD, or queues switch tests before clearing a switch failure. -/
def execSoStatusClear (o : Fin 4) (w : RegWrite) (s : State) : Host.Outcome State Fault Refusal :=
  answerOn s (effectRegWrite (.saf (.soStatus o.val)) w)
/-- SO_CLEAR_TEST (R205): One of the two switch tests that a queued switch-failure clear needs, run one second apart. -/
def execSoClearTest (o : Fin 4) (passed : Bool) (s : State) : Host.Outcome State Fault Refusal :=
  answerOn s (effectClearTest o.val passed)
/-- IO_STATUS_CLEAR (R243): A W1C write to IO.STATUS clears absent faults, and clears WIRED on both pins of a wired pair. -/
def execIoStatusClear (n : Fin 112) (w : RegWrite) (s : State) : Host.Outcome State Fault Refusal :=
  answerOn s (effectRegWrite (.io n.val .status) w)
/-- IO_MODE_WRITE (R231): A write of IO.MODE switches a conducting output off, waits for its demagnetisation, then changes the mode and clears its state. -/
def execIoModeWrite (n : Fin 112) (w : RegWrite) (s : State) : Host.Outcome State Fault Refusal :=
  answerOn s (effectRegWrite (.io n.val .mode) w)
/-- IO_OUT_WRITE (R238): A write of IO.OUT commands a HOST-owned output from the next tick. -/
def execIoOutWrite (n : Fin 112) (w : RegWrite) (s : State) : Host.Outcome State Fault Refusal :=
  answerOn s (effectRegWrite (.io n.val .out) w)
/-- POWER_MODE_RUN (R446): A write of 0 to MOD.POWER_MODE leaves STANDBY: precharge, outputs, logic, stations and demands return. -/
def execPowerModeRun (q : Req) (s : State) : Host.Outcome State Fault Refusal := answerOn s (effectPowerMode 0 q)
/-- POWER_MODE_STANDBY (R446): A write of 1 to MOD.POWER_MODE enters STANDBY: DRIVE opened, outputs and field link off. -/
def execPowerModeStandby (q : Req) (s : State) : Host.Outcome State Fault Refusal := answerOn s (effectPowerMode 1 q)
/-- POWER_MODE_SLEEP (R446): A write of 2 to MOD.POWER_MODE writes the stored state and turns everything off except the WAKE monitor. -/
def execPowerModeSleep (q : Req) (s : State) : Host.Outcome State Fault Refusal := answerOn s (effectPowerMode 2 q)
/-- GRAZE_FAST_WRITE (R472): A write of MOD.GRAZE_FAST, accepted in TEST only, speeds up Graze. -/
def execGrazeFastWrite (w : RegWrite) (s : State) : Host.Outcome State Fault Refusal :=
  answerOn s (effectRegWrite (.mod .grazeFast) w)
/-- HERD_CONFIG_WRITE (R356): A write of the member number, members, train identity or external referee makes the module rejoin as MEMBER. -/
def execHerdConfigWrite (r : HerdReg) (w : RegWrite) (s : State) : Host.Outcome State Fault Refusal :=
  answerOn s (effectRegWrite (herdPar r) w)
/-- HERD_ELIGIBLE_WRITE (R372): A write of HERD.ELIGIBLE, which also clears SHADOW_FAULT. -/
def execHerdEligibleWrite (w : RegWrite) (s : State) : Host.Outcome State Fault Refusal :=
  answerOn s (effectRegWrite (.herd .eligible) w)
/-- NET_PORT_WRITE (R352): A write of an address or PRP parameter applies to the port at once and ends the KCP sessions that arrived through it. -/
def execNetPortWrite (r : NetReg) (w : RegWrite) (s : State) : Host.Outcome State Fault Refusal :=
  answerOn s (effectRegWrite (netPar r) w)
/-- FS_ENABLE_WRITE (R253): A write of FS.ENABLE adds a station to the frame, where it starts JOINING, or removes it. -/
def execFsEnableWrite (f : Fin 16) (w : RegWrite) (s : State) : Host.Outcome State Fault Refusal :=
  answerOn s (effectRegWrite (.fs f.val .enable) w)
/-- LATCH_CFG_WRITE (R144): Arms or disarms a latch unit, with a HOST source capturing in the next tick. -/
def execLatchCfgWrite (a : Fin 24) (l : Fin 2) (w : RegWrite) (s : State) : Host.Outcome State Fault Refusal :=
  answerOn s (effectRegWrite (.ax a.val (.latchCfg l.val)) w)
/-- CMP_WRITE (R146): A compare unit block written and applied whole at the next tick, checked for passed targets on arming. -/
def execCmpWrite (a : Fin 24) (u : Fin 4) (q : Req) (data : Bytes) (s : State) : Host.Outcome State Fault Refusal :=
  answerOn s (wholeWrite (.cmp a.val u.val) q data)
/-- LC_TABLE_WRITE (R55): A write of leaf-clock points 8-31, applied at once or shadowed until the axis rests. -/
def execLcTableWrite (a : Fin 24) (q : Req) (data : Bytes) (s : State) : Host.Outcome State Fault Refusal :=
  answerOn s (wholeWrite (.lcTable a.val) q data)
/-- CAM_WRITE (R91): A write of a cam table, checked and applied, or shadowed while a coupled axis moves. -/
def execCamWrite (t : Fin 8) (q : Req) (data : Bytes) (s : State) : Host.Outcome State Fault Refusal :=
  answerOn s (wholeWrite (.cam t.val) q data)
/-- SINE_WRITE (R104): A write of sine table 1-3 to its shadow, adopted by each selecting axis at its rest. -/
def execSineWrite (t : Fin 4) (q : Req) (data : Bytes) (s : State) : Host.Outcome State Fault Refusal :=
  answerOn s (wholeWrite (.sine t.val) q data)
/-- KEY_WRITE (R298): A write of a role key on SVC with the isolation key turned, which ends the sessions of that role. -/
def execKeyWrite (r : Fin 4) (q : Req) (data : Bytes) (s : State) : Host.Outcome State Fault Refusal :=
  answerOn s (effectKeyWrite r.val q data)

end Sys2Proof.Machine
end

