-- ==== Sys2Proof/Machine/Dispatch.lean ====
section
/-! DEFINITION. The effect of a command: one arm per constructor of `Instr`, each one call of that command's meaning. -/

namespace Sys2Proof.Machine

def exec (i : Instr) (s : State) : Host.Outcome State Fault Refusal :=
  match i with
  | .hello q => Sys2Proof.Machine.execHello q s
  | .login q => Sys2Proof.Machine.execLogin q s
  | .logout q => Sys2Proof.Machine.execLogout q s
  | .keepalive q => Sys2Proof.Machine.execKeepalive q s
  | .paramRead q => Sys2Proof.Machine.execParamRead q s
  | .paramWrite q => Sys2Proof.Machine.execParamWrite q s
  | .blockRead q => Sys2Proof.Machine.execBlockRead q s
  | .blockWrite q => Sys2Proof.Machine.execBlockWrite q s
  | .safVerify q => Sys2Proof.Machine.execSafVerify q s
  | .safVerifyDone => Sys2Proof.Machine.execSafVerifyDone s
  | .safCommit q => Sys2Proof.Machine.execSafCommit q s
  | .revertOwnerShadow q => Sys2Proof.Machine.execRevertOwnerShadow q s
  | .revertAllShadows q => Sys2Proof.Machine.execRevertAllShadows q s
  | .revertSafetyShadow q => Sys2Proof.Machine.execRevertSafetyShadow q s
  | .revertDefaultSet q => Sys2Proof.Machine.execRevertDefaultSet q s
  | .eventPoll q => Sys2Proof.Machine.execEventPoll q s
  | .eventAck q => Sys2Proof.Machine.execEventAck q s
  | .eventInject q => Sys2Proof.Machine.execEventInject q s
  | .openRequest q => Sys2Proof.Machine.execOpenRequest q s
  | .closeRequest q => Sys2Proof.Machine.execCloseRequest q s
  | .holdOpen q => Sys2Proof.Machine.execHoldOpen q s
  | .isolate q => Sys2Proof.Machine.execIsolate q s
  | .deisolate q => Sys2Proof.Machine.execDeisolate q s
  | .doorStatus q => Sys2Proof.Machine.execDoorStatus q s
  | .moveAbs q => Sys2Proof.Machine.execMoveAbs q s
  | .moveRel q => Sys2Proof.Machine.execMoveRel q s
  | .stop q => Sys2Proof.Machine.execStop q s
  | .quickStop q => Sys2Proof.Machine.execQuickStop q s
  | .home q => Sys2Proof.Machine.execHome q s
  | .jog q => Sys2Proof.Machine.execJog q s
  | .park q => Sys2Proof.Machine.execPark q s
  | .enable q => Sys2Proof.Machine.execEnable q s
  | .disable q => Sys2Proof.Machine.execDisable q s
  | .planLoad q => Sys2Proof.Machine.execPlanLoad q s
  | .planLoadCheckDone => Sys2Proof.Machine.execPlanLoadCheckDone s
  | .planExchange q => Sys2Proof.Machine.execPlanExchange q s
  | .logicRunWarm q => Sys2Proof.Machine.execLogicRunWarm q s
  | .logicRunCold q => Sys2Proof.Machine.execLogicRunCold q s
  | .logicStop q => Sys2Proof.Machine.execLogicStop q s
  | .logicHold q => Sys2Proof.Machine.execLogicHold q s
  | .logicStep q => Sys2Proof.Machine.execLogicStep q s
  | .varRead q => Sys2Proof.Machine.execVarRead q s
  | .varForce q => Sys2Proof.Machine.execVarForce q s
  | .varForceRelease q => Sys2Proof.Machine.execVarForceRelease q s
  | .jrnRead q => Sys2Proof.Machine.execJrnRead q s
  | .jrnStats q => Sys2Proof.Machine.execJrnStats q s
  | .jrnSeal q => Sys2Proof.Machine.execJrnSeal q s
  | .jrnStreamOpen q => Sys2Proof.Machine.execJrnStreamOpen q s
  | .jrnStreamCredit q => Sys2Proof.Machine.execJrnStreamCredit q s
  | .jrnStreamClose q => Sys2Proof.Machine.execJrnStreamClose q s
  | .streamPacket => Sys2Proof.Machine.execStreamPacket s
  | .timeStatus q => Sys2Proof.Machine.execTimeStatus q s
  | .timeAcceptStep q => Sys2Proof.Machine.execTimeAcceptStep q s
  | .herdStatus q => Sys2Proof.Machine.execHerdStatus q s
  | .herdModePrepare q => Sys2Proof.Machine.execHerdModePrepare q s
  | .herdModeAbort q => Sys2Proof.Machine.execHerdModeAbort q s
  | .grazeNow q => Sys2Proof.Machine.execGrazeNow q s
  | .grazeReport q => Sys2Proof.Machine.execGrazeReport q s
  | .fwBegin q => Sys2Proof.Machine.execFwBegin q s
  | .fwChunk q => Sys2Proof.Machine.execFwChunk q s
  | .fwVerify q => Sys2Proof.Machine.execFwVerify q s
  | .fwVerifyDone => Sys2Proof.Machine.execFwVerifyDone s
  | .fwActivateAtPowerUp q => Sys2Proof.Machine.execFwActivateAtPowerUp q s
  | .fwActivateNow q => Sys2Proof.Machine.execFwActivateNow q s
  | .kcpForwardReply member seq status detail body => Sys2Proof.Machine.execKcpForwardReply member seq status detail body s
  | .kcpForwardTimeout member seq => Sys2Proof.Machine.execKcpForwardTimeout member seq s
  | .sessionKeepaliveExpiry session => Sys2Proof.Machine.execSessionKeepaliveExpiry session s
  | .loginLockoutEnd src => Sys2Proof.Machine.execLoginLockoutEnd src s
  | .jogRefreshTimeout a => Sys2Proof.Machine.execJogRefreshTimeout a s
  | .teach d w => Sys2Proof.Machine.execTeach d w s
  | .restart w => Sys2Proof.Machine.execRestart w s
  | .recheck w => Sys2Proof.Machine.execRecheck w s
  | .cntClear w => Sys2Proof.Machine.execCntClear w s
  | .stageFaultClear a w => Sys2Proof.Machine.execStageFaultClear a w s
  | .soStatusClear o w => Sys2Proof.Machine.execSoStatusClear o w s
  | .soClearTest o passed => Sys2Proof.Machine.execSoClearTest o passed s
  | .ioStatusClear n w => Sys2Proof.Machine.execIoStatusClear n w s
  | .ioModeWrite n w => Sys2Proof.Machine.execIoModeWrite n w s
  | .ioOutWrite n w => Sys2Proof.Machine.execIoOutWrite n w s
  | .powerModeRun q => Sys2Proof.Machine.execPowerModeRun q s
  | .powerModeStandby q => Sys2Proof.Machine.execPowerModeStandby q s
  | .powerModeSleep q => Sys2Proof.Machine.execPowerModeSleep q s
  | .grazeFastWrite w => Sys2Proof.Machine.execGrazeFastWrite w s
  | .herdConfigWrite r w => Sys2Proof.Machine.execHerdConfigWrite r w s
  | .herdEligibleWrite w => Sys2Proof.Machine.execHerdEligibleWrite w s
  | .netPortWrite r w => Sys2Proof.Machine.execNetPortWrite r w s
  | .fsEnableWrite f w => Sys2Proof.Machine.execFsEnableWrite f w s
  | .latchCfgWrite a l w => Sys2Proof.Machine.execLatchCfgWrite a l w s
  | .cmpWrite a u q data => Sys2Proof.Machine.execCmpWrite a u q data s
  | .lcTableWrite a q data => Sys2Proof.Machine.execLcTableWrite a q data s
  | .camWrite t q data => Sys2Proof.Machine.execCamWrite t q data s
  | .sineWrite t q data => Sys2Proof.Machine.execSineWrite t q data s
  | .keyWrite r q data => Sys2Proof.Machine.execKeyWrite r q data s
  | .laneSlot lane m => Sys2Proof.Machine.execLaneSlot lane m s
  | .crossLaneExchange => Sys2Proof.Machine.execCrossLaneExchange s
  | .laneDisagreement => Sys2Proof.Machine.execLaneDisagreement s
  | .laneTickWindow lane cycles => Sys2Proof.Machine.execLaneTickWindow lane cycles s
  | .laneTickMissing lane => Sys2Proof.Machine.execLaneTickMissing lane s
  | .lockstepMismatch => Sys2Proof.Machine.execLockstepMismatch s
  | .ibexWatchdog => Sys2Proof.Machine.execIbexWatchdog s
  | .chamoisWatchdog => Sys2Proof.Machine.execChamoisWatchdog s
  | .safeContactChange p second lane closed => Sys2Proof.Machine.execSafeContactChange p second lane closed s
  | .contactFilterExpiry p second lane => Sys2Proof.Machine.execContactFilterExpiry p second lane s
  | .discrepancyExpiry p lane => Sys2Proof.Machine.execDiscrepancyExpiry p lane s
  | .resetStuck lane => Sys2Proof.Machine.execResetStuck lane s
  | .dlOnDelayExpiry lane => Sys2Proof.Machine.execDlOnDelayExpiry lane s
  | .soTestPulse => Sys2Proof.Machine.execSoTestPulse s
  | .soTestPulseEnd during after => Sys2Proof.Machine.execSoTestPulseEnd during after s
  | .soSwitchFail o high conducting => Sys2Proof.Machine.execSoSwitchFail o high conducting s
  | .soOverload o mA => Sys2Proof.Machine.execSoOverload o mA s
  | .soOpenLoad o mA => Sys2Proof.Machine.execSoOpenLoad o mA s
  | .closingCurrentTrip a => Sys2Proof.Machine.execClosingCurrentTrip a s
  | .safeStopTimeout a => Sys2Proof.Machine.execSafeStopTimeout a s
  | .kscCopyRx lane netB src data => Sys2Proof.Machine.execKscCopyRx lane netB src data s
  | .kscPairWindowEnd lane => Sys2Proof.Machine.execKscPairWindowEnd lane s
  | .kscWatchdogExpiry lane => Sys2Proof.Machine.execKscWatchdogExpiry lane s
  | .kscTxCycle => Sys2Proof.Machine.execKscTxCycle s
  | .fabricTick m => Sys2Proof.Machine.execFabricTick m s
  | .encoderEdge a e => Sys2Proof.Machine.execEncoderEdge a e s
  | .wireDisagreement a pair => Sys2Proof.Machine.execWireDisagreement a pair s
  | .indexEdge a rising => Sys2Proof.Machine.execIndexEdge a rising s
  | .latchEdgeCapture a l rising ageNs => Sys2Proof.Machine.execLatchEdgeCapture a l rising ageNs s
  | .ssiFrameStart d dataLow => Sys2Proof.Machine.execSsiFrameStart d dataLow s
  | .ssiFrameEnd d value status wireBad => Sys2Proof.Machine.execSsiFrameEnd d value status wireBad s
  | .envelopeBreach a => Sys2Proof.Machine.execEnvelopeBreach a s
  | .deviation a => Sys2Proof.Machine.execDeviation a s
  | .energyCapHit d => Sys2Proof.Machine.execEnergyCapHit d s
  | .loadAngleMeasurement a microvolts => Sys2Proof.Machine.execLoadAngleMeasurement a microvolts s
  | .homeStopReached a => Sys2Proof.Machine.execHomeStopReached a s
  | .homeSwitchEdge a active => Sys2Proof.Machine.execHomeSwitchEdge a active s
  | .homeMaxDistExceeded a => Sys2Proof.Machine.execHomeMaxDistExceeded a s
  | .homeSettleEnd a => Sys2Proof.Machine.execHomeSettleEnd a s
  | .homeRetryDelayEnd a => Sys2Proof.Machine.execHomeRetryDelayEnd a s
  | .profileEnd a => Sys2Proof.Machine.execProfileEnd a s
  | .stopRampEnd a => Sys2Proof.Machine.execStopRampEnd a s
  | .holdDelayExpiry a => Sys2Proof.Machine.execHoldDelayExpiry a s
  | .enableRampEnd a => Sys2Proof.Machine.execEnableRampEnd a s
  | .parkRampEnd a => Sys2Proof.Machine.execParkRampEnd a s
  | .parkWriteConfirmed a => Sys2Proof.Machine.execParkWriteConfirmed a s
  | .disableRampEnd a => Sys2Proof.Machine.execDisableRampEnd a s
  | .stoReadback a ibexOff chamoisOff => Sys2Proof.Machine.execStoReadback a ibexOff chamoisOff s
  | .stoDwellEnd a => Sys2Proof.Machine.execStoDwellEnd a s
  | .deratingRecompute temp => Sys2Proof.Machine.execDeratingRecompute temp s
  | .overcurrent a => Sys2Proof.Machine.execOvercurrent a s
  | .shortToGround a phaseB => Sys2Proof.Machine.execShortToGround a phaseB s
  | .shortToDrive a phaseB => Sys2Proof.Machine.execShortToDrive a phaseB s
  | .openPhase a phaseB => Sys2Proof.Machine.execOpenPhase a phaseB s
  | .overtemperatureWarning a temp => Sys2Proof.Machine.execOvertemperatureWarning a temp s
  | .overtemperature a temp => Sys2Proof.Machine.execOvertemperature a temp s
  | .driveUndervoltage mV => Sys2Proof.Machine.execDriveUndervoltage mV s
  | .driveOvervoltage mV => Sys2Proof.Machine.execDriveOvervoltage mV s
  | .sequencerPass => Sys2Proof.Machine.execSequencerPass s
  | .dwellEnd d => Sys2Proof.Machine.execDwellEnd d s
  | .warnEnd d => Sys2Proof.Machine.execWarnEnd d s
  | .sequencerTimeout d => Sys2Proof.Machine.execSequencerTimeout d s
  | .staggerMaxExpiry d => Sys2Proof.Machine.execStaggerMaxExpiry d s
  | .lockTimeExpiry d => Sys2Proof.Machine.execLockTimeExpiry d s
  | .coilPulseEnd n => Sys2Proof.Machine.execCoilPulseEnd n s
  | .dwellOverrun d => Sys2Proof.Machine.execDwellOverrun d s
  | .obstPauseEnd d => Sys2Proof.Machine.execObstPauseEnd d s
  | .parkDelayEnd d => Sys2Proof.Machine.execParkDelayEnd d s
  | .sealContactCheck d => Sys2Proof.Machine.execSealContactCheck d s
  | .sealStepEnd d => Sys2Proof.Machine.execSealStepEnd d s
  | .fieldInputFiltered n level => Sys2Proof.Machine.execFieldInputFiltered n level s
  | .countEdge n rising => Sys2Proof.Machine.execCountEdge n rising s
  | .outputOverload n => Sys2Proof.Machine.execOutputOverload n s
  | .outputOvertemp p => Sys2Proof.Machine.execOutputOvertemp p s
  | .outputFailOn n => Sys2Proof.Machine.execOutputFailOn n s
  | .outputOpenLoad p => Sys2Proof.Machine.execOutputOpenLoad p s
  | .demagEnd n => Sys2Proof.Machine.execDemagEnd n s
  | .demagOver n => Sys2Proof.Machine.execDemagOver n s
  | .shortCandidate n => Sys2Proof.Machine.execShortCandidate n s
  | .reverseCurrent n => Sys2Proof.Machine.execReverseCurrent n s
  | .probePulse n candidateLow => Sys2Proof.Machine.execProbePulse n candidateLow s
  | .fieldSupplyMissing g mV => Sys2Proof.Machine.execFieldSupplyMissing g mV s
  | .fieldSupplyLow g mV => Sys2Proof.Machine.execFieldSupplyLow g mV s
  | .fieldSupplyRecovered g mV => Sys2Proof.Machine.execFieldSupplyRecovered g mV s
  | .fgCurrentWarning g mA => Sys2Proof.Machine.execFgCurrentWarning g mA s
  | .fieldCycle => Sys2Proof.Machine.execFieldCycle s
  | .frameReturn f => Sys2Proof.Machine.execFrameReturn f s
  | .frameReturnTimeout => Sys2Proof.Machine.execFrameReturnTimeout s
  | .logicSlot => Sys2Proof.Machine.execLogicSlot s
  | .taskRunEnd task us => Sys2Proof.Machine.execTaskRunEnd task us s
  | .taskOverrun task byRelease => Sys2Proof.Machine.execTaskOverrun task byRelease s
  | .journalWriteDone r => Sys2Proof.Machine.execJournalWriteDone r s
  | .storeNoResponse => Sys2Proof.Machine.execStoreNoResponse s
  | .storeRecheck ok => Sys2Proof.Machine.execStoreRecheck ok s
  | .sealPeriodExpiry => Sys2Proof.Machine.execSealPeriodExpiry s
  | .opTimeStore => Sys2Proof.Machine.execOpTimeStore s
  | .netFrameRx f => Sys2Proof.Machine.execNetFrameRx f s
  | .linkLoss p => Sys2Proof.Machine.execLinkLoss p s
  | .linkUp p gigabit => Sys2Proof.Machine.execLinkUp p gigabit s
  | .prpSupervisionTx => Sys2Proof.Machine.execPrpSupervisionTx s
  | .singleLanTimeout heardA heardB => Sys2Proof.Machine.execSingleLanTimeout heardA heardB s
  | .ptpSyncRx n m => Sys2Proof.Machine.execPtpSyncRx n m s
  | .ptpFollowUpRx n m => Sys2Proof.Machine.execPtpFollowUpRx n m s
  | .ptpDelayRespRx n rawNs => Sys2Proof.Machine.execPtpDelayRespRx n rawNs s
  | .ptpAnnounceRx n m => Sys2Proof.Machine.execPtpAnnounceRx n m s
  | .announceTimeout n => Sys2Proof.Machine.execAnnounceTimeout n s
  | .ptpSyncTx n => Sys2Proof.Machine.execPtpSyncTx n s
  | .ptpDelayReqTx n => Sys2Proof.Machine.execPtpDelayReqTx n s
  | .abDecision => Sys2Proof.Machine.execAbDecision s
  | .stepConfirmExpiry => Sys2Proof.Machine.execStepConfirmExpiry s
  | .abRecoverExpiry => Sys2Proof.Machine.execAbRecoverExpiry s
  | .herdCycleBoundary => Sys2Proof.Machine.execHerdCycleBoundary s
  | .bleatTx => Sys2Proof.Machine.execBleatTx s
  | .bleatRx netB src data => Sys2Proof.Machine.execBleatRx netB src data s
  | .bleatWindowClose => Sys2Proof.Machine.execBleatWindowClose s
  | .holdExpiry => Sys2Proof.Machine.execHoldExpiry s
  | .joinCyclesExpiry => Sys2Proof.Machine.execJoinCyclesExpiry s
  | .voteReqRx netB src data => Sys2Proof.Machine.execVoteReqRx netB src data s
  | .voteRx netB src data => Sys2Proof.Machine.execVoteRx netB src data s
  | .voteDeadline => Sys2Proof.Machine.execVoteDeadline s
  | .masterStepDown => Sys2Proof.Machine.execMasterStepDown s
  | .mirrorTx => Sys2Proof.Machine.execMirrorTx s
  | .mirrorRx netB src data => Sys2Proof.Machine.execMirrorRx netB src data s
  | .shadowFault => Sys2Proof.Machine.execShadowFault s
  | .powerOn => Sys2Proof.Machine.execPowerOn s
  | .wake => Sys2Proof.Machine.execWake s
  | .logicInterruption => Sys2Proof.Machine.execLogicInterruption s
  | .logicBridged ms => Sys2Proof.Machine.execLogicBridged ms s
  | .powerFailWarning => Sys2Proof.Machine.execPowerFailWarning s
  | .holdupRelease => Sys2Proof.Machine.execHoldupRelease s
  | .lowLogic mV => Sys2Proof.Machine.execLowLogic mV s
  | .prechargeComplete mV ms => Sys2Proof.Machine.execPrechargeComplete mV ms s
  | .prechargeTimeout => Sys2Proof.Machine.execPrechargeTimeout s
  | .prechargeRetry => Sys2Proof.Machine.execPrechargeRetry s
  | .driveInputLoss dischargeMs => Sys2Proof.Machine.execDriveInputLoss dischargeMs s
  | .driveInputReturn => Sys2Proof.Machine.execDriveInputReturn s
  | .driveBreakerTrip dischargeMs => Sys2Proof.Machine.execDriveBreakerTrip dischargeMs s
  | .regenEpisodeEnd mJ => Sys2Proof.Machine.execRegenEpisodeEnd mJ s
  | .regenLockExpiry => Sys2Proof.Machine.execRegenLockExpiry s
  | .insulationMeasurement kOhm => Sys2Proof.Machine.execInsulationMeasurement kOhm s
  | .contactFeedDarkPulse feed readClosed => Sys2Proof.Machine.execContactFeedDarkPulse feed readClosed s
  | .contactFeedOverload feed => Sys2Proof.Machine.execContactFeedOverload feed s
  | .contactFeedRetry feed => Sys2Proof.Machine.execContactFeedRetry feed s
  | .encoderSupplyOverload d => Sys2Proof.Machine.execEncoderSupplyOverload d s
  | .baseTempWarn temp => Sys2Proof.Machine.execBaseTempWarn temp s
  | .baseTempLimit temp => Sys2Proof.Machine.execBaseTempLimit temp s
  | .logicTempHot temp => Sys2Proof.Machine.execLogicTempHot temp s
  | .laneBootDone ok => Sys2Proof.Machine.execLaneBootDone ok s
  | .storeCheckDone r => Sys2Proof.Machine.execStoreCheckDone r s
  | .storeCheckTimeout => Sys2Proof.Machine.execStoreCheckTimeout s
  | .contactDarkTestEnd readClosed => Sys2Proof.Machine.execContactDarkTestEnd readClosed s
  | .startStep7 => Sys2Proof.Machine.execStartStep7 s
  | .trialConfirmation => Sys2Proof.Machine.execTrialConfirmation s
  | .laneRestartDone lane => Sys2Proof.Machine.execLaneRestartDone lane s
  | .grazeItemRun item inst pass => Sys2Proof.Machine.execGrazeItemRun item inst pass s
  | .grazeStoTestStep a checkOk => Sys2Proof.Machine.execGrazeStoTestStep a checkOk s
  | .grazeOverdue item => Sys2Proof.Machine.execGrazeOverdue item s
  | .encoderSupplyRetry d => Sys2Proof.Machine.execEncoderSupplyRetry d s
  | .storeMonitorFault => Sys2Proof.Machine.execStoreMonitorFault s
  | .parkRecordTimeout a => Sys2Proof.Machine.execParkRecordTimeout a s
  | .baseLimitCleared temp => Sys2Proof.Machine.execBaseLimitCleared temp s
  | .otWarnCleared a temp => Sys2Proof.Machine.execOtWarnCleared a temp s

end Sys2Proof.Machine
end

