-- ==== Sys2Proof/Safety.lean ====
section
/-! DEFINITION. What the claims mean by a safe condition of the block, by a completed command and by an accepted request. -/

namespace Sys2Proof.Machine

/-- Both switches of a safe output pair are commanded open. -/
def SafeOut.isOpen (o : SafeOut) : Prop := o.hsCmd = false ∧ o.lsCmd = false

/-- While the module safe state stands, both switches of all four safe output pairs are commanded open (R26). -/
def OutputsGated (s : State) : Prop :=
  s.saf.lanes.safe = true → ∀ o : Nat, o < 4 → (s.out o).isOpen

/-- The command completes, and its effect on the state is t: `exec` answers the next state t, with the queue as it was and
the safe outputs open where the module safe state stands. -/
def Answers (c : Instr) (s t : State) : Prop := exec c s = .next (settle s.pending t)

/-- A request has passed every check that comes before its own rules (R290 steps 10 to 12, R406), in the state in which it
is handled: its session is kept alive by it (R296). -/
def Ready (s : State) (op : Nat) (q : Req) : Prop :=
  s.lit = true ∧ listens s = true ∧ gate (touch q.session s) op q = none

/-- A request is answered: the command completes with the reply of status, detail and payload o sent from the state t, under
the seal that the session of the request has when the request is handled (R294). -/
def Replies (c : Instr) (op : Nat) (q : Req) (o : Outcome) (s t : State) : Prop :=
  Answers c s (afterReply (replyWith (replySeal (touch q.session s) op q) op q o false t))

/-- The request by which a row of one register reaches PARAM_WRITE. -/
def regReq (p : Par) (w : RegWrite) : Req := { w.req with payload := onePayload p w.value }

/-- The row is the PARAM_WRITE of one entry, and an accepted one takes the parameter's value as its rule says (R300, R323). -/
def WritesRegister (c : Instr) (p : Par) (w : RegWrite) : Prop :=
  ∀ s : State,
    let q := regReq p w
    let s0 := touch q.session s
    let v := readValue p (toWord 32 w.value)
    let st := writeCheck s0 (writerOf s0 q) p v
    Ready s opParamWrite q → st.1.good = true →
      Replies c opParamWrite q ⟨(headStatus [st]).1, (headStatus [st]).2, entryBytes [(p.key, toWord 32 w.value)] [st]⟩ s
        (writeDo (writerOf s0 q) p v s0)

/-- The row is the last packet of a block write, and an accepted block is taken whole (R301). -/
def WritesBlock (c : Instr) (b : Blk) (q : Req) (data : Bytes) : Prop :=
  ∀ s : State,
    let r := { q with payload := le 4 b.key ++ le 4 0 ++ le 4 data.length ++ le 2 data.length ++ [0, 0] ++ data }
    let s0 := touch q.session s
    Ready s opBlockWrite r → blockRefuses s0 (writerOf s0 q) b q.more = none → data.length = blockSize s0 b →
      blockOk s0 b data = true → blockState s0 b data = none →
      Replies c opBlockWrite r ⟨(blockDo b data s0).2, 0, []⟩ s (blockDo b data s0).1

/-- From s to t source e has been raised exactly once and nothing else has (R458). -/
def RaisedOnce (e : Nat) (s t : State) : Prop :=
  t.ev.raiseSeq = wrap32 (s.ev.raiseSeq + 1) ∧ vget t.ev.sticky e false = true ∧ get t.ev.lastRaise e = some t.ev.raiseSeq

end Sys2Proof.Machine
end

