-- ==== Sys2Proof/Certificates/Slice0/Obligations.lean ====
section
/-! DEFINITION. The statements about this model: what a step is, what every command does from a state that meets its
conditions, what the groups of commands leave alone, and the rules of the spec that hold over all states. -/

open Sys2Proof Sys2Proof.Machine

/-! ## The machine -/

/-- A step takes the waiting command in front and answers what it does with the rest still waiting. -/
def Obligations.StepRunsTheFrontCommand : Prop :=
  ∀ (c : Instr) (rest : List Instr) (s : State), s.pending = c :: rest → step s = exec c { s with pending := rest }

/-- With no command waiting a step changes nothing (log entry 3, the model's choice). -/
def Obligations.StepIdlesOnAnEmptyQueue : Prop := ∀ s : State, s.pending = [] → step s = .next s

/-- Every command completes in every state, and leaves the queue of waiting commands as it finds it. -/
def Obligations.EveryCommandKeepsTheQueue : Prop :=
  ∀ (c : Instr) (s : State), ∃ t, exec c s = .next t ∧ t.pending = s.pending

/-- Every step keeps the safe outputs open while the module safe state stands (R26). -/
def Obligations.StepKeepsTheOutputsGated : Prop :=
  ∀ s t : State, OutputsGated s → step s = .next t → OutputsGated t

/-- The state after reset has its safe outputs open: nothing conducts from the first step of a full start (R404). -/
def Obligations.ResetHasTheOutputsOpen : Prop :=
  OutputsGated State.reset ∧ (∀ o : Nat, o < 4 → (State.reset.out o).isOpen) ∧ State.reset.boot.step = 1
    ∧ State.reset.kcp.sessions = [] ∧ State.reset.logic.state = .stop ∧ (∀ n : Nat, n < 112 → (State.reset.pin n).on = false)

/-- A module without LOGIC supply or in SLEEP does nothing on a command other than the supply's, WAKE's and a contact's. -/
def Obligations.UnlitModuleDoesNothing : Prop :=
  ∀ (c : Instr) (s : State), s.lit = false →
    (match c with
     | .powerOn | .wake | .logicInterruption | .logicBridged _ | .powerFailWarning | .holdupRelease | .lowLogic _
     | .safeContactChange _ _ _ _ => True
     | _ => Answers c s s)

/-- R11: a key that names a scalar or a block is 32 bits wide and holds its group in bits 31 to 24, its instance in bits 23 to
16 and its index in bits 15 to 0, nothing dropped: the key of what it names is the key itself. What has no instances uses
instance 0. 0x02050104 is group AX, axis 5, index 0x0104. -/
def Obligations.KeysNameWhatTheySay : Prop :=
  (∀ (k : Nat) (p : Par), keyOf k = some (.scalar p) →
    k < 2 ^ 32 ∧ p.group = k / 2 ^ 24 ∧ p.inst = k / 2 ^ 16 % 256 ∧ p.idx = k % 2 ^ 16 ∧ p.key = k
      ∧ (p.group = 1 ∨ 7 ≤ p.group → p.inst = 0)) ∧
  (∀ (k : Nat) (b : Blk), keyOf k = some (.block b) →
    k < 2 ^ 32 ∧ b.group = k / 2 ^ 24 ∧ b.inst = k / 2 ^ 16 % 256 ∧ b.idx = k % 2 ^ 16 ∧ b.key = k) ∧
  (∃ x, keyOf 0x02050104 = some (.scalar (.ax 5 x)) ∧ x.idx = 0x0104)

/-! ## Commands of the host -/

/-- HELLO, LOGIN, LOGOUT, KEEPALIVE and the end of a session or of a lockout (R293, R296, R297); the reply of another member
is relayed to the host, and a member that does not answer in 20 ms is BUSY_RETRY (R315). -/
def Obligations.SessionCommandsComplete : Prop :=
  (∀ (q : Req) (s : State),
    let s0 := touch q.session s
    let n := le 8 (Config.nonce s0.fresh)
    let s1 : State := { s0 with fresh := s0.fresh + 1, kcp := { s0.kcp with
      nonces := (n, s0.us + 10000000) :: s0.kcp.nonces.filter fun x => s0.us < x.2 } }
    Ready s opHello q → Replies (.hello q) opHello q (.ok (helloBytes s1 n)) s s1) ∧
  (∀ (q : Req) (s : State),
    let s0 := touch q.session s
    let role := rd q.payload 0 1
    let s1 := useNonce ((q.payload.drop 4).take 8) s0
    let x : Session := { id := newId s1, role := role, port := q.port, src := q.src, key := (vget s1.net.keys role none).getD [],
                         nonce := (q.payload.drop 4).take 16, h := q.seq, seen := [], cache := [],
                         aliveUntil := s1.us + 1000000 * s1.netN .kcpKeepaliveS }
    Ready s opLogin q → loginRefuses s0 q.src q.payload = none → (role = 3 → keyTurned s1 = true) →
      s1.kcp.sessions.length < 8 → (role = 3 → ∀ y ∈ s1.kcp.sessions, y.role ≠ 3) →
      Replies (.login q) opLogin q (.ok (le 4 x.id ++ le 2 (s1.netN .kcpKeepaliveS) ++ [0, 0])) s
        { s1 with fresh := s1.fresh + 1, kcp := { s1.kcp with sessions := s1.kcp.sessions ++ [x] } }) ∧
  (∀ (q : Req) (s : State), Ready s opLogout q →
    let s0 := touch q.session s
    Answers (.logout q) s (endSessions (fun x => x.id = q.session)
      (afterReply (replyWith (replySeal s0 opLogout q) opLogout q (.ok []) false s0)))) ∧
  (∀ (q : Req) (s : State), Ready s opKeepalive q →
    Replies (.keepalive q) opKeepalive q (.ok []) s (touch q.session s)) ∧
  (∀ (id : Nat) (x : Session) (s : State), s.lit = true → s.kcp.sessions.find? (fun y => y.id = id) = some x →
    Answers (.sessionKeepaliveExpiry id) s (endSession x (forwardTo (some x.aliveUntil) s))) ∧
  (∀ (src until_ : Nat) (s : State), s.lit = true → get s.kcp.lockouts src = some until_ →
    let s1 := forwardTo (some until_) s
    Answers (.loginLockoutEnd src) s { s1 with kcp := { s1.kcp with lockouts := drop_ s1.kcp.lockouts src } }) ∧
  (∀ (m seq st d : Nat) (more : Bool) (b : Bytes) (x : Nat × Nat × Req × Nat × Nat) (s : State), s.lit = true →
    forwardOf s m seq = some x →
    Answers (.kcpForwardReply m seq st d ⟨more, b⟩) s (emit (replyOf x.2.2.2.1 x.2.2.1 st d more b) (dropForward x s))) ∧
  (∀ (m seq : Nat) (x : Nat × Nat × Req × Nat × Nat) (s : State), s.lit = true → forwardOf s m seq = some x →
    let s1 := dropForward x (forwardTo (some (x.2.2.2.2 + 20000)) s)
    Answers (.kcpForwardTimeout m seq) s (emit (replyOf x.2.2.2.1 x.2.2.1 Status.busyRetry.code 8 false []) s1)) ∧
  (∀ (r : Reply) (s : State),
    (emit r s).kcp.outbox = s.kcp.outbox ++ [{ r with wires := replyWires s r }] ∧ (emit r s).ax = s.ax ∧ (emit r s).dw = s.dw ∧
    (emit r s).saf = s.saf ∧ (emit r s).kcp.sessions = s.kcp.sessions)

/-- PARAM_READ, PARAM_WRITE, BLOCK_READ and BLOCK_WRITE with a count and a length that fit (R300, R301). -/
def Obligations.ParameterCommandsComplete : Prop :=
  (∀ (q : Req) (s : State), let s0 := touch q.session s
    Ready s opParamRead q → countBad q.payload = false →
      Replies (.paramRead q) opParamRead q (paramReadOp s0 (writerOf s0 q) q.payload) s s0) ∧
  (∀ (q : Req) (s : State), let s0 := touch q.session s
    let r := paramWriteOp (writerOf s0 q) q.payload s0
    Ready s opParamWrite q → countBad q.payload = false → Replies (.paramWrite q) opParamWrite q r.2 s r.1) ∧
  (∀ (q : Req) (s : State), let s0 := touch q.session s
    let r := blockReadOp (writerOf s0 q) q.payload s0
    Ready s opBlockRead q →
      Answers (.blockRead q) s (afterReply (replyWith (replySeal s0 opBlockRead q) opBlockRead q r.2.1 r.2.2 r.1))) ∧
  (∀ (q : Req) (s : State), let s0 := touch q.session s
    let r := blockWriteOp (writerOf s0 q) q.more q.payload s0
    Ready s opBlockWrite q → Replies (.blockWrite q) opBlockWrite q r.2 s r.1)

/-- The rows of one register: each is the PARAM_WRITE of that register, and an accepted write takes the value as the
register's own rule says (R164, R403, R399, R352, R121, R205, R243, R231, R238, R472, R356, R372, R253, R144, R446). -/
def Obligations.RegisterRowsWriteTheirRegister : Prop :=
  ∀ (w : RegWrite),
    (∀ d : Fin 8, WritesRegister (.teach d w) (.dw d.val .teach) w) ∧
    WritesRegister (.restart w) (.mod .restart) w ∧
    WritesRegister (.recheck w) (.jrn .recheck) w ∧
    WritesRegister (.cntClear w) (.net .cntClear) w ∧
    (∀ a : Fin 24, WritesRegister (.stageFaultClear a w) (.ax a.val .stageFault) w) ∧
    (∀ o : Fin 4, WritesRegister (.soStatusClear o w) (.saf (.soStatus o.val)) w) ∧
    (∀ n : Fin 112, WritesRegister (.ioStatusClear n w) (.io n.val .status) w) ∧
    (∀ n : Fin 112, WritesRegister (.ioModeWrite n w) (.io n.val .mode) w) ∧
    (∀ n : Fin 112, WritesRegister (.ioOutWrite n w) (.io n.val .out) w) ∧
    WritesRegister (.grazeFastWrite w) (.mod .grazeFast) w ∧
    (∀ r : HerdReg, WritesRegister (.herdConfigWrite r w) (herdPar r) w) ∧
    WritesRegister (.herdEligibleWrite w) (.herd .eligible) w ∧
    (∀ r : NetReg, WritesRegister (.netPortWrite r w) (netPar r) w) ∧
    (∀ f : Fin 16, WritesRegister (.fsEnableWrite f w) (.fs f.val .enable) w) ∧
    (∀ (a : Fin 24) (l : Fin 2), WritesRegister (.latchCfgWrite a l w) (.ax a.val (.latchCfg l.val)) w) ∧
    (∀ q : Req, WritesRegister (.powerModeRun q) (.mod .powerMode) ⟨q, 0⟩) ∧
    (∀ q : Req, WritesRegister (.powerModeStandby q) (.mod .powerMode) ⟨q, 1⟩) ∧
    (∀ q : Req, WritesRegister (.powerModeSleep q) (.mod .powerMode) ⟨q, 2⟩)

/-- The rows of one block: each is the last packet of its block's write, and an accepted block is taken whole (R146, R55, R91,
R104, R298). -/
def Obligations.BlockRowsWriteTheirBlock : Prop :=
  ∀ (q : Req) (data : Bytes),
    (∀ (a : Fin 24) (u : Fin 4), WritesBlock (.cmpWrite a u q data) (.cmp a.val u.val) q data) ∧
    (∀ a : Fin 24, WritesBlock (.lcTableWrite a q data) (.lcTable a.val) q data) ∧
    (∀ t : Fin 8, WritesBlock (.camWrite t q data) (.cam t.val) q data) ∧
    (∀ t : Fin 4, WritesBlock (.sineWrite t q data) (.sine t.val) q data) ∧
    (∀ r : Fin 4, r.val ≠ 0 → WritesBlock (.keyWrite r q data) (.roleKey r.val) q data)

/-- SAF_VERIFY waits for its image, SAF_VERIFY_DONE answers with it, an accepted SAF_COMMIT waits for the next exchange of the
lanes, which takes its values and answers it, and REVERT of each kind returns what it names (R227, R229, R291, R302, R329). -/
def Obligations.SafetyConfigurationCommandsComplete : Prop :=
  (∀ (q : Req) (s : State), let s0 := touch q.session s
    Ready s opSafVerify q → (s0.kcp.progress.any fun e => e.1 = opSafVerify) = false → keyTurned s0 = true →
      Answers (.safVerify q) s { s0 with kcp := { s0.kcp with progress := s0.kcp.progress ++ [(opSafVerify, q)] } }) ∧
  (∀ (q : Req) (s : State), s.lit = true → inProgress s opSafVerify = some q → (sessionOf s q.session).isSome = true →
    verifyRefuses s = none →
      Answers .safVerifyDone s (reply opSafVerify q (.ok (verifyDo q.session s).2) false (verifyDo q.session s).1)) ∧
  (∀ (q : Req) (s : State), let s0 := touch q.session s
    Ready s opSafCommit q → commitRefuses s0 q.session (rd q.payload 0 4) = none →
      Answers (.safCommit q) s { s0 with
        safShadow := []
        saf := { s0.saf with commit := some (q, s0.safShadow), verified := none, shadowOwner := none, shadowC := [] }
        kcp := { s0.kcp with progress := s0.kcp.progress ++ [(opSafCommit, q)] } }) ∧
  (∀ (q : Req) (vals : List (Nat × Int)) (s : State), s.saf.commit = some (q, vals) → s.boot.power = .on →
    laneUp s .ibex = true → laneUp s .chamois = true →
    let s1 := crossLaneExchange s
    let s2 := commitDo vals { s1 with saf := { s1.saf with commit := none } }
    (sessionOf s2 q.session).isSome = true → Answers .crossLaneExchange s
      (reply opSafCommit q (.ok (le 4 s2.saf.commitCount ++ le 4 s2.saf.configCrc)) false s2)) ∧
  (∀ (q : Req) (s : State), let r := { q with payload := 0#8 :: q.payload.drop 1 }
    let s0 := touch q.session s
    let k := tKind q.target
    Ready s opRevert r →
      Replies (.revertOwnerShadow q) opRevert r (.ok []) s
        (revertOwner (if k = 0 then 1 else if k = 1 then 3 else 2) (tIndex q.target) s0)) ∧
  (∀ (q : Req) (s : State), let r := { q with payload := 1#8 :: q.payload.drop 1 }
    Ready s opRevert r → tKind q.target = 0 →
      Replies (.revertAllShadows q) opRevert r (.ok []) s (revertAll (touch q.session s))) ∧
  (∀ (q : Req) (s : State), let r := { q with payload := 2#8 :: q.payload.drop 1 }
    Ready s opRevert r → tKind q.target = 0 →
      Replies (.revertSafetyShadow q) opRevert r (.ok []) s (revertSafety (touch q.session s))) ∧
  (∀ (q : Req) (s : State), let r := { q with payload := 3#8 :: q.payload.drop 1 }
    let s0 := touch q.session s
    Ready s opRevert r → tKind q.target = 0 → s0.effMode = .maintenance → (rd r.payload 1 1 = 1 ∨ rd r.payload 1 1 = 2) →
      storeFailed s0 = false →
      Replies (.revertDefaultSet q) opRevert r (.ok []) s (revertDefaults (writerOf s0 r) (rd r.payload 1 1) s0))

/-- EVENT_POLL shows the vectors, EVENT_ACK clears what it names and no later raise, EVENT_INJECT raises the source as
injected (R303, R304, R461, R462). -/
def Obligations.EventCommandsComplete : Prop :=
  (∀ (q : Req) (s : State), let s0 := touch q.session s
    Ready s opEventPoll q → Replies (.eventPoll q) opEventPoll q (.ok (pollBytes s0)) s s0) ∧
  (∀ (q : Req) (s : State), let s0 := touch q.session s
    let r := rd q.payload 0 4
    let pm := (q.payload.drop 8).take 32
    let sm := (q.payload.drop 40).take 32
    Ready s opEventAck q → ackTooNew s0 r = false →
      Replies (.eventAck q) opEventAck q (.ok (bitBytes (ackKept s0 r pm sm))) s (ackEvents r pm sm s0)) ∧
  (∀ (q : Req) (s : State), let s0 := touch q.session s
    Ready s opEventInject q → injectCase s0 (tIndex q.target) = 0 →
      Replies (.eventInject q) opEventInject q (.ok []) s (injectEvent (tIndex q.target) (rd q.payload 0 4) s0)) ∧
  (∀ (e origin detail : Nat) (inj : Bool) (s : State), e < 256 → sourceOn s e = true →
    let t := raiseBy e origin detail inj s
    vget t.ev.sticky e false = true ∧ vget t.ev.injVec e (!inj) = inj ∧ t.ev.raiseSeq = wrap32 (s.ev.raiseSeq + 1)
      ∧ (bit (s.evN e .cfg) 15 = true → vget t.ev.pending e false = true)
      ∧ (bit (s.evN e .cfg) 15 = false → t.ev.pending = s.ev.pending))

/-- Door requests of the host wait for the next sequencer pass in their order; the pass takes them, each by its doorway's
rules, and answers each after it; DOOR_STATUS answers at once (R31, R40, R42, R291, R305). -/
def Obligations.DoorCommandsComplete : Prop :=
  (∀ (q : Req) (s : State), let s0 := touch q.session s
    (Ready s opOpen q → Answers (.openRequest q) s { s0 with reqs := s0.reqs ++ [⟨.kcp opOpen q, .open_, tIndex q.target⟩] }) ∧
    (Ready s opClose q → Answers (.closeRequest q) s { s0 with reqs := s0.reqs ++ [⟨.kcp opClose q, .close, tIndex q.target⟩] }) ∧
    (Ready s opHold q → Answers (.holdOpen q) s { s0 with reqs := s0.reqs ++ [⟨.kcp opHold q, .hold, tIndex q.target⟩] }) ∧
    (Ready s opIsolate q → Answers (.isolate q) s { s0 with reqs := s0.reqs ++ [⟨.kcp opIsolate q, .isolate, tIndex q.target⟩] }) ∧
    (Ready s opDeisolate q →
      Answers (.deisolate q) s { s0 with reqs := s0.reqs ++ [⟨.kcp opDeisolate q, .deisolate, tIndex q.target⟩] }) ∧
    (Ready s opDoorStatus q → tKind q.target = 1 →
      Replies (.doorStatus q) opDoorStatus q (.ok (doorEntry s0 (tIndex q.target))) s s0) ∧
    (Ready s opDoorStatus q → tKind q.target = 0 →
      Replies (.doorStatus q) opDoorStatus q (.ok ((List.range 8).flatMap fun d => doorEntry s0 d)) s s0)) ∧
  (∀ s : State, s.lit = true → sequencerRuns s = true →
    (∀ r ∈ s.reqs, ∀ op q, r.src = .kcp op q → q.session = 0 ∨ (sessionOf s q.session).isSome = true) →
    let p := (List.range 8).foldl passDoor ⟨grazeStepBack (actDetections { s with reqs := [] }), [], []⟩
    let p := (s.reqs.filter fun r => !isPlan r).foldl takeRequest ((s.reqs.filter isPlan).foldl takeRequest p)
    let noted := p.done.foldl (fun s r => match r.1.src with | .plan i => noteInst i r.2 s | _ => s) p.s
    Answers .sequencerPass s (p.done.foldl (fun s r => answerDoor r s) (stagger noted))) ∧
  (∀ (p : Pass) (src : DoorSrc) (op : DoorOp) (d : Nat), op ∈ [.open_, .close, .hold, .isolate, .deisolate] →
    (∀ t ∈ p.taken, t.1 ≠ d) →
    let r := takeRequest p ⟨src, op, d⟩
    r.s = (doorRequest src op d p.s).1 ∧ r.done = p.done ++ [(⟨src, op, d⟩, (doorRequest src op d p.s).2)])

/-- What a door request does on the state it finds, by the transitions of R42: an open request of a RELEASED doorway unlocks it, a
close request of an OPEN_DWELL gives the warning, HOLD_OPEN suspends the dwell, DEISOLATE locks or holds by proof. -/
def Obligations.DoorRequestsFollowTheTable : Prop :=
  (∀ (src : DoorSrc) (d : Nat) (s : State),
    (s.effMode = .wash → doorRequest src .open_ d s = (s, .modeForbids)) ∧
    (s.effMode ≠ .wash → (s.door d).released = false → doorRequest src .open_ d s = (s, .doorwayStateForbids)) ∧
    (s.effMode ≠ .wash → (s.door d).released = true →
      ((s.door d).leaf = .released → (s.door d).heldOpen = false → grazeOn s d = false →
        doorRequest src .open_ d s = (enterUnlocking d true s, .ok)) ∧
      ((s.door d).leaf = .openDwell → doorRequest src .open_ d s = (restartDwell d s, .ok)) ∧
      ((s.door d).leaf = .closing → s.dwp d .reopenOnReq ≠ 1 → doorRequest src .open_ d s = (s, .doorwayStateForbids)) ∧
      ((s.door d).leaf = .closedNotLocked → doorRequest src .open_ d s = (enterUnlocking d false s, .ok)))) ∧
  (∀ (src : DoorSrc) (d : Nat) (s : State), (s.door d).leaf = .openDwell →
    doorRequest src .close d s = (enterWarning d s, .ok)) ∧
  (∀ (src : DoorSrc) (d : Nat) (s : State), (s.door d).leaf = .closedNotLocked →
    doorRequest src .close d s = (enterLocking d (s.modDoor d fun x => { x with redrives := 0 }), .ok)) ∧
  (∀ (src : DoorSrc) (d : Nat) (s : State), (s.door d).leaf = .faultHold → doorRequest src .close d s = (recover d s, .ok)) ∧
  (∀ (op : Nat) (q : Req) (d : Nat) (s : State), s.effMode ≠ .wash → (s.door d).released = true → (s.door d).leaf = .openDwell →
    doorRequest (.kcp op q) .hold d s = (suspendDwell d (fun x => { x with byKcp := true }) s, .ok)) ∧
  (∀ (src : DoorSrc) (d : Nat) (s : State), (s.door d).leaf = .isolated →
    let s1 := setIsolated d false s
    (provenBoth s1 d = true → doorRequest src .deisolate d s = (enterLocked d s1, .ok)) ∧
    (provenBoth s1 d = false → doorRequest src .deisolate d s = (enterFault d s1, .ok))) ∧
  (∀ (src : DoorSrc) (d : Nat) (s : State), (s.door d).leaf ≠ .isolated →
    doorRequest src .deisolate d s = (s, .doorwayStateForbids)) ∧
  (∀ (op : Nat) (q : Req) (d : Nat) (s : State), (s.door d).leaf ≠ .openDwell → (s.door d).leaf ≠ .closeWarning →
    s.effMode ≠ .wash → doorRequest (.kcp op q) .hold d s = (s, .doorwayStateForbids))

/-- The motion commands of the host, whose payload has a meaning, wait for the next sequencer pass in their order; the pass
takes each on the state it finds, unless it conflicts with what the pass has accepted, and answers it with the entry of its
axis; a stop reaches the axis of its target or the moving axes of the doorway, a drive command the axis the host may drive; and a
jog that is not renewed ends (R31, R96, R98, R111, R114, R151, R306, R307). -/
def Obligations.MotionCommandsComplete : Prop :=
  (∀ (q : Req) (s : State), let s0 := touch q.session s
    let queued (op : Nat) (k : DoorOp) : State := { s0 with reqs := s0.reqs ++ [⟨.kcp op q, k, doorOfTarget q⟩] }
    (Ready s opMoveAbs q → moveShapeOk q = true → Answers (.moveAbs q) s (queued opMoveAbs .moveAbs)) ∧
    (Ready s opMoveRel q → moveShapeOk q = true → Answers (.moveRel q) s (queued opMoveRel .moveRel)) ∧
    (Ready s opStop q → Answers (.stop q) s (queued opStop .stop)) ∧
    (Ready s opQuickStop q → Answers (.quickStop q) s (queued opQuickStop .quickStop)) ∧
    (Ready s opHome q → Answers (.home q) s (queued opHome .home)) ∧
    (Ready s opJog q → Answers (.jog q) s (queued opJog .jog)) ∧
    (Ready s opPark q → Answers (.park q) s (queued opPark .park)) ∧
    (Ready s opEnable q → Answers (.enable q) s (queued opEnable .enable)) ∧
    (Ready s opDisable q → Answers (.disable q) s (queued opDisable .disable))) ∧
  (∀ (p : Pass) (op : Nat) (q : Req) (k : DoorOp) (d : Nat), isMotion k = true →
    (∀ t ∈ p.taken, t.1 = d → conflicts t.2.1 k = false) →
    let r := takeRequest p ⟨.kcp op q, k, d⟩
    r.s = (motionRequest k q p.s).1 ∧ r.done = p.done ++ [(⟨.kcp op q, k, d⟩, (motionRequest k q p.s).2)]) ∧
  (∀ (p : Pass) (op : Nat) (q : Req) (k : DoorOp) (d : Nat), isMotion k = true →
    (∃ t ∈ p.taken, t.1 = d ∧ conflicts t.2.1 k = true) →
    let r := takeRequest p ⟨.kcp op q, k, d⟩
    r.s = p.s ∧ r.done = p.done ++ [(⟨.kcp op q, k, d⟩, .doorwayStateForbids)]) ∧
  (∀ (op : Nat) (q : Req) (k : DoorOp) (d : Nat) (st : Status) (s : State), isMotion k = true →
    (q.session = 0 ∨ (sessionOf s q.session).isSome = true) →
    answerDoor (⟨.kcp op q, k, d⟩, st) s = reply op q ⟨st, 0, motionEntry s (replyAxis s k q)⟩ false s) ∧
  (∀ (q : Req) (s : State),
    let a := tIndex q.target
    (tKind q.target = 2 → motionRequest .stop q s = (hostStop [a] .own s, .ok) ∧
      motionRequest .quickStop q s = (hostStop [a] .quick s, .ok)) ∧
    (let l := (s.axesOf a).filter fun b => moving s b
     tKind q.target ≠ 2 → l ≠ [] → motionRequest .stop q s = (hostStop l .own s, .ok) ∧
      motionRequest .quickStop q s = (hostStop l .quick s, .ok)) ∧
    (driveGate s a = none → motionRequest .park q s = reqPark a s ∧ motionRequest .disable q s = reqDisable a s ∧
      (s.sup.precharged = true ∨ (s.axis a).drive.energised = true → motionRequest .enable q s = reqEnable a s)) ∧
    (∀ st, driveGate s a = some st → motionRequest .park q s = (s, st) ∧ motionRequest .enable q s = (s, st) ∧
      motionRequest .disable q s = (s, st))) ∧
  (∀ (a : Fin 24) (j : Nat × Nat × Bytes) (s : State), s.lit = true → (s.axis a.val).jog = some j →
    Answers (.jogRefreshTimeout a) s (endJog a.val (forwardTo (some j.2.1) s)))

/-- Plan load and exchange, the logic's states, and forcing (R265, R275, R278, R281, R308). -/
def Obligations.LogicCommandsComplete : Prop :=
  (∀ (q : Req) (s : State), let s0 := touch q.session s
    let b := q.payload
    let len := rd b 8 2
    Ready s opPlanLoad q → (s0.kcp.transfers.any fun t => t.key = planKey && t.session ≠ q.session) = false →
    inProgress s0 opPlanLoad = none → 1 ≤ len → len ≤ 1400 →
      ∀ s1 all, stage q.session planKey (rd b 4 4) (rd b 0 4) q.more (b.drop 12) s0 = (s1, some all) →
        (all = none → Replies (.planLoad q) opPlanLoad q ⟨.okQueued, 0, []⟩ s s1) ∧
        (∀ d, all = some d →
          Answers (.planLoad q) s { s1 with kcp := { s1.kcp with
            transfers := ⟨q.session, planKey, rd b 4 4, d⟩ :: s1.kcp.transfers
            progress := s1.kcp.progress ++ [(opPlanLoad, q)] } })) ∧
  (∀ (q : Req) (t : Transfer) (s : State), s.lit = true → inProgress s opPlanLoad = some q →
    (sessionOf s q.session).isSome = true → transferOf s q.session planKey = some t → t.data.length = t.total →
      let r := planChecked t.data (dropTransfer q.session planKey s)
      Answers .planLoadCheckDone s (reply opPlanLoad q r.2 false r.1)) ∧
  (∀ (q : Req) (s : State), let s0 := touch q.session s
    (Ready s opPlanExchange q → storeFailed s0 = false →
      Replies (.planExchange q) opPlanExchange q (planExchange q.session s0).2 s (planExchange q.session s0).1) ∧
    (Ready s opLogicRun q → s0.sup.powerMode = 0 →
      Replies (.logicRunWarm q) opLogicRun q (logicRun true s0).2 s (logicRun true s0).1 ∧
      Replies (.logicRunCold q) opLogicRun q (logicRun false s0).2 s (logicRun false s0).1) ∧
    (Ready s opLogicStop q → Replies (.logicStop q) opLogicStop q (.ok []) s (stopLogic 0 s0)) ∧
    (Ready s opLogicHold q → Replies (.logicHold q) opLogicHold q (logicHold s0).2 s (logicHold s0).1) ∧
    (Ready s opLogicStep q →
      Replies (.logicStep q) opLogicStep q (logicStep (tIndex q.target) s0).2 s (logicStep (tIndex q.target) s0).1) ∧
    (Ready s opVarRead q → countBad q.payload = false →
      Replies (.varRead q) opVarRead q
        (.ok (le 2 (rd q.payload 0 2) ++ [0, 0] ++ (List.range (rd q.payload 0 2)).flatMap fun i =>
          varEntry s0 (rd q.payload (4 + 8 * i) 4) (rd q.payload (8 + 8 * i) 1))) s s0) ∧
    (Ready s opVarForce q →
      let f := varForce (rd q.payload 0 4) (rd q.payload 4 1) true (BitVec.ofNat 32 (rd q.payload 8 4)) s0
      let r := varForce (rd q.payload 0 4) (rd q.payload 4 1) false (BitVec.ofNat 32 (rd q.payload 8 4)) s0
      Replies (.varForce q) opVarForce q f.2 s f.1 ∧ Replies (.varForceRelease q) opVarForce q r.2 s r.1)) ∧
  (∀ s : State, s.logic.state = .stop → s.logic.active.isSome = true → logicRun false s = (startLogic false s, .ok [])) ∧
  (∀ s : State, s.logic.state = .run → s.logic.running = [] →
    logicHold s = ({ s with logic := { s.logic with state := .hold } }, .ok []))

/-- Reading and sealing the journal, and the force stream (R309, R310, R393, R394). -/
def Obligations.JournalCommandsComplete : Prop :=
  (∀ (q : Req) (s : State), let s0 := touch q.session s
    (Ready s opJrnRead q → Replies (.jrnRead q) opJrnRead q (jrnReadOp q.payload s0) s s0) ∧
    (Ready s opJrnStats q → Replies (.jrnStats q) opJrnStats q (.ok (statsBytes s0)) s s0) ∧
    (Ready s opJrnSeal q → regFailed s0 3 = false →
      let s1 := sealJournal (rd q.payload 0 4) s0
      Replies (.jrnSeal q) opJrnSeal q (.ok (le 8 s1.jrn.lastSeal)) s s1)) ∧
  (∀ (q : Req) (s : State), let s0 := touch q.session s
    let b := q.payload
    Ready s opJrnStream q → streamBad b = false → (∀ t, s0.kcp.stream = some t → t.session = q.session) →
      Answers (.jrnStreamOpen q) s { s0 with kcp := { s0.kcp with
        waiting := dropReq opJrnStream q s0.kcp.waiting
        stream := some { session := q.session, req := q, op := opJrnStream, mask := rd b 4 4, decim := rd b 1 1,
                         credit := rd b 8 4, seq := 0, lost := 0, baseS := 0, baseNs := 0, samples := [], ticks := 0 } } }) ∧
  (∀ (q : Req) (t : Stream) (s : State), let s0 := touch q.session s
    Ready s opJrnStream q → s0.kcp.stream = some t → t.session = q.session → 1 ≤ rd q.payload 8 4 → rd q.payload 8 4 ≤ 65535 →
      Answers (.jrnStreamCredit q) s { s0 with kcp := { s0.kcp with
        waiting := dropReq opJrnStream q s0.kcp.waiting, stream := some { t with req := q, credit := rd q.payload 8 4 } } }) ∧
  (∀ (q : Req) (t : Stream) (s : State), let s0 := touch q.session s
    Ready s opJrnStream q → s0.kcp.stream = some t → t.session = q.session →
      Replies (.jrnStreamClose q) opJrnStream q (.ok []) s { s0 with kcp := { s0.kcp with stream := none } }) ∧
  (∀ (t : Stream) (s : State), s.lit = true → listens s = true → s.kcp.stream = some t → t.samples ≠ [] → t.credit ≠ 0 →
    let b := le 4 t.seq ++ le 8 t.baseS ++ le 4 t.baseNs ++ le 4 t.lost ++ t.samples.flatten
    let s1 := emit (sealed (replySeal s t.op t.req) (replyOf t.op t.req 0 0 (1 < t.credit) b)) s
    Answers .streamPacket s { s1 with kcp := { s1.kcp with
      stream := some { t with seq := wrap32 (t.seq + 1), credit := t.credit - 1, lost := 0, samples := [], ticks := 0 } } })

/-- Time, herd and Graze commands: each answers by its own rule (R311 to R313, R345, R374, R472). -/
def Obligations.TimeHerdAndGrazeCommandsComplete : Prop :=
  (∀ (q : Req) (s : State), let s0 := touch q.session s
    (Ready s opTimeStatus q → Replies (.timeStatus q) opTimeStatus q (.ok (timeStatusBytes s0)) s s0) ∧
    (Ready s opHerdStatus q → Replies (.herdStatus q) opHerdStatus q (.ok (herdStatusBytes s0)) s s0) ∧
    (Ready s opGrazeReport q → Replies (.grazeReport q) opGrazeReport q (.ok (grazeBytes s0)) s s0) ∧
    (Ready s opTimeAccept q → ∀ step when_, rd q.payload 0 1 ≤ 1 → (s0.clock (rd q.payload 0 1)).refused = some (step, when_) →
      absI (rdI q.payload 4 8 - step) ≤ 1000 →
      Replies (.timeAcceptStep q) opTimeAccept q (.ok []) s (acceptStep (rd q.payload 0 1) (2 + rd q.payload 0 1) s0)) ∧
    (Ready s opHerdPrepare q → (s0.herd.role = .master ∨ s0.herd.role = .solo) → rd q.payload 0 1 ≤ 4 →
      s0.herd.cycle + 6 ≤ rd q.payload 4 8 → s0.herd.pendMode = none →
      let e := wrap32 (max s0.herd.epoch s0.herd.lastEpoch + 1)
      Replies (.herdModePrepare q) opHerdPrepare q (.ok (le 4 e)) s { s0 with herd := { s0.herd with
        pendMode := some (Mode.ofCode (rd q.payload 0 1)), pendEpoch := e, applyAt := rd q.payload 4 8, committed := false,
        lastEpoch := e, ackEpoch := e, ackMask := 2 ^ selfM s0, decision := none } }) ∧
    (Ready s opHerdAbort q → (s0.herd.role = .master ∨ s0.herd.role = .solo) → s0.herd.pendMode.isSome = true →
      s0.herd.pendEpoch = rd q.payload 0 4 → s0.herd.committed = false → s0.herd.cycle + 5 < s0.herd.applyAt →
      Replies (.herdModeAbort q) opHerdAbort q (.ok []) s (abortMode s0)) ∧
    (Ready s opGrazeNow q → 1 ≤ rd q.payload 0 2 → rd q.payload 0 2 ≤ 12 →
      Replies (.grazeNow q) opGrazeNow q ⟨.okQueued, 0, []⟩ s { s0 with graze := { s0.graze with
        head := rd q.payload 0 2 :: s0.graze.head.filter fun x => x ≠ rd q.payload 0 2 } }) ∧
    (Ready s opGrazeNow q → rd q.payload 0 2 = 0xFFFF →
      Replies (.grazeNow q) opGrazeNow q ⟨.okQueued, 0, []⟩ s { s0 with graze := { s0.graze with
        head := ((List.range 13).filter (itemOn s0)) ++ s0.graze.head.filter fun x => !itemOn s0 x } }))

/-- Firmware: an image is begun, gathered without a gap, verified and activated (R291, R314, R422). -/
def Obligations.FirmwareCommandsComplete : Prop :=
  (∀ (q : Req) (s : State), let s0 := touch q.session s
    let n := rd q.payload 0 4
    let s1 := setBank (otherBank s0) 0 0 0 s0
    Ready s opFwBegin q → fwRefuses s0 q = none → 1 ≤ n → n ≤ 16777216 →
      let s2 : State := { s1 with boot := { s1.boot with
        fwImage := [], fwSize := some (n, q.session), fwVerified := false, fwVerifying := false
        bankImage := vset s1.boot.bankImage (otherBank s1) [] } }
      Replies (.fwBegin q) opFwBegin q (.ok (le 1 (otherBank s1) ++ zeros 3)) s s2) ∧
  (∀ (q : Req) (f : Nat × Nat) (s : State), let s0 := touch q.session s
    let b := q.payload
    let len := rd b 4 2
    let n := s0.boot.fwImage.length
    Ready s opFwChunk q → fwRefuses s0 q = none → s0.boot.fwSize = some f → s0.boot.fwVerifying = false → 1 ≤ len → len ≤ 1400 →
      rd b 0 4 = n → n + len ≤ f.1 →
      Replies (.fwChunk q) opFwChunk q (.ok (le 4 (n + len))) s
        { s0 with boot := { s0.boot with
            fwImage := s0.boot.fwImage ++ b.drop 8, fwVerified := false
            bankImage := vset s0.boot.bankImage (otherBank s0) (s0.boot.fwImage ++ b.drop 8) } }) ∧
  (∀ (q : Req) (s : State), let s0 := touch q.session s
    Ready s opFwVerify q → fwRefuses s0 q = none → inProgress s0 opFwVerify = none →
      Answers (.fwVerify q) s { s0 with boot := { s0.boot with fwVerifying := true },
                                        kcp := { s0.kcp with progress := s0.kcp.progress ++ [(opFwVerify, q)] } }) ∧
  (∀ (q : Req) (s : State), s.lit = true → inProgress s opFwVerify = some q → (sessionOf s q.session).isSome = true →
    fwCheck s = none →
      let v := Config.imageVersion s.boot.fwImage % 4294967296
      let sec := Config.imageSecVersion s.boot.fwImage % 4294967296
      let s1 := setBank (otherBank s) 1 v sec { s with boot := { s.boot with fwVerifying := false } }
      Answers .fwVerifyDone s
        (reply opFwVerify q (.ok (le 4 v ++ le 4 sec)) false { s1 with boot := { s1.boot with fwVerified := true } })) ∧
  (∀ (q : Req) (s : State), let s0 := touch q.session s
    let n := otherBank s0
    let taken (now : Nat) (pend : Option Nat) : State :=
      let s1 := archive 4 0 0 (vget s0.boot.fwVersion n 0) 988 (le 1 n ++ le 4 (vget s0.boot.secVersion n 0) ++ le 1 now) s0
      { s1 with boot := { s1.boot with bankState := vset s1.boot.bankState n 2, bootTries := 0, fwVerified := false,
                                       fwSize := none, fwImage := [], restartPending := pend } }
    Ready s opFwActivate q → s0.effMode = .maintenance → s0.boot.fwVerified = true →
      Replies (.fwActivateAtPowerUp q) opFwActivate q (.ok []) s (taken 0 s0.boot.restartPending) ∧
      (restartOk s0 = true → Replies (.fwActivateNow q) opFwActivate q (.ok []) s (taken 1 (some 2))))

/-! ## The lanes and the safe inputs and outputs -/

/-- A lane's slot evaluates its pairs, its reset pair, its demands, its stops, its on-delays and its switches; the exchange
counts disagreement; ten disagreements, two bad windows or a lockstep mismatch take the module safe state (R16, R24 to R27,
R191, R197, R420). -/
def Obligations.LaneCommandsComplete : Prop :=
  (∀ (lane : Lane) (m : SlotIn) (s : State), s.boot.power = .on → laneUp s lane = true →
    let s1 := (List.range 32).foldl (fun s p => if p = 27 then s else slotPair lane s p) (noteSlot lane s)
    let s2 := (List.range 24).foldl (slotStop lane) ((List.range 24).foldl (slotDemand lane) (slotReset lane s1))
    let s3 := (List.range 4).foldl (slotOut lane m) (slotDelays lane s2)
    let s4 := if lane = .chamois then each 24 (fun s a => s.modFb a fun b => { b with dupPrev := b.dup })
                ((List.range 24).foldl (slotCurrent m) s3) else s3
    Answers (.laneSlot lane m) s (endSafety s4)) ∧
  (∀ s : State, s.boot.power = .on → laneUp s .ibex = true → laneUp s .chamois = true → s.saf.commit = none →
    let s1 := each 24 (fun s a => s.modFb a fun b => { b with frozen := b.count, dupFrozen := b.dup }) s
    let bad := disagreements s1 fun a =>
      (((s1.axis a).fb.dupFrozen - (s.axis a).fb.dupFrozen : Int) : Rat) * umCount s1 a * 1000
    ∃ t, exec .crossLaneExchange s = .next t ∧
      t.saf.lanes.disagree = bad.map (fun q => (q, min 10 (getD s1.saf.lanes.disagree q 0 + 1))) ∧
      t.saf.lanes.goodRun = (if bad = [] then min 100 (s1.saf.lanes.goodRun + 1) else 0) ∧
      t.saf.lanes.exchangedAt = some s.us ∧ t.ax = s1.ax) ∧
  (∀ s : State, s.lit = true → (s.saf.lanes.disagree.any fun e => 10 ≤ e.2) = true →
    Answers .laneDisagreement s (takeSafeState 2 s)) ∧
  (∀ (lane : Lane) (cycles : Nat) (s : State), s.lit = true → laneUp s lane = true → windowBad lane cycles = false →
    ∃ t, exec (.laneTickWindow lane cycles) s = .next t ∧ t.saf.lanes.safe = s.saf.lanes.safe ∧
      (match lane with | .ibex => t.saf.lanes.badWindowsIbex | .chamois => t.saf.lanes.badWindowsChamois) = 0) ∧
  (∀ (lane : Lane) (s : State), s.lit = true → laneUp s lane = true →
    let was := (match lane with | .ibex => s.saf.lanes.badWindowsIbex | .chamois => s.saf.lanes.badWindowsChamois)
    (was = 0 → ∃ t, exec (.laneTickMissing lane) s = .next t ∧ t.saf.lanes.safe = s.saf.lanes.safe ∧
      (match lane with | .ibex => t.saf.lanes.badWindowsIbex | .chamois => t.saf.lanes.badWindowsChamois) = 1) ∧
    (1 ≤ was → ∃ t, exec (.laneTickMissing lane) s = .next t ∧ t.saf.lanes.safe = true)) ∧
  (∀ (lane : Lane) (cause bitNo : Nat) (c : Instr) (s : State),
    (c = .lockstepMismatch ∧ lane = .ibex ∧ cause = 5 ∧ bitNo = 4 ∨ c = .ibexWatchdog ∧ lane = .ibex ∧ cause = 6 ∧ bitNo = 3 ∨
      c = .chamoisWatchdog ∧ lane = .chamois ∧ cause = 7 ∧ bitNo = 3) →
    s.boot.power = .on → trial s = false →
    (s.saf.lanes.restartTimes.filter fun t => s.jrn.opTime ≤ t + 600000).length < 3 →
    ∃ t, exec c s = .next t ∧ t.saf.lanes.safe = true ∧ laneUp t lane = false ∧
      t.boot.laneDown = (lane, cause) :: s.boot.laneDown.filter fun x => x.1 ≠ lane)

/-- A contact's raw level changes at once, its filtered level when the raw level has held for the filter time (a closed one
only while its feed is on), a discrepancy
latches when its timer has run, and a reset held too long is stuck (R190, R191, R212). -/
def Obligations.ContactCommandsComplete : Prop :=
  (∀ (p : Fin 32) (second : Bool) (lane : Lane) (closed : Bool) (s : State),
    ∃ t, exec (.safeContactChange p second lane closed) s = .next t ∧
      ((t.pair lane p.val).contact second).raw = closed ∧
      ((t.pair lane p.val).contact second).filt = ((s.pair lane p.val).contact second).filt ∧
      (((s.pair lane p.val).contact second).raw ≠ closed → ((t.pair lane p.val).contact second).since = s.us)) ∧
  (∀ (p : Fin 32) (second : Bool) (lane : Lane) (s : State), s.lit = true →
    let c := (s.pair lane p.val).contact second
    (c.raw = true → feedOff s p.val second = true → Answers (.contactFilterExpiry p second lane) s s) ∧
    (c.raw ≠ c.filt → (c.raw = true → feedOff s p.val second = false) → ∃ t, exec (.contactFilterExpiry p second lane) s = .next t ∧ ((t.pair lane p.val).contact second).filt = c.raw ∧
      ((t.pair lane p.val).contact second).raw = c.raw ∧ c.since + 1000 * s.safN (.inFiltMs p.val) ≤ t.us)) ∧
  (∀ (p : Fin 32) (lane : Lane) (at_ : Nat) (s : State), s.lit = true → (s.pair lane p.val).timer = some at_ →
    Answers (.discrepancyExpiry p lane) s
      (latchDiscrepancy p.val lane (forwardTo (some (at_ + 1000 * s.safN (.disc p.val))) s))) ∧
  (∀ (lane : Lane) (at_ : Nat) (s : State), s.lit = true → (resetOf s lane).activeSince = some at_ →
    ∃ t, exec (.resetStuck lane) s = .next t ∧ t.saf.stuck = true)

/-- The on-delay, the switch tests and what locks a safe output off, with the closing current monitor and the end of a safe
stop (R198, R201 to R205, R208, R209). -/
def Obligations.SafeOutputCommandsComplete : Prop :=
  (∀ (lane : Lane) (since : Nat) (s : State), s.lit = true → dlSince s lane = some since → s.saf.dlReady lane = false →
    Answers (.dlOnDelayExpiry lane) s
      (setDl lane (some since) true (forwardTo (some (since + 1000 * s.safN .dlOnDelayMs)) s))) ∧
  (∀ s : State, started s = true → s.saf.lanes.safe = false → s.saf.pulse = none → s.saf.pulseAt + 1000000 ≤ s.us →
    rotationDone s = false →
    let place := lget testPlaces s.saf.testPlace (0, true)
    let x := s.out place.1
    (s.us < x.changedAt + 100000 →
      ∃ t, exec .soTestPulse s = .next t ∧ t.saf.pulse = none ∧ t.saf.pulseAt = s.us ∧ t.saf.outs = s.saf.outs) ∧
    (x.changedAt + 100000 ≤ s.us → heldOpen x place.2 = true →
      ∃ t, exec .soTestPulse s = .next t ∧ t.saf.pulse = none ∧ t.saf.testPlace = (s.saf.testPlace + 1) % 8 ∧
        t.saf.outs = s.saf.outs) ∧
    (x.changedAt + 100000 ≤ s.us → heldOpen x place.2 = false →
      ∃ t, exec .soTestPulse s = .next t ∧ t.saf.pulse = some (place.1, place.2, s.us, x.hsCmd && x.lsCmd))) ∧
  (∀ s : State, rotationDone s = true → Answers .soTestPulse s s) ∧
  (∀ (during after : Bool) (o : Nat) (high on : Bool) (at_ : Nat) (s : State), s.lit = true →
    s.saf.pulse = some (o, high, at_, on) →
    ∃ t, exec (.soTestPulseEnd during after) s = .next t ∧ t.saf.pulse = none ∧
      t.saf.testPlace = (s.saf.testPlace + 1) % 8) ∧
  (∀ (o : Fin 4) (high conducting : Bool) (s : State), s.lit = true → underTest s o.val high = false →
    (if high then (s.out o.val).hsCmd else (s.out o.val).lsCmd) ≠ conducting →
    ∃ t, exec (.soSwitchFail o high conducting) s = .next t ∧ (t.out o.val).status.getLsbD (failBit high conducting) = true) ∧
  (∀ (o : Fin 4) (mA : Nat) (s : State), s.lit = true → 2500 < mA →
    ∃ t, exec (.soOverload o mA) s = .next t ∧ (t.out o.val).status.getLsbD 8 = true ∧
      (t.out o.val).current = mA) ∧
  (∀ (o : Fin 4) (mA : Nat) (s : State), s.lit = true →
    ∃ t, exec (.soOpenLoad o mA) s = .next t ∧ (t.out o.val).current = mA ∧
      (t.out o.val).status.getLsbD 9 = ((s.out o.val).hsCmd && (s.out o.val).lsCmd && decide (mA < 5))) ∧
  (∀ (o : Fin 4) (m : BitVec 16) (s : State), s.lit = true → (s.out o.val).clearMask = some m →
    (∃ t, exec (.soClearTest o false) s = .next t ∧ (t.out o.val).clearMask = none ∧
      (t.out o.val).status = (s.out o.val).status) ∧
    ((s.out o.val).clearPassed = 0 → ∃ t, exec (.soClearTest o true) s = .next t ∧ (t.out o.val).clearPassed = 1) ∧
    ((s.out o.val).clearPassed ≠ 0 → ∃ t, exec (.soClearTest o true) s = .next t ∧ (t.out o.val).clearMask = none ∧
      (t.out o.val).status = (s.out o.val).status &&& ~~~m)) ∧
  (∀ (a : Fin 24) (s : State), s.lit = true → monitored s a.val = true → limitApplies s a.val = true →
    5 ≤ (s.axis a.val).det.iSlots → Answers (.closingCurrentTrip a) s (takeSafeState 6 s)) ∧
  (∀ (a : Fin 24) (t0 : Nat) (v0 : Rat × Rat) (s : State), s.lit = true → (s.axis a.val).safeStop = some (t0, v0) →
    let s1 := forwardTo (some (t0 + 1000 * s.safN .ssTmaxMs)) s
    (stillMoving s1 a.val = true → Answers (.safeStopTimeout a) s (stopFailed a.val .ibex s1)) ∧
    (stillMoving s1 a.val = false →
      Answers (.safeStopTimeout a) s (s1.setAxis a.val { s1.axis a.val with safeStop := none })))

/-- Taking the module safe state opens every safe output and remembers its cause, once (R26, R214). -/
def Obligations.SafeStateOpensEverySafeOutput : Prop :=
  ∀ (k : Nat) (s : State), k < 16 →
    (takeSafeState k s).saf.lanes.safe = true ∧ (takeSafeState k s).saf.lanes.cause.getLsbD k = true ∧
    OutputsGated (settle s.pending (takeSafeState k s)) ∧
    (s.saf.lanes.safe = true → (takeSafeState k s).jrn = s.jrn ∧ (takeSafeState k s).ax = s.ax ∧ (takeSafeState k s).ev = s.ev)

/-- A valid KSC copy opens a pairing window, an identical second copy of the other network is accepted at once, a different one
is a mismatch; a bad copy only sets its flag; the end of a window, the watchdog
and the send cycle follow (R221 to R223). -/
def Obligations.KscCommandsComplete : Prop :=
  (∀ (lane : Lane) (netB : Bool) (src : Nat) (data : Bytes) (s : State),
    laneUp s lane = true → s.boot.power = .on → (kscOf s lane).state ≠ .off →
    let s1 := kscOverdue lane s
    let k := kscOf s1 lane
    let seq := rd data 8 4
    let known : Bool := (k.state == .resync || k.state == .run) && decide (seq = k.lastSeq)
    (kscFormOk s1 netB src data = false →
      Answers (.kscCopyRx lane netB src data) s (setKsc lane { k with status := setBit k.status 2 true } s1)) ∧
    (kscFormOk s1 netB src data = true → known = false → kscSeqOk s1 k seq = false →
      Answers (.kscCopyRx lane netB src data) s (setKsc lane { k with status := setBit k.status 3 true } s1)) ∧
    (kscFormOk s1 netB src data = true → known = false → kscSeqOk s1 k seq = true →
      (k.windows.find? fun w => w.1 = seq) = none →
      Answers (.kscCopyRx lane netB src data) s (setKsc lane { k with windows := k.windows ++ [(seq, data, netB, s1.us)] } s1)) ∧
    (∀ w, kscFormOk s1 netB src data = true → known = false → kscSeqOk s1 k seq = true →
      (k.windows.find? fun w => w.1 = seq) = some w → w.2.2.1 ≠ netB →
      (w.2.1 = data → Answers (.kscCopyRx lane netB src data) s (kscAccept lane seq data true true s1)) ∧
      (w.2.1 ≠ data → Answers (.kscCopyRx lane netB src data) s (kscMismatch lane s1)))) ∧
  (∀ (lane : Lane) (w : Nat × Bytes × Bool × Nat) (rest : List (Nat × Bytes × Bool × Nat)) (s : State), s.lit = true →
    (kscOf s lane).windows = w :: rest →
    Answers (.kscPairWindowEnd lane) s (kscWindowEnd lane w.1 (forwardTo (some (w.2.2.2 + s.safN .kscPairUs)) s))) ∧
  (∀ (lane : Lane) (at_ : Nat) (s : State), s.lit = true → (kscOf s lane).wd = some at_ →
    Answers (.kscWatchdogExpiry lane) s
      (kscRaise lane Ksc.nWd 2
        (modKsc lane (fun k => { kscDrop k with status := setBit k.status 4 true, nWd := k.nWd + 1 }) (forwardTo (some at_) s)))) ∧
  (∀ s : State, s.safN .kscConnId ≠ 0 → started s = true → laneUp s .ibex = true → laneUp s .chamois = true →
    let s1 := forwardTo (some (s.saf.txAt + 1000 * s.safN .kscCycleMs)) s
    let seq := wrap32 (s1.saf.txSeq + 1)
    let head (lane : Lane) : Bytes := kscHead 1 (s1.safN .kscConnId) seq (kscPayload s1 lane)
    Answers .kscTxCycle s
      (send (.ksc (head .ibex ++ le 4 (kscCrc (s1.safN .kscCode) (head .chamois))))
        { s1 with saf := { s1.saf with txSeq := seq, txAt := s1.us } }))

/-! ## The fabric -/

/-- A tick of 20 µs takes, for every axis, its steps in their order: the detections that the last tick completed and the
mailbox, what is measured, the pins, the watch on every homing and the commanded positions, the chopper, the count snapshot and
observer, the force and its detections, the leaf-clock points, the compare units, the latches, the corrections, then the
doorways' own checks and the stream (R29, R108, R137, R238, R310). -/
def Obligations.FabricTickTakesItsSteps : Prop :=
  ∀ (m : TickIn) (s : State), s.boot.power = .on →
    let s0 := measure 20 (elapse 20 (tickStarts (actDetections s)))
    let s1 := each 24 (fun s a => watchHoming a s) (applyPins (settleProbe (samplePins m (tickShadows 20 s0))))
    let s2 := each 24 (fun s a => tickDetect a (tickForce a (lget m.currents a (0, 0)) (tickFeedback a
      (tickRealign a (tickChop a (bridgesOf m a) s))))) (tickMotion 20 s1)
    let s3 := each 24 (fun s a => tickPoints a s) (each 8 (fun s d => tickCapture d s) s2)
    let s4 := each 24 (fun s a => hostLatches a s) (each 24 (fun s a => checkCmps a s) s3)
    let s5 := each 8 (fun s d => tickEnergy d (tickEdges d (tickSeal d 20 s))) (each 24 tickCorrect s4)
    Answers (.fabricTick m) s (tickStream s5)

/-- Time that passes moves the moment and the energised time of the axes and leaves the configuration, the doorways, the safety
functions, the protocol and the start alone; a deadline moves the moment forward, never back. -/
def Obligations.TimePassesForward : Prop :=
  (∀ (us : Nat) (s : State), (elapse us s).us = s.us + us ∧ (elapse us s).fresh = s.fresh ∧ (elapse us s).par = s.par ∧
    (elapse us s).dw = s.dw ∧ (elapse us s).saf = s.saf ∧ (elapse us s).kcp = s.kcp ∧ (elapse us s).boot = s.boot) ∧
  (∀ (t : Nat) (s : State), (forwardTo (some t) s).us = max s.us t) ∧
  (∀ (us : Nat) (s : State) (a : Nat), (elapse us s).axis a =
    if a < 24 ∧ (s.axis a).drive.energised = true ∧ counting s a = true then { s.axis a with ltEnergUs := (s.axis a).ltEnergUs + us } else s.axis a)

/-- R130: a quadrature error sets QERR, raises E(096 + 4a + 1) and clears POS_VALID; the counter is left unchanged by the
sample; it is raised once per POS_VALID episode, and further errors while POS_VALID is 0 only hold QERR set. -/
def Obligations.QuadratureErrorFollowsItsRule : Prop :=
  ∀ (a : Fin 24) (e : EncEdge) (s : State), s.lit = true → s.axOn a.val = true → edgeCount (s.axN a.val .encMode) e = none →
    ∃ t, exec (.encoderEdge a e) s = .next t ∧ (t.axis a.val).fb.has 3 = true ∧ posValid t a.val = false ∧
      (t.axis a.val).fb.count = (s.axis a.val).fb.count ∧ (t.axis a.val).fb.raw = (s.axis a.val).fb.raw ∧
      (t.axis a.val).fb.dup = (s.axis a.val).fb.dup ∧
      ((s.axis a.val).fb.episodeRaised = false →
        t.ev.raiseSeq = wrap32 (s.ev.raiseSeq + 1) ∧ vget t.ev.sticky (96 + 4 * a.val + 1) false = true) ∧
      ((s.axis a.val).fb.episodeRaised = true → t.ev = s.ev ∧ t.jrn = s.jrn) ∧
      (t.axis a.val).fb.episodeRaised = true

/-- Edges of a good pair count, a wire disagreement marks its pair until the pair is good again, an index is taken where it is
recognised, an armed latch captures, and an SSI frame is captured at its start and judged at its end (R125, R128, R131, R133,
R134, R140, R145). -/
def Obligations.FeedbackCommandsComplete : Prop :=
  (∀ (a : Fin 24) (e : EncEdge) (n : Int) (s : State), s.lit = true → s.axOn a.val = true →
    edgeCount (s.axN a.val .encMode) e = some n →
    Answers (.encoderEdge a e) s (addCounts a.val (if s.axp a.val .encInv = 1 then -n else n)
      (wireGood a.val 0 (e.aBefore != e.aAfter) (wireGood a.val 1 (e.bBefore != e.bAfter) s)))) ∧
  (∀ (a : Fin 24) (s : State), s.lit = true → s.axp a.val .encMode ≠ 3 →
    Answers (.wireDisagreement a .a) s (abFault a.val 0 (wireBad a.val 0 s)) ∧
    Answers (.wireDisagreement a .b) s (abFault a.val 1 (wireBad a.val 1 s))) ∧
  (∀ (a : Fin 24) (s : State), s.lit = true → s.axp a.val .indexUse = 1 →
    ∃ t, exec (.wireDisagreement a .z) s = .next t ∧ (t.axis a.val).fb.has 2 = true ∧ (t.axis a.val).fb.has 13 = false ∧
      posValid t a.val = posValid s a.val) ∧
  (∀ (a : Fin 24) (s : State), s.lit = true → ssiAxisOf s (doorOf a.val) = some a.val →
    ∃ t, exec (.wireDisagreement a .ssi) s = .next t ∧ (t.axis a.val).fb.has 6 = true ∧ (t.axis a.val).fb.ssiOk = false) ∧
  (∀ (a : Fin 24) (rising : Bool) (s : State), s.lit = true → indexSeenNow s a.val rising = true →
    let c := (s.axis a.val).fb.raw
    let s1 := (wireGood a.val 2 true s).modFb a.val fun b => { b with indexSeen := some c }
    ((s1.axis a.val).home.phase = .creep → Answers (.indexEdge a rising) s (homeIndex a.val c s1)) ∧
    ((s1.axis a.val).home.phase ≠ .creep → Answers (.indexEdge a rising) s (takeIndex a.val c s1))) ∧
  (∀ (a : Fin 24) (l : Fin 2) (rising : Bool) (ageNs : Nat) (s : State), s.lit = true → s.axOn a.val = true →
    let x := latchOf s a.val l.val
    x.armed = true → (x.src = 1 ∨ x.src = 2 ∨ x.src = 4) → (x.edge = 3 ∨ x.edge = (if rising then 1 else 2)) →
    ∃ t, exec (.latchEdgeCapture a l rising ageNs) s = .next t ∧
      (latchOf t a.val l.val).seq = wrap32 (x.seq + 1) ∧
      (latchOf t a.val l.val).pos = truncR (posAt s a.val (s.axis a.val).fb.count) ∧
      (latchOf t a.val l.val).unread = true ∧ (latchOf t a.val l.val).source = x.src) ∧
  (∀ (d : Fin 8) (a : Nat) (s : State), s.lit = true → ssiAxisOf s d.val = some a → a < 24 →
    (∃ t, exec (.ssiFrameStart d false) s = .next t ∧ (t.axis a).fb.ssiCapture = some ((s.axis a).fb.count, true)) ∧
    Answers (.ssiFrameStart d true) s (ssiBad a (s.modFb a fun b => { b with ssiCapture := none }))) ∧
  (∀ (d : Fin 8) (a value status : Nat) (c : Int × Bool) (wireBad : Bool) (s : State), s.lit = true →
    ssiAxisOf s d.val = some a → a < 24 → (s.axis a).fb.ssiCapture = some c →
    (status % 2 ^ s.dwN d.val .ssiStatBits ≠ 0 ∨ wireBad = true ∨ c.2 = false) →
    let s1 := ssiBad a (wireGood a 6 (!wireBad) (s.modFb a fun b => { b with ssiCapture := none }))
    ((s1.axis a).home.phase = .ssiWait → (s1.axis a).fb.ssiOk = false →
      Answers (.ssiFrameEnd d value status wireBad) s (homeFail a 6 s1)) ∧
    ((s1.axis a).home.phase ≠ .ssiWait ∨ (s1.axis a).fb.ssiOk = true → Answers (.ssiFrameEnd d value status wireBad) s s1)) ∧
  (∀ (d : Fin 8) (a value status : Nat) (c : Int × Bool) (s : State), s.lit = true →
    ssiAxisOf s d.val = some a → a < 24 → (s.axis a).fb.ssiCapture = some c → c.2 = true →
    status % 2 ^ s.dwN d.val .ssiStatBits = 0 →
    let r := takeSsi d.val value status false s
    ∃ pos count, r.2 = some (a, pos, count) ∧ count = c.1 ∧
      Answers (.ssiFrameEnd d value status false) s (homeSsi a pos count r.1))

/-- The detections of the fabric, each once the ticks have completed it in a move in which it is evaluated (R80, R118, R153,
R169 to R171, R174). -/
def Obligations.DetectionCommandsComplete : Prop :=
  (∀ (a : Fin 24) (s : State), s.lit = true →
    (breachDue s a.val = true → Answers (.envelopeBreach a) s
      (detect a.val .envelope false (s.modDet a.val fun d => { d with envDone := true }))) ∧
    (breachDue s a.val = false → Answers (.envelopeBreach a) s s) ∧
    (deviationDue s a.val = true → Answers (.deviation a) s
      (detect a.val .deviation false (s.modDet a.val fun d => { d with devDone := true }))) ∧
    (deviationDue s a.val = false → Answers (.deviation a) s s)) ∧
  (∀ (a : Fin 24) (s : State),
    (breachDue s a.val = true ↔ s.axOn a.val = true ∧ evaluated s a.val .envelope = true ∧
      s.axN a.val .envTicks ≤ (s.axis a.val).det.envTicks ∧ (s.axis a.val).det.envDone = false) ∧
    (deviationDue s a.val = true ↔ s.axOn a.val = true ∧ evaluated s a.val .deviation = true ∧
      s.axN a.val .devTicks ≤ (s.axis a.val).det.devTicks ∧ (s.axis a.val).det.devDone = false) ∧
    ((tickDetect a.val s).axis a.val).det.envTicks =
      (if evaluated s a.val .envelope = true ∧ aboveEnvelope s a.val = true then (s.axis a.val).det.envTicks + 1 else 0) ∧
    ((tickDetect a.val s).axis a.val).det.devTicks =
      (if evaluated s a.val .deviation = true ∧ outsideWindow s a.val = true then (s.axis a.val).det.devTicks + 1 else 0)) ∧
  (∀ (d : Fin 8) (s : State), s.lit = true →
    (capDue s d.val = true → Answers (.energyCapHit d) s (energyHit d.val false (rnd (kinetic s d.val)).toNat
      (s.modDoor d.val fun x => { x with energyDone := true }))) ∧
    (capDue s d.val = false → Answers (.energyCapHit d) s s)) ∧
  (∀ (a : Fin 24) (samples : List Int) (s : State), s.lit = true → s.axOn a.val = true →
    let s0 := if bemfMeasures s a.val = true ∧ samples.length = 8 then countStepLa a.val s else s
    let r := takeLoadAngle a.val samples (s.axp a.val (if seeksStop s a.val = true then .homeLaStop else .laStall)) s0
    (r.2 = true → seeksStop s a.val = true → Answers (.loadAngleMeasurement a samples) s (homeHalt a.val r.1)) ∧
    (r.2 = true → seeksStop s a.val = false → stallRow s a.val = true → moving r.1 a.val = true →
      Answers (.loadAngleMeasurement a samples) s (detect a.val .loadAngle false r.1)) ∧
    (r.2 = true → seeksStop s a.val = false → (stallRow s a.val = false ∨ moving r.1 a.val = false) →
      Answers (.loadAngleMeasurement a samples) s r.1) ∧
    (r.2 = false → Answers (.loadAngleMeasurement a samples) s r.1)) ∧
  (∀ (a : Fin 24) (samples : List Int) (s : State), s.axOn a.val = false → Answers (.loadAngleMeasurement a samples) s s)

/-- Homing: the stop found, the switch, the distance used up, the settling and the retry (R151 to R155). -/
def Obligations.HomingCommandsComplete : Prop :=
  (∀ (a : Fin 24) (s : State), s.lit = true → s.axOn a.val = true → (s.axis a.val).home.phase = .search →
    moving s a.val = true → (s.axN a.val .homeType = 1 ∨ s.axN a.val .homeType = 5) → lagsBehind s a.val = true →
    (∀ b ∈ homedWith s a.val, b ≠ a.val → (s.axis b).home.phase = .search) → (∃ b ∈ homedWith s a.val, b ≠ a.val) →
    ∃ t, exec (.homeStopReached a) s = .next t ∧ (t.axis a.val).home.phase = .halted ∧ moving t a.val = false) ∧
  (∀ (a : Fin 24) (s : State), s.lit = true → s.axOn a.val = true → moving s a.val = true →
    (s.axN a.val .homeType = 2 ∨ s.axN a.val .homeType = 3) →
    ((s.axis a.val).home.phase = .search →
      Answers (.homeSwitchEdge a true) s
        (stopPath a.val .own (s.modHome a.val fun h => { h with cleared := true }))) ∧
    ((s.axis a.val).home.phase = .openSwitch → (s.axis a.val).home.cleared = false →
      Answers (.homeSwitchEdge a false) s
        (coast a.val (s.axp a.val .homeClear : Rat) (s.modHome a.val fun h => { h with cleared := true })))) ∧
  (∀ (a : Fin 24) (s : State), s.lit = true →
    seeksStop s a.val = false ∨ lagsBehind s a.val = false → Answers (.homeStopReached a) s s) ∧
  (∀ (a : Fin 24) (s : State), s.lit = true →
    let gone := absR ((planNow (s.axis a.val)).1 - (s.axis a.val).plan.startPos)
    (searching s a.val = true → (s.axp a.val .homeMaxDist : Rat) ≤ gone →
      Answers (.homeMaxDistExceeded a) s (homeFail a.val 4 s)) ∧
    (gone < (s.axp a.val .homeMaxDist : Rat) → Answers (.homeMaxDistExceeded a) s s)) ∧
  (∀ (a : Fin 24) (s : State), s.lit = true → (s.axis a.val).home.phase = .settle →
    let s1 := forwardTo (s.axis a.val).home.until_ s
    let l := (homedWith s1 a.val).filter fun b => (s1.axis b).home.phase == .settle
    ((∀ b ∈ l, stopAgrees s1 b = true) → Answers (.homeSettleEnd a) s
      (l.foldl (fun s b => homeRedefine b ((s.axis b).fb.count + (s.axis b).fb.overflow) (s.axp b .homePos) true s) s1)) ∧
    ((∃ b ∈ l, stopAgrees s1 b = false) → Answers (.homeSettleEnd a) s (l.foldl (fun s b => homeFail b 3 s) s1))) ∧
  (∀ (a : Fin 24) (s : State), s.lit = true → (s.axis a.val).home.until_.isSome = true →
    ((s.axis a.val).home.phase = .retryWait → Answers (.homeRetryDelayEnd a) s
      (homeBegin a.val false (forwardTo (s.axis a.val).home.until_ s))) ∧
    ((s.axis a.val).home.phase = .backOff → Answers (.homeRetryDelayEnd a) s
      ((forwardTo (s.axis a.val).home.until_ s).modHome a.val fun h => { h with until_ := none })))

/-! ## The drive stage -/

/-- The ends of profiles and ramps, the hold delay, the confirmed phase record and a park without its record (R106, R111,
R115, R398). -/
def Obligations.RampCommandsComplete : Prop :=
  (∀ (a : Fin 24) (s : State), s.lit = true → moving s a.val = true →
    (let s1 := actDetections s
     (s.axis a.val).ramp = none →
      ((s1.axis a.val).ramp = none ∨ planDone (s1.axis a.val) = true →
        Answers (.profileEnd a) s (moveEnd a.val (runToEnd a.val s1))) ∧
      ((s1.axis a.val).ramp ≠ none → planDone (s1.axis a.val) = false → Answers (.profileEnd a) s s1)) ∧
    ((s.axis a.val).ramp ≠ none → Answers (.stopRampEnd a) s (moveEnd a.val (runToEnd a.val s)))) ∧
  (∀ (a : Fin 24) (at_ : Nat) (s : State), s.lit = true → (s.axis a.val).drive.holdAt = some at_ →
    (s.axis a.val).drive.state = .standstill →
    (isLeaf a.val = true → (s.door (doorOf a.val)).leaf ≠ .sealTest ∧ (s.door (doorOf a.val)).leaf ≠ .locking ∧
      (s.door (doorOf a.val)).leaf ≠ .closedNotLocked) →
    ∃ t, exec (.holdDelayExpiry a) s = .next t ∧ (t.axis a.val).drive.holdAt = none ∧
      (t.axis a.val).drive.ramp = some (.hold, (forwardTo (some at_) s).us + 1000 * s.axN a.val .holdRampMs)) ∧
  (∀ (a : Fin 24) (at_ : Nat) (s : State), s.lit = true →
    ((s.axis a.val).drive.ramp = some (.enable, at_) →
      let s1 := endEnableRamp a.val (forwardTo (some at_) s)
      Answers (.enableRampEnd a) s
        (startAfterEnable a.val (if (s1.axis a.val).by_ = .homing then homeContinue a.val s1 else s1))) ∧
    ((s.axis a.val).drive.ramp = some (.park, at_) →
      Answers (.parkRampEnd a) s (endParkRamp a.val (forwardTo (some at_) s))) ∧
    ((s.axis a.val).drive.ramp = some (.disable, at_) →
      Answers (.disableRampEnd a) s (endDisableRamp a.val (forwardTo (some at_) s)))) ∧
  (∀ (a : Fin 24) (r : PhaseRec) (due_ : Nat) (s : State), s.lit = true → (s.axis a.val).drive.recordDue = some (r, due_) →
    (s.axis a.val).drive.state = .standstill → (s.axis a.val).drive.enableQueued = false →
    (s.axis a.val).drive.disableAtRest = false →
    ∃ t, exec (.parkWriteConfirmed a) s = .next t ∧ (t.axis a.val).drive.state = .parked ∧
      (t.axis a.val).drive.phaseValid = posValid s a.val ∧ (t.axis a.val).drive.recordDue = none ∧
      (t.axis a.val).drive.record = some { r with valid := r.valid && posValid s a.val }) ∧
  (∀ (a : Fin 24) (s : State), s.lit = true → (s.axis a.val).drive.state = .standstill →
    (s.axis a.val).drive.recordDue.isSome = true → storeFailed s = true → (s.axis a.val).drive.enableQueued = false →
    (s.axis a.val).drive.disableAtRest = false →
    ∃ t, exec (.parkRecordTimeout a) s = .next t ∧ (t.axis a.val).drive.state = .parked ∧
      (t.axis a.val).drive.phaseValid = false)

/-- The STO sequence's readback and dwell, and derating (R107, R112). -/
def Obligations.StoAndDeratingCommandsComplete : Prop :=
  (∀ (a : Fin 24) (i c : Bool) (s : State), s.lit = true → (s.axis a.val).drive.state = .sto →
    ((i && c) = true → ∃ t, exec (.stoReadback a i c) s = .next t ∧ (t.axis a.val).drive.enBad = false ∧
      t.saf.lanes = s.saf.lanes) ∧
    ((i && c) = false → ∃ t, exec (.stoReadback a i c) s = .next t ∧ t.saf.lanes.safe = true)) ∧
  (∀ (a : Fin 24) (at_ : Nat) (s : State), s.lit = true → (s.axis a.val).drive.stoSince = some at_ →
    (s.axis a.val).drive.state = .sto → (s.axis a.val).drive.stoDone = false → (s.axis a.val).drive.enableQueued = false →
    ((s.axis a.val).drive.recordDue = none ∨ storeFailed s = true) →
    ∃ t, exec (.stoDwellEnd a) s = .next t ∧ (t.axis a.val).drive.stoDone = true ∧
      (t.axis a.val).drive.state = .sto ∧ at_ + 50000 ≤ t.us) ∧
  (∀ (temp : Int) (s : State), s.lit = true →
    ∃ t, exec (.deratingRecompute temp) s = .next t ∧ t.sup.baseTemp = temp ∧ t.sup.basePeak = max s.sup.basePeak temp ∧
      ∀ a : Fin 24, (t.axis a.val).drive.derate =
        if s.axOn a.val = true ∧ moving s a.val = false then deratingOf temp else (s.axis a.val).drive.derate)

/-- Stage faults: overcurrent and the shorts open the bridges at once, open phase and overtemperature stop a moving axis
first, the bus faults take every energised axis (R120, R121). -/
def Obligations.StageFaultCommandsComplete : Prop :=
  (∀ (a : Fin 24) (s : State), s.lit = true → s.axOn a.val = true →
    ∀ (c : Instr) (b : Nat), (c, b) ∈ [(Instr.overcurrent a, 1), (.shortToGround a false, 2), (.shortToGround a true, 3),
      (.shortToDrive a false, 4), (.shortToDrive a true, 5)] →
    ∃ t, exec c s = .next t ∧ (t.axis a.val).drive.stageFault.getLsbD b = true ∧ (t.axis a.val).drive.state = .fault ∧
      moving t a.val = false ∧ (t.axis a.val).drive.enIbex = false ∧ (t.axis a.val).drive.enChamois = false) ∧
  (∀ (a : Fin 24) (phaseB : Bool) (temp : Int) (s : State), s.lit = true → s.axOn a.val = true → moving s a.val = false →
    (∃ t, exec (.openPhase a phaseB) s = .next t ∧ (t.axis a.val).drive.state = .fault ∧
      (t.axis a.val).drive.stageFault.getLsbD (if phaseB then 7 else 6) = true) ∧
    (1500 ≤ temp → ∃ t, exec (.overtemperature a temp) s = .next t ∧ (t.axis a.val).drive.state = .fault ∧
      (t.axis a.val).drive.stageFault.getLsbD 9 = true ∧ (t.axis a.val).drive.stageTemp = temp)) ∧
  (∀ (a : Fin 24) (phaseB : Bool) (temp : Int) (s : State), s.lit = true → s.axOn a.val = true → moving s a.val = true →
    (∃ t, exec (.openPhase a phaseB) s = .next t ∧ (t.axis a.val).drive.faultAtRest = true) ∧
    (1500 ≤ temp → ∃ t, exec (.overtemperature a temp) s = .next t ∧ (t.axis a.val).drive.faultAtRest = true)) ∧
  (∀ (a : Fin 24) (temp : Int) (s : State), s.lit = true → s.axOn a.val = true →
    (1350 ≤ temp → ∃ t, exec (.overtemperatureWarning a temp) s = .next t ∧
      (t.axis a.val).drive.stageFault.getLsbD 8 = true ∧ (t.axis a.val).drive.state = (s.axis a.val).drive.state) ∧
    (temp < 1250 → ∃ t, exec (.otWarnCleared a temp) s = .next t ∧
      (t.axis a.val).drive.stageFault.getLsbD 8 = false ∧ (t.axis a.val).drive.stageTemp = temp)) ∧
  (∀ (mV : Nat) (s : State), s.lit = true →
    (mV < 600 * driveNomV s → Answers (.driveUndervoltage mV) s (busFault 10 { s with sup := { s.sup with driveVolt := mV } })) ∧
    (175000 < mV → Answers (.driveOvervoltage mV) s (busFault 11 { s with sup := { s.sup with driveVolt := mV } })))

/-! ## The doorways' timers -/

/-- The timers of the sequencer, each while it is armed (R42, R44, R46, R58, R241). -/
def Obligations.DoorwayTimersComplete : Prop :=
  (∀ (d : Fin 8) (at_ : Nat) (s : State), s.lit = true →
    ((s.door d.val).leaf = .openDwell → (s.door d.val).dwellEnd = some at_ →
      Answers (.dwellEnd d) s (dwellEnded d.val (forwardTo (some at_) s))) ∧
    ((s.door d.val).leaf = .closeWarning → (s.door d.val).warnEnd = some at_ →
      Answers (.warnEnd d) s (prepareClose d.val (forwardTo (some at_) s))) ∧
    ((s.door d.val).timeout = some at_ → (s.door d.val).stepTimeout = none →
      Answers (.sequencerTimeout d) s (timeoutLeaf d.val (forwardTo (some at_) s))) ∧
    ((s.door d.val).timeout = none → (s.door d.val).stepTimeout = some at_ →
      Answers (.sequencerTimeout d) s (advanceStep d.val (forwardTo (some at_) s))) ∧
    ((s.door d.val).waitSince = some at_ →
      let s1 := forwardTo (some (at_ + 1000 * s.modN .staggerMaxMs)) s
      let s2 := s1.modDoor d.val fun x => { x with staggerForce := true }
      waitingReady s2 d.val = true → (s2.door d.val).armedOn = none →
      Answers (.staggerMaxExpiry d) s (startWaiting d.val false s2)) ∧
    ((s.door d.val).leaf = .locking → (s.door d.val).lockEnd = some at_ → lockProven s d.val = false →
      Answers (.lockTimeExpiry d) s (lockExpired d.val (forwardTo (some at_) s))) ∧
    ((s.door d.val).suspendSince = some at_ →
      Answers (.dwellOverrun d) s (overrun d.val (forwardTo (some (at_ + 1000000 * s.dwN d.val .dwellOverrunS)) s))) ∧
    ((s.door d.val).leaf = .obstacleStop → (s.door d.val).obstPauseEnd = some at_ →
      Answers (.obstPauseEnd d) s (inObstacle d.val (forwardTo (some at_) s))) ∧
    (((s.door d.val).leaf = .lockedClosed ∨ (s.door d.val).leaf = .released ∨ (s.door d.val).leaf = .isolated) → (s.door d.val).parkAt = some at_ →
      Answers (.parkDelayEnd d) s (parkDue d.val (forwardTo (some at_) s)))) ∧
  (∀ (n : Fin 112) (at_ : Nat) (s : State), s.lit = true → (s.pin n.val).pulseEnd = some at_ →
    Answers (.coilPulseEnd n) s (applyPin n.val (forwardTo (some at_) s)))

/-- The seal test: at its moment the contact check begins step 1 or fails the test; at the end of each force step the gap is
taken and judged, and the last step gives the verdict; without a test under way neither does anything (R177 to R179). -/
def Obligations.SealCommandsComplete : Prop :=
  (∀ (d : Fin 8) (s : State), s.lit = true → (s.door d.val).leaf = .sealTest → (s.door d.val).sealTest.step = some 0 →
    let x := (s.door d.val).sealTest
    let at_ := max s.us (x.started + 1000 * s.dwN d.val .sealContactMs)
    ∃ t, exec (.sealContactCheck d) s = .next t ∧ t.us = at_ ∧
      (x.fastAt + 10000 ≤ at_ → sealForceOk s d.val 1 = true → (t.door d.val).sealTest.step = some 1 ∧
        (t.door d.val).sealTest.window = [] ∧ (t.door d.val).sealTest.cause = x.cause) ∧
      (x.fastAt + 10000 ≤ at_ → sealForceOk s d.val 1 = false → (t.door d.val).sealTest.step = none ∧
        (t.door d.val).sealTest.cause = 10) ∧
      (at_ < x.fastAt + 10000 → (t.door d.val).sealTest.step = none ∧ (t.door d.val).sealTest.cause = 2)) ∧
  (∀ (d : Fin 8) (k : Nat) (s : State), s.lit = true → (s.door d.val).leaf = .sealTest →
    (s.door d.val).sealTest.step = some k → 1 ≤ k →
    let x := (s.door d.val).sealTest
    let at_ := max s.us (x.started + 1000 * (s.dwN d.val .sealContactMs + k * s.dwN d.val .sealStepMs))
    let g := rnd (if x.window = [] then gapOf s d.val else meanL x.window)
    let gs := x.g.set (k - 1) g
    let abort : Bool := if x.absolute then decide (s.dwp d.val .sealGapMax + s.dwp d.val .sealAbortGap < g)
      else decide (s.dwp d.val .sealAbortGap < g - lget x.gRef (k - 1) 0)
    let gapBad : Bool := if x.absolute then decide (s.dwp d.val .sealGapMax < lget gs 3 0)
      else decide (s.dwp d.val .sealGapTol < lget gs 3 0 - lget x.gRef 3 0)
    let softBad : Bool := !x.absolute && decide ((lget x.gRef 0 0 - lget x.gRef 3 0) * (100 + s.dwp d.val .sealCompTolPct)
      < (lget gs 0 0 - lget gs 3 0) * 100)
    ∃ t, exec (.sealStepEnd d) s = .next t ∧ t.us = at_ ∧
      (at_ < x.fastAt + 10000 → (t.door d.val).sealTest.step = none ∧ (t.door d.val).sealTest.cause = 6) ∧
      (x.fastAt + 10000 ≤ at_ → (t.door d.val).sealTest.steps = k ∧ (t.door d.val).sealTest.g = gs ∧
        (abort = true → (t.door d.val).sealTest.step = none ∧ (t.door d.val).sealTest.cause = 3) ∧
        (abort = false → k < 4 → sealForceOk s d.val (k + 1) = true → (t.door d.val).sealTest.step = some (k + 1) ∧
          (t.door d.val).sealTest.window = [] ∧ (t.door d.val).sealTest.cause = x.cause) ∧
        (abort = false → k < 4 → sealForceOk s d.val (k + 1) = false → (t.door d.val).sealTest.step = none ∧
          (t.door d.val).sealTest.cause = 10) ∧
        (abort = false → 4 ≤ k → (t.door d.val).sealTest.step = none ∧ (t.door d.val).sealTest.cause =
          if gapBad then 4 else if softBad then 5 else if pairActive s (3 * d.val) then 1 else 7))) ∧
  (∀ (d : Fin 8) (s : State),
    ((s.door d.val).leaf ≠ .sealTest ∨ (s.door d.val).sealTest.step ≠ some 0 → Answers (.sealContactCheck d) s s) ∧
    ((s.door d.val).leaf ≠ .sealTest ∨ (s.door d.val).sealTest.step = none ∨ (s.door d.val).sealTest.step = some 0 →
      Answers (.sealStepEnd d) s s))

/-! ## Field pins and group supplies -/

/-- Inputs and their filter, counting pins, the output supervision and demagnetisation (R235, R236, R239, R240). -/
def Obligations.FieldPinCommandsComplete : Prop :=
  (∀ (n : Fin 112) (level : Bool) (s : State), s.lit = true → pinMode s n.val = 1 →
    ∃ t, exec (.fieldInputFiltered n level) s = .next t ∧ (t.pin n.val).filt = level ∧ (t.pin n.val).stage = level) ∧
  (∀ (n : Fin 112) (rising : Bool) (s : State), s.lit = true →
    ∃ t, exec (.countEdge n rising) s = .next t ∧ (t.pin n.val).stage = rising ∧
      (t.pin n.val).counter =
        if groupBad s (groupOf n.val) = false ∧ (pinMode s n.val = 4 ∨ pinMode s n.val = 3 ∧ rising = true)
        then wrap32 ((s.pin n.val).counter + 1) else (s.pin n.val).counter) ∧
  (∀ (n : Fin 112) (c : Instr) (b : Nat) (s : State),
    (c, b) ∈ [(Instr.outputOverload n, 2), (.outputOvertemp ⟨n, true⟩, 3), (.outputFailOn n, 4)] →
    s.lit = true → checked s n.val = true → (s.pin n.val).on = true →
    ∃ t, exec c s = .next t ∧ (t.pin n.val).status.getLsbD b = true ∧ (t.pin n.val).on = false ∧
      (t.pin n.val).demag = Config.inductive n.val ∧ heldOff (t.pin n.val) = true ∧ RaisedOnce (208 + groupOf n.val) s t) ∧
  (∀ (n : Fin 112) (s : State), s.lit = true →
    ∃ t, exec (.outputOvertemp ⟨n, false⟩) s = .next t ∧ (t.pin n.val).hot = false ∧ (t.pin n.val).on = (s.pin n.val).on ∧
      (t.pin n.val).status = (s.pin n.val).status ∧ t.ev = s.ev) ∧
  (∀ (n : Fin 112) (mA : Nat) (s : State), s.lit = true → checked s n.val = true → (s.pin n.val).on = true →
    ∃ t, exec (.outputOpenLoad ⟨n, mA⟩) s = .next t ∧
      (t.pin n.val).status.getLsbD 9 = decide (mA < if heavy n.val then 10 else 5) ∧ (t.pin n.val).on = true ∧ t.ev = s.ev) ∧
  (∀ (n : Fin 112) (s : State), s.lit = true → (s.pin n.val).demag = true →
    (∃ t, exec (.demagEnd n) s = .next t ∧ (t.pin n.val).demag = false ∧
      ((s.pin n.val).modeNext = none → (t.pin n.val).heldOn = (s.pin n.val).heldOn) ∧
      (∀ m, (s.pin n.val).modeNext = some m → (t.pin n.val).modeNext = none ∧ (t.pin n.val).counter = 0 ∧
        (t.pin n.val).status = 0)) ∧
    ((s.pin n.val).status.getLsbD 7 = false → (s.pin n.val).on = false →
      ∃ t, exec (.demagOver n) s = .next t ∧ (t.pin n.val).status.getLsbD 7 = true ∧ (t.pin n.val).demag = true ∧
        RaisedOnce (208 + groupOf n.val) s t))

/-- A candidate for a short is resolved by coincidence, by probing or as a short to the supply (R242, R243). -/
def Obligations.ShortCandidatesAreResolved : Prop :=
  (∀ (n : Fin 112) (s : State), s.lit = true → checked s n.val = true → (s.pin n.val).status.getLsbD 5 = false →
    ∃ t, exec (.reverseCurrent n) s = .next t ∧ (t.pin n.val).status.getLsbD 5 = true ∧
      (t.pin n.val).status.getLsbD 11 = false ∧ (t.pin n.val).on = false ∧ (∀ e ∈ t.probe, e.1 ≠ n.val) ∧
      RaisedOnce (208 + groupOf n.val) s t) ∧
  (∀ (n : Fin 112) (s : State), s.lit = true → checked s n.val = true → (s.pin n.val).on = false →
    (s.pin n.val).demag = false → (s.pin n.val).status.getLsbD 11 = false → (s.pin n.val).offAt + 500 ≤ s.us →
    let together (k : Nat) : Prop :=
      k ≠ n.val ∧ isOutput s k = true ∧ (s.pin k).on = true ∧ s.us ≤ (s.pin k).onAt + 150 ∧ (s.pin k).onAt + 100 ≤ s.us
    (∀ k : Fin 112, together k.val → (∀ j : Fin 112, together j.val → j = k) →
      ∃ t, exec (.shortCandidate n) s = .next t ∧ (t.pin n.val).partner = k.val ∧ (t.pin k.val).partner = n.val ∧
        (t.pin n.val).status.getLsbD 6 = true ∧ (t.pin k.val).status.getLsbD 6 = true ∧ (t.pin k.val).on = false ∧
        (t.pin n.val).status.getLsbD 11 = false) ∧
    ((∀ k : Fin 112, ¬together k.val) → s.modp .ioProbe ≠ 0 → probeList s n.val ≠ [] →
      ∃ t, exec (.shortCandidate n) s = .next t ∧ t.probe = s.probe ++ [(n.val, probeList s n.val)] ∧
        (t.pin n.val).status.getLsbD 11 = true) ∧
    ((∀ k : Fin 112, ¬together k.val) → (s.modp .ioProbe = 0 ∨ probeList s n.val = []) →
      ∃ t, exec (.shortCandidate n) s = .next t ∧ (t.pin n.val).status.getLsbD 5 = true ∧
        (t.pin n.val).status.getLsbD 11 = false ∧ t.probe = s.probe)) ∧
  (∀ (n k : Fin 112) (rest : List Nat) (more : List (Nat × List Nat)) (s : State), s.lit = true → n ≠ k →
    probing s = some (n.val, k.val :: rest, more) → checked s n.val = true → s.probeNext ≤ s.us →
    (∃ t, exec (.probePulse k true) s = .next t ∧ t.probe = more ∧ (t.pin n.val).partner = k.val ∧
      (t.pin k.val).partner = n.val ∧ (t.pin k.val).on = false ∧ heldOff (t.pin n.val) = true ∧ heldOff (t.pin k.val) = true) ∧
    (rest = [] → ∃ t, exec (.probePulse k false) s = .next t ∧ t.probe = more ∧ (t.pin n.val).status.getLsbD 5 = true) ∧
    ((∃ j ∈ rest, j ≠ k.val) → ∃ t, exec (.probePulse k false) s = .next t ∧ t.probe = (n.val, rest) :: more ∧
      (t.pin k.val).on = false ∧ (t.pin k.val).probeEnd = some (s.us + 200) ∧ t.probeNext = s.us + 1000 ∧ t.ev = s.ev))

/-- A group supply is MISSING below 12.0 V, LOW below 19.2 V and recovered at 20.4 V, and its current is watched
(R245, R246, R442). -/
def Obligations.GroupSupplyCommandsComplete : Prop :=
  (∀ (g : Fin 9) (mV : Nat) (s : State), s.lit = true →
    (mV < 12000 → ∃ t, exec (.fieldSupplyMissing g mV) s = .next t ∧ groupMissing t g.val = true ∧ groupLow t g.val = false ∧
      (t.group g.val).mV = mV ∧ (groupMissing s g.val = false → RaisedOnce (208 + g.val) s t) ∧
      (groupMissing s g.val = true → t.ev = s.ev)) ∧
    (mV < 19200 → groupMissing s g.val = false → ∃ t, exec (.fieldSupplyLow g mV) s = .next t ∧ groupLow t g.val = true ∧
      groupMissing t g.val = false ∧ (t.group g.val).mV = mV ∧ (groupLow s g.val = false → RaisedOnce (208 + g.val) s t) ∧
      (groupLow s g.val = true → t.ev = s.ev)) ∧
    (20400 ≤ mV → groupBad s g.val = true → ∃ t, exec (.fieldSupplyRecovered g mV) s = .next t ∧ groupBad t g.val = false ∧
      (t.group g.val).mV = mV ∧ (t.group g.val).recoverAt = s.us + 500 ∧ t.ev = s.ev ∧ t.io = s.io)) ∧
  (∀ (g : Fin 9) (mA : Nat) (s : State), s.lit = true → s.modN (.fgCurrLimit g.val) < mA →
    ∃ t, exec (.fgCurrentWarning g mA) s = .next t ∧ (t.group g.val).current = mA ∧ RaisedOnce (208 + g.val) s t)

/-! ## The field link and the logic -/

/-- A released field task sends its frame, the frame's return or its absence ends the cycle, and a station goes on as its
frames are good or missed (R247, R251, R253). -/
def Obligations.FieldLinkCommandsComplete : Prop :=
  (∀ s : State, s.lit = true → ibexRuns s = true → s.sup.powerMode = 0 → s.link.due = true → anyStation s = true →
    ∃ t, exec .fieldCycle s = .next t ∧ t.link.cycle = wrap32 (s.link.cycle + 1) ∧ t.link.sentAt = some s.us ∧
      t.link.due = false ∧ t.net.sent = s.net.sent ++ [(.fieldFrame t.link.frame (bothPorts s.link.ring), [])]) ∧
  (∀ (f : FrameBack) (s : State), s.lit = true → ibexRuns s = true → s.link.sentAt.isSome = true →
    Answers (.frameReturn f) s (endFieldCycle f.onFl2 f.onFl1 s)) ∧
  (∀ (at_ : Nat) (s : State), s.lit = true → ibexRuns s = true → s.link.sentAt = some at_ →
    Answers .frameReturnTimeout s (endFieldCycle none none (forwardTo (some (at_ + 900 * s.modN .flCycleMs)) s))) ∧
  (∀ (f : Fin 16) (s : State),
    ((s.station f.val).state = .joining → ((missFrame f.val s).station f.val).state = .lost) ∧
    ((s.station f.val).state = .run → ((missFrame f.val s).station f.val).state = .missing) ∧
    ((s.station f.val).state = .missing → 2 ≤ (s.station f.val).missed →
      ((missFrame f.val s).station f.val).state = .lost) ∧
    ((s.station f.val).state = .lost → ((missFrame f.val s).station f.val).state = .lost)) ∧
  (∀ (f : Fin 16) (data : Bytes) (s : State),
    let x := (goodFrame f.val data s).station f.val
    ((s.station f.val).state = .lost → x.state = .joining ∧ x.goodRun = 1) ∧
    ((s.station f.val).state = .joining → (s.station f.val).goodRun = 0 → x.state = .joining) ∧
    ((s.station f.val).state = .joining → 1 ≤ (s.station f.val).goodRun → x.state = .run ∧ x.inputs = data) ∧
    ((s.station f.val).state = .run ∨ (s.station f.val).state = .missing → x.state = .run ∧ x.inputs = data ∧ x.missed = 0)) ∧
  (∀ (f : Fin 16) (s : State),
    let seen := ((newImage s).station f.val).seen
    ((s.station f.val).state = .run ∨ (s.station f.val).state = .missing → seen = (s.station f.val).inputs) ∧
    ((s.station f.val).state = .lost ∨ (s.station f.val).state = .joining → seen = substitute s f.val))

/-- The logic slot releases the cyclic tasks that are due, a run that ends in its budget hands on its results, and one that
does not stops the logic (R258, R260, R276). -/
def Obligations.LogicTaskCommandsComplete : Prop :=
  (∀ (p : PlanImg) (s : State), s.lit = true → ibexRuns s = true → s.logic.state = .run → s.logic.active = some p →
    lateTask s = none →
    let s1 : State := { s with logic := { s.logic with slot := s.logic.slot + 1, late := [] } }
    let now := (List.range p.nCyclic).filter fun t => slotCount s1.logic % (max 1 (((p.taskOf t).map Task.period).getD 1)) = 0
    Answers .logicSlot s (dispatch (now.foldl (fun s t => release t 0 s) s1))) ∧
  (∀ (t : Nat) (s : State), s.lit = true → ibexRuns s = true → s.logic.state = .run → lateTask s = some t →
    Answers .logicSlot s (overrunTask t 2 s)) ∧
  (∀ (p : PlanImg) (r : TaskRun) (rest : List TaskRun) (task : Fin 24) (us : Nat) (s : State), s.lit = true →
    ibexRuns s = true → s.logic.active = some p → s.logic.running = r :: rest → r.task = task.val →
    (us ≤ ((p.taskOf task.val).map Task.budget).getD 0 →
      let s1 := handOver r us { s with logic := { s.logic with running := rest } }
      s1.logic.exchQueued = none →
        (s1.logic.holdPending = false → Answers (.taskRunEnd task us) s (dispatch s1)) ∧
        (s1.logic.holdPending = true → s1.logic.running = [] →
          Answers (.taskRunEnd task us) s
            (dispatch { s1 with logic := { s1.logic with state := .hold, holdPending := false } }))) ∧
    (((p.taskOf task.val).map Task.budget).getD 0 < us → Answers (.taskRunEnd task us) s (overrunTask task.val 1 s))) ∧
  (∀ (r : TaskRun) (rest : List TaskRun) (task : Fin 24) (s : State), s.lit = true → ibexRuns s = true → s.logic.state ≠ .stop →
    (s.logic.running = r :: rest → r.task = task.val →
      Answers (.taskOverrun task false) s (overrunTask task.val 1 s)) ∧
    (task.val ∈ s.logic.late → (readyTask s.logic task.val = true ∨ runningTask s.logic task.val = true) →
      Answers (.taskOverrun task true) s (overrunTask task.val 2 s))) ∧
  (∀ (task cause : Nat) (s : State), s.logic.state ≠ .stop →
    (overrunTask task cause s).logic.state = .stop ∧ (overrunTask task cause s).logic.stopCause = cause ∧
    (overrunTask task cause s).logic.overTask = task ∧ (overrunTask task cause s).logic.running = [])

/-! ## The journal engine -/

/-- The engine completes the first write that may go on, remaps, degrades or fails; the store fails without an answer or on its
monitor, is tested again, and sealing and the operating time run on their periods (R382, R394 to R397, R399). -/
def Obligations.JournalEngineCommandsComplete : Prop :=
  (∀ (w : JWrite) (s : State), s.lit = true → nextWrite s = some w →
    Answers (.journalWriteDone .ok) s (writeOk w s) ∧
    (writeRegion w ≠ 4 → ∀ r, r = .remapped ∨ r = .noSpare →
      let s1 := lineError (writeRegion w) s
      (0 < s.jrn.spare → Answers (.journalWriteDone r) s
        (writeOk w (jrnFlag 3 { s1 with jrn := { s1.jrn with spare := s1.jrn.spare - 1 } }))) ∧
      (s.jrn.spare = 0 → Answers (.journalWriteDone r) s
        (setRegion (writeRegion w) .degraded 7 0xFFFFFFFF (voidRec w (popWrite w s1))))) ∧
    (writeRegion w ≠ 4 → s.jrn.failRun + 1 < s.jrnN .failLimit → Answers (.journalWriteDone .failed) s
      { s with jrn := { s.jrn with failRun := s.jrn.failRun + 1 } }) ∧
    (writeRegion w = 4 → ∀ r, r ≠ .ok → Answers (.journalWriteDone r) s (caddyFault (voidRec w (popWrite w s))))) ∧
  (∀ s : State, s.lit = true → storeFailed s = false →
    (∃ t, exec .storeNoResponse s = .next t ∧ ∀ r : Fin 4, (t.region r.val).state = .failed) ∧
    (∃ t, exec .storeMonitorFault s = .next t ∧ ∀ r : Fin 4, (t.region r.val).state = .failed)) ∧
  (∀ s : State, s.lit = true → storeFailed s = true →
    let s1 := forwardTo (some s.jrn.recheckAt) s
    let s2 : State := { s1 with jrn := { s1.jrn with recheckAt := s1.us + 60000000 } }
    Answers (.storeRecheck false) s s2 ∧ Answers (.storeRecheck true) s (storeBack s2)) ∧
  (∀ s : State, s.lit = true → s.jrnN .sealPeriodH ≠ 0 →
    let dueMs := s.jrn.sealAt + 3600000 * s.jrnN .sealPeriodH
    Answers .sealPeriodExpiry s (sealJournal 0xFFFF0001 (forwardTo (some (s.us + 1000 * (dueMs - s.jrn.opTime))) s))) ∧
  (∀ s : State, s.lit = true → storeFailed s = false →
    Answers .opTimeStore s { s with jrn := { s.jrn with storedOpTime := s.jrn.opTime } })

/-! ## Ports, clocks and the trusted network -/

/-- A frame is counted and sorted, a master answers a Delay_Req, the links follow the cable, supervision frames go out, and the
redundancy status follows what has been heard (R334 to R339). -/
def Obligations.NetworkPortCommandsComplete : Prop :=
  (∀ (f : Frame) (s : State), let p := Port.index f.port
    s.lit = true → listens s = true → bit (s.netN .portEnable) p = true → otherClass f.cls = false →
    Answers (.netFrameRx f) s (if f.cls = .ptp then takePtpFrame p f.data (netCount p 0 s) else netCount p 0 s)) ∧
  (∀ (n : Fin 2) (data : Bytes) (s : State),
    let s1 := netCount n.val 9 s
    (ptpOn s n.val = true → (s.clock n.val).state = 3 → rd data 0 1 % 16 = 1 →
      takePtpFrame n.val data s = send (.delayResp n.val) s1) ∧
    (ptpOn s n.val = false ∨ (s.clock n.val).state ≠ 3 ∨ rd data 0 1 % 16 ≠ 1 → takePtpFrame n.val data s = s)) ∧
  (∀ (f : Frame) (s : State), let p := Port.index f.port
    let r := takeIn p (netCount p 0 s)
    s.lit = true → listens s = true → bit (s.netN .portEnable) p = true → otherClass f.cls = true →
    (r.2 = false → Answers (.netFrameRx f) s r.1) ∧
    (r.2 = true → f.trailer = false → f.cls ≠ .prpSupervision →
      Answers (.netFrameRx f) s (if kcpOn r.1 f then kcpPacket f r.1 else r.1))) ∧
  (∀ (p : Port) (gigabit : Bool) (s : State), s.lit = true →
    let i := Port.index p
    ((s.port i).link ≠ 0 → ∃ t, exec (.linkLoss p) s = .next t ∧ (t.port i).link = 0 ∧
      (t.port i).lostSince = some s.us ∧ RaisedOnce 203 s t) ∧
    (bit (s.netN .portEnable) i = true → ∃ t, exec (.linkUp p gigabit) s = .next t ∧ (t.port i).lostSince = none ∧
      (t.port i).link = if gigabit = true ∧ p ≠ .svc ∧ s.netp (.speedCfg i) = 0 then 2 else 1)) ∧
  (∀ s : State, s.lit = true → prpOn s = true → listens s = true →
    ∃ t, exec .prpSupervisionTx s = .next t ∧ t.net.sent = s.net.sent ++ [(.supervision, wiresOf s .supervision)] ∧ t.net.supAt = t.us ∧
      s.net.supAt + 1000 * s.netN .prpSupMs ≤ t.us) ∧
  (∀ (a b : Bool) (s : State), s.lit = true →
    ∃ t, exec (.singleLanTimeout a b) s = .next t ∧ t.net.prpStatus =
      if prpOn s = true then (if a = true ∧ b = true then 1 else if a = true then 2 else if b = true then 3 else 4) else 0)

/-- A Sync of the master is a sample at once or waits for its Follow_Up, delays are filtered, announces choose the master, and a
port that is master or slave sends what its state asks for (R339, R340, R344); DECIDING ends in a decision, a distrusted network
is trusted again, and steps that both networks confirm are accepted (R345, R348, R349). -/
def Obligations.PtpCommandsComplete : Prop :=
  (∀ (n : Fin 2) (m : SyncMsg) (s : State), s.lit = true → listens s = true → ptpOn s n.val = true → m.complete = true →
    m.fromMaster = true → (s.clock n.val).state = 2 →
    (m.twoStep = false → Answers (.ptpSyncRx n m) s (takeSample n.val m (netCount n.val 9 s))) ∧
    (m.twoStep = true → ∃ t, exec (.ptpSyncRx n m) s = .next t ∧ (t.clock n.val).pendingSync = some (m, s.us) ∧
      (t.clock n.val).ns = (s.clock n.val).ns)) ∧
  (∀ (n : Fin 2) (m : SyncMsg) (p : SyncMsg × Nat) (s : State), s.lit = true → listens s = true → ptpOn s n.val = true →
    (s.clock n.val).pendingSync = some p → m.fromMaster = true → m.complete = true →
    0 ≤ p.1.logInterval → s.us ≤ p.2 + 1000000 * 2 ^ p.1.logInterval.toNat →
    let s1 := (netCount n.val 9 s).modClock n.val fun c => { c with pendingSync := none }
    Answers (.ptpFollowUpRx n m) s
      (takeSample n.val { p.1 with originNs := m.originNs, correctionNs := p.1.correctionNs + m.correctionNs } s1)) ∧
  (∀ (n : Fin 2) (raw : Nat) (s : State), s.lit = true → listens s = true → ptpOn s n.val = true → (s.clock n.val).state = 2 →
    ∃ t, exec (.ptpDelayRespRx n raw) s = .next t ∧
      (t.clock n.val).pathDelay = some (match (s.clock n.val).pathDelay with
        | none => (raw : Rat)
        | some f => if (s.netN .pdStepNs : Rat) < absR (raw - f) then (raw : Rat) else f + ((raw : Rat) - f) / 8)) ∧
  (∀ (n : Fin 2) (m : AnnounceMsg) (s : State), s.lit = true → listens s = true → ptpOn s n.val = true →
    let s1 := netCount n.val 9 s
    (∀ b, (s.clock n.val).best = some b → b.gmId ≠ m.gmId → betterClock m b = false → Answers (.ptpAnnounceRx n m) s s1) ∧
    ((s.clock n.val).best = none ∨ (∃ b, (s.clock n.val).best = some b ∧ (b.gmId = m.gmId ∨ betterClock m b = true)) →
      Answers (.ptpAnnounceRx n m) s
        (decideMaster n.val (s1.modClock n.val fun c => { c with best := some m, announceAt := s.us })))) ∧
  (∀ (n : Fin 2) (s : State), s.lit = true → listens s = true → ptpOn s n.val = true → (s.clock n.val).state ≠ 3 →
    ∃ t, exec (.announceTimeout n) s = .next t ∧ (t.clock n.val).best = none ∧ (t.clock n.val).locked = false ∧
      (t.clock n.val).state = if s.netp .slaveOnly = 1 then 1 else 3) ∧
  (∀ (n : Fin 2) (s : State), s.lit = true → listens s = true → ptpOn s n.val = true →
    ((s.clock n.val).state = 3 → ∃ t, exec (.ptpSyncTx n) s = .next t ∧
      t.net.sent = s.net.sent ++ [(.sync n.val s.time.ns.floor, wiresOf s (.sync n.val s.time.ns.floor))]) ∧
    ((s.clock n.val).state = 2 → ∃ t, exec (.ptpDelayReqTx n) s = .next t ∧
      t.net.sent = s.net.sent ++ [(.delayReq n.val, wiresOf s (.delayReq n.val))])) ∧
  (∀ (at_ : Nat) (s : State), s.lit = true → s.time.deciding = some at_ →
    let s1 := forwardTo (some (at_ + 1000 * s.netN .abDecideMs)) s
    let s2 := decide_ at_ s1
    let s3 : State := { s2 with time := { s2.time with deciding := none, recoverSince := none } }
    let bits := 2 * b2n (s3.clock 0).distrusted + b2n (s3.clock 1).distrusted
    Answers .abDecision s (reselect (raise 204 (3 + 256 * bits) s3))) ∧
  (∀ (at_ : Nat) (s : State), s.lit = true → s.time.recoverSince = some at_ →
    ∃ t, exec .abRecoverExpiry s = .next t ∧ (t.clock 0).distrusted = false ∧ (t.clock 1).distrusted = false ∧
      t.time.recoverSince = none) ∧
  (∀ (at_ : Nat) (s : State), s.lit = true → s.time.confirmSince = some at_ →
    Answers .stepConfirmExpiry s
      (acceptStep 1 1 (acceptStep 0 1 (forwardTo (some (at_ + 1000000 * s.netN .timeStepConfirmS)) s))))


/-! ## The herd -/

/-- The cycle boundary, the module's own bleat, a bleat received and counted, and the close of the window (R350, R360, R364). -/
def Obligations.HerdCycleCommandsComplete : Prop :=
  (∀ s : State, s.lit = true → listens s = true → s.time.pendingStep = none → s.herd.writes = [] → s.herd.pendMode = none →
    s.time.valid = true → s.herd.role ≠ .master → cycleNow s ≠ s.herd.cycle →
    let late : Bool := match s.herd.holdUntil with | some c => decide (c < cycleNow s) | none => false
    Answers .herdCycleBoundary s { s with herd := { s.herd with
      cycle := cycleNow s, boundaryAt := s.us, prev := s.herd.counted, counted := [], staleNow := 0, windowClosed := false,
      masterBleat := false, fragment := 0, joinLeft := s.herd.joinLeft - 1, grant := if late then 0 else s.herd.grant,
      holdUntil := if late then none else s.herd.holdUntil } }) ∧
  (∀ s : State, s.lit = true → listens s = true → s.herd.role ≠ .master → s.herd.windowClosed = false → s.time.valid = true →
    let s1 := forwardTo (some (s.herd.boundaryAt + 100 * selfM s)) s
    Answers .bleatTx s (countBleat (ownBleat s1) (sendHerd (bleatBytes s1 (ownBleat s1)) s1))) ∧
  (∀ (b : Bleat) (s : State), (countBleat b s).herd.counted = s.herd.counted ++ [b] ∧
    (b.member < 32 → vget (countBleat b s).herd.lastOf b.member none = some b)) ∧
  (∀ (netB : Bool) (src : Nat) (data : Bytes) (s : State), s.lit = true → listens s = true → herdOk s 1 92 src data = true →
    let b := readBleat data
    s.herd.term ≤ b.term → (∀ x ∈ s.herd.counted, x.member ≠ b.member) → b.cycle = s.herd.cycle →
    s.herd.windowClosed = false → bit b.flags 0 = true →
    (b.role ≠ 0 → ∃ t, exec (.bleatRx netB src data) s = .next t ∧ t.herd.counted = s.herd.counted ++ [b]) ∧
    (b.role = 0 → s.herd.role = .referee ∨ s.herd.role = .standby →
      let s1 : State := { s with herd := { s.herd with
        bleatRx := vset s.herd.bleatRx (b2n netB) (wrap32 (vget s.herd.bleatRx (b2n netB) 0 + 1)) } }
      Answers (.bleatRx netB src data) s (acceptMaster b (countBleat b s1)))) ∧
  (∀ s : State, s.lit = true → listens s = true → s.herd.windowClosed = false →
    let s1 := forwardTo (some (s.herd.boundaryAt + 5000)) s
    let miss (v : Vector Nat 32) : Vector Nat 32 := Vector.ofFn fun m : Fin 32 =>
      if herdMember s1 m.val && m.val ≠ selfM s1 && !(s1.herd.counted.any fun b => b.member = m.val)
      then inc32 (vget v m.val 0) else vget v m.val 0
    let s2 : State := { s1 with herd := { s1.herd with
      windowClosed := true, present := seenMask s1.herd.counted, stale := s1.herd.staleNow
      missed := miss s1.herd.missed, missedTerm := miss s1.herd.missedTerm } }
    let s3 := decideMode s2
    Answers .bleatWindowClose s
      (match s3.herd.role with
       | .solo => s3
       | .master => masterQuorum s3
       | _ => if s3.herd.masterBleat then s3 else masterMissing s3))

/-- Joining, votes and elections, the end of a hold and of a mastership (R356, R364, R366 to R368). -/
def Obligations.HerdElectionCommandsComplete : Prop :=
  (∀ (c : Nat) (s : State), s.lit = true → s.herd.holdUntil = some c → c ≤ s.herd.cycle →
    Answers .holdExpiry s { s with herd := { s.herd with grant := 0, holdUntil := none } }) ∧
  (∀ s : State, s.lit = true → listens s = true → s.herd.joinLeft = 0 →
    (s.herd.role = .member → s.time.valid = true → Answers .joinCyclesExpiry s { s with herd := { s.herd with
      role := if s.herd.standby = selfM s ∧ shadowFault s = false then .standby else .referee } }) ∧
    (s.herd.role = .referee → s.herdN .joinCycles ≤ s.herd.noMaster → s.herd.candidate = none → s.herd.windowClosed = true →
      mayStand s = true → bestCandidate s s.herd.counted = some (selfM s) → Answers .joinCyclesExpiry s (requestVotes 0 s))) ∧
  (∀ (netB : Bool) (src : Nat) (data : Bytes) (s : State), let cand := rd data 24 1
    let t0 := rd data 12 4
    s.lit = true → listens s = true → herdOk s 2 36 src data = true → rd data 8 1 = cand → storeFailed s = false →
    (s.herd.role = .referee ∨ s.herd.role = .standby) → ¬(t0 = s.herd.term ∧ s.herd.grantedTo = some cand) →
    (voteFails s cand (rd data 25 1) t0 = none → Answers (.voteReqRx netB src data) s (sendVote t0 cand none
      { s with herd := { s.herd with term := t0, grantedTo := some cand, votesGranted := inc32 s.herd.votesGranted } })) ∧
    (∀ i, voteFails s cand (rd data 25 1) t0 = some i →
      Answers (.voteReqRx netB src data) s (sendVote t0 cand (some i) s))) ∧
  (∀ (netB : Bool) (src : Nat) (data : Bytes) (x : Nat × Nat × Nat) (s : State), s.lit = true → listens s = true →
    herdOk s 3 36 src data = true → s.herd.candidate = some x → rd data 12 4 = x.1 → rd data 24 1 = selfM s →
    rd data 25 1 = 1 → (∀ v ∈ s.herd.votes, v ≠ rd data 8 1) → s.us ≤ s.herd.boundaryAt + 9000 →
    Answers (.voteRx netB src data) s { s with herd := { s.herd with votes := rd data 8 1 :: s.herd.votes } }) ∧
  (∀ (x : Nat × Nat × Nat) (s : State), s.lit = true → s.herd.candidate = some x →
    let s1 := forwardTo (some (s.herd.boundaryAt + 9000)) s
    (quorum s1 ≤ s.herd.votes.length → ∃ t, exec .voteDeadline s = .next t ∧ t.herd.role = .master ∧ t.herd.term = x.1 ∧
      t.herd.candidate = none ∧ t.herd.grantedTo = some (selfM s)) ∧
    (s.herd.votes.length < quorum s1 → x.2.2 = 0 →
      Answers .voteDeadline s { s1 with herd := { s1.herd with candidate := some (x.1, x.2.1, 1) } }) ∧
    (s.herd.votes.length < quorum s1 → x.2.2 ≠ 0 →
      ∃ t, exec .voteDeadline s = .next t ∧ t.herd.candidate = none ∧ t.herd.votes = [] ∧ t.herd.role = s.herd.role)) ∧
  (∀ s : State, s.lit = true → s.herd.role = .master → 3 ≤ s.herd.noQuorum →
    ∃ t, exec .masterStepDown s = .next t ∧ t.herd.role = .referee ∧ t.herd.grant = 0 ∧ RaisedOnce 205 s t)

/-- The master sends its mirror, the standby stores it, and a standby whose computation differs too often leaves that role
(R370 to R372). -/
def Obligations.HerdMirrorCommandsComplete : Prop :=
  (∀ s : State, s.lit = true → listens s = true → s.herd.role = .master → s.herd.fragment = 0 →
    let s1 := forwardTo (some (s.herd.boundaryAt + 1000)) s
    let snap := snapshotOf s1
    let part := snap.take 256
    snap ≠ [] →
    Answers .mirrorTx s (sendHerd (sealRec (herdHead s1 4 s1.herd.term ++ le 4 s1.herd.mirrorSeq ++ le 1 0
      ++ le 1 ((snap.length + 255) / 256) ++ le 2 part.length ++ part))
      { s1 with herd := { s1.herd with snapshot := snap, fragment := 1 } })) ∧
  (∀ (netB : Bool) (src : Nat) (data : Bytes) (s : State), let len := rd data 30 2
    let m : Mirror := ⟨rd data 24 4, rd data 12 4, rd data 29 1, [(rd data 28 1, (data.drop 32).take len)], []⟩
    s.lit = true → listens s = true → s.herd.role = .standby → len ≤ 256 → rd data 28 1 < rd data 29 1 →
    herdOk s 4 (36 + len) src data = true → s.herd.term ≤ rd data 12 4 → rd data 8 1 = s.herd.master →
    s.herd.partialM = none →
    (assemble m = none → Answers (.mirrorRx netB src data) s { s with herd := { s.herd with partialM := some m } }) ∧
    (∀ d, assemble m = some d → Answers (.mirrorRx netB src data) s { s with herd := { s.herd with
      active := some { m with data := d, parts := [] }, activeAt := rd d 8 8, partialM := none } })) ∧
  (∀ s : State, s.lit = true → s.herd.role = .standby → s.herdN .shadowMissMax ≤ s.herd.shadowRun → shadowFault s = false →
    ∃ t, exec .shadowFault s = .next t ∧ t.herd.role = .referee ∧ shadowFault t = true ∧ RaisedOnce 205 s t)

/-! ## Supplies, start and restart, Graze -/

/-- Precharge, the DRIVE input, regeneration, insulation, contact feeds, encoder supplies and temperatures (R414, R433, R435 to
R438, R443, R448). -/
def Obligations.SupplyCommandsComplete : Prop :=
  (∀ (mV ms : Nat) (at_ : Nat) (s : State), s.lit = true → s.sup.precharging = some at_ →
    (600 * nomFor s mV < mV → ∃ t, exec (.prechargeComplete mV ms) s = .next t ∧ t.sup.precharged = true ∧
      t.sup.precharging = none ∧ t.sup.driveVolt = mV ∧ t.sup.driveNom = nomFor s mV ∧ t.boot.prechargeMs = ms ∧
      supBit t 12 = false) ∧
    (∃ t, exec .prechargeTimeout s = .next t ∧ t.sup.precharging = none ∧ t.sup.retryAt = some (t.us + 10000000) ∧
      at_ + 1000 * s.modN .prechargeTimeoutMs ≤ t.us ∧ supBit t 12 = true ∧ RaisedOnce 192 s t)) ∧
  (∀ (at_ : Nat) (s : State), s.lit = true → s.sup.retryAt = some at_ → s.sup.powerMode = 0 →
    ∃ t, exec .prechargeRetry s = .next t ∧ t.sup.precharging = some t.us ∧ t.sup.retryAt = none ∧ at_ ≤ t.us) ∧
  (∀ (ms mJ : Nat) (s : State), s.lit = true →
    (∃ t, exec (.driveInputLoss ms) s = .next t ∧ t.sup.precharged = false ∧ t.sup.dischargeMs = ms) ∧
    (s.sup.precharged = false → s.sup.precharging = none → s.sup.powerMode = 0 → s.boot.power = .on →
      ∃ t, exec .driveInputReturn s = .next t ∧ t.sup.precharging = some s.us) ∧
    (∃ t, exec (.driveBreakerTrip ms) s = .next t ∧ t.sup.precharged = false ∧ supBit t 4 = true ∧ RaisedOnce 192 s t) ∧
    (∃ t, exec (.regenEpisodeEnd mJ) s = .next t ∧ t.sup.regenMj = mJ ∧ t.sup.regenEpisodes = inc32 s.sup.regenEpisodes ∧
      t.sup.regenLockEnd = (if 30000 < mJ then some (s.us + 60000000) else s.sup.regenLockEnd) ∧
      (30000 < mJ → supBit t 5 = true ∧ RaisedOnce 192 s t) ∧ (mJ ≤ 30000 → t.ev = s.ev)) ∧
    (∀ at_, s.sup.regenLockEnd = some at_ →
      ∃ t, exec .regenLockExpiry s = .next t ∧ t.sup.regenLockEnd = none ∧ at_ ≤ t.us)) ∧
  (∀ (k : Nat) (s : State), s.lit = true → s.sup.precharged = true →
    (s.modN .insulLimitKohm ≤ k → ∃ t, exec (.insulationMeasurement k) s = .next t ∧ supBit t 11 = false ∧ t.sup.insulLow = 0) ∧
    (k < s.modN .insulLimitKohm → s.sup.insulLow < 2 → ∃ t, exec (.insulationMeasurement k) s = .next t ∧
      t.sup.insulLow = s.sup.insulLow + 1 ∧ t.sup.status = s.sup.status ∧ t.ev = s.ev) ∧
    (k < s.modN .insulLimitKohm → 2 ≤ s.sup.insulLow → supBit s 11 = false → ∃ t, exec (.insulationMeasurement k) s = .next t ∧
      supBit t 11 = true ∧ supBit t 1 = true ∧ RaisedOnce 192 s t)) ∧
  (∀ (feed : Fin 18) (d : Fin 8) (s : State), s.lit = true →
    (∃ t, exec (.contactFeedOverload feed) s = .next t ∧ t.sup.cfOff.getLsbD feed.val = true ∧
      get t.sup.cfRetry feed.val = some (s.us + 1000000)) ∧
    (∀ at_, get s.sup.cfRetry feed.val = some at_ → ∃ t, exec (.contactFeedRetry feed) s = .next t ∧
      t.sup.cfOff.getLsbD feed.val = false ∧ get t.sup.cfRetry feed.val = none ∧ at_ ≤ t.us) ∧
    (∃ t, exec (.encoderSupplyOverload d) s = .next t ∧ t.sup.encOff.getLsbD d.val = true ∧
      get t.sup.encRetry d.val = some (s.us + 1000000)) ∧
    (∀ at_, get s.sup.encRetry d.val = some at_ → ∃ t, exec (.encoderSupplyRetry d) s = .next t ∧
      t.sup.encOff.getLsbD d.val = false ∧ get t.sup.encRetry d.val = none ∧ at_ ≤ t.us) ∧
    (∀ refs, Answers (.contactFeedDarkPulse feed refs) s (darkContacts (refs.filter (feedServes feed.val)) s))) ∧
  (∀ (x : Int) (s : State), s.lit = true →
    (s.modp .baseTempWarn ≤ x → tempBit s 7 = false → ∃ t, exec (.baseTempWarn x) s = .next t ∧ tempBit t 7 = true ∧
      t.sup.baseTemp = x ∧ RaisedOnce 193 s t) ∧
    (1300 ≤ x → tempBit s 6 = false → ∃ t, exec (.baseTempLimit x) s = .next t ∧ tempBit t 6 = true ∧
      t.sup.basePeak = max s.sup.basePeak x ∧ RaisedOnce 193 s t) ∧
    (x < 1250 → ∃ t, exec (.baseLimitCleared x) s = .next t ∧ tempBit t 6 = false ∧ t.ev = s.ev) ∧
    (1400 ≤ x → tempBit s 4 = false → ∃ t, exec (.logicTempHot x) s = .next t ∧ tempBit t 4 = true ∧ t.sup.logicTemp = x ∧
      RaisedOnce 193 s t))

/-- Supply applied and WAKE, the loss of the logic supply bridged or not, and the end of the hold-up (R402, R433, R434,
R446). -/
def Obligations.PowerCommandsComplete : Prop :=
  (∀ s : State, s.boot.power = .off ∨ s.boot.power = .sleep ∨ s.boot.power = .halted →
    let s1 : State := { s with sup := { s.sup with nomDue := true } }
    Answers .powerOn s (fullStart 0 s1) ∧ (fullStart 0 s1).boot.step = 1 ∧ (fullStart 0 s1).boot.power = .on ∧
    (fullStart 0 s1).boot.cause = 0 ∧ (fullStart 0 s1).sup.nomDue = true) ∧
  (∀ s : State,
    (s.boot.power = .sleep → ∃ t, exec .wake s = .next t ∧ t.boot.power = .on ∧ t.boot.step = 1 ∧ t.sup.wakeSrc = 4) ∧
    (s.boot.power = .on → s.sup.powerMode = 1 → Answers .wake s (leaveStandby 3 s))) ∧
  (∀ s : State, s.boot.power ≠ .off → s.boot.power ≠ .sleep → s.sup.holdupSince = none →
    ∃ t, exec .logicInterruption s = .next t ∧ t.sup.holdupSince = some s.us ∧ supBit t 14 = true) ∧
  (∀ (ms at_ : Nat) (s : State), s.boot.power = .on → s.sup.holdupSince = some at_ →
    (ms < 20 → ∃ t, exec (.logicBridged ms) s = .next t ∧ t.sup.holdupSince = none ∧ t.sup.bridged = inc32 s.sup.bridged ∧
      t.sup.longestBridge = max s.sup.longestBridge ms ∧ supBit t 14 = false ∧ supBit t 2 = true) ∧
    (∃ t, exec .powerFailWarning s = .next t ∧ t.boot.power = .shutdown ∧ supBit t 3 = true ∧
      t.sup.pfWarnings = inc32 s.sup.pfWarnings ∧ (∀ o : Fin 4, (t.out o.val).isOpen) ∧ at_ + 20000 ≤ t.us)) ∧
  (∀ s : State, s.boot.power = .shutdown →
    ∃ t, exec .holdupRelease s = .next t ∧ t.boot.power = .off ∧ t.jrn.queue = []) ∧
  (∀ (mV : Nat) (s : State),
    let nom := (takeLogicVolt mV s).sup.logicNom
    (s.sup.nomDue = false → nom = s.sup.logicNom) ∧
    (s.sup.nomDue = true → nom = if mV < 40000 then 24 else if mV ≤ 91000 then 72 else 110) ∧
    (mV < 700 * nom → supBit s 15 = false → ∃ t, exec (.lowLogic mV) s = .next t ∧ supBit t 15 = true ∧
      t.sup.logicVolt = sat32 mV ∧ t.sup.logicNom = nom ∧ RaisedOnce 192 s t) ∧
    (700 * nom ≤ mV → ∃ t, exec (.lowLogic mV) s = .next t ∧ supBit t 15 = false ∧ t.ev = s.ev))

/-- The steps of a start in their order, the confirmation of a TRIAL bank and the return of a restarted lane (R405 to R409, R415,
R418 to R420, R423). -/
def Obligations.StartCommandsComplete : Prop :=
  (∀ s : State, s.boot.power = .on → s.boot.step = 1 →
    (∃ t, exec (.laneBootDone true) s = .next t ∧ t.boot.step = 3 ∧ s.boot.stepUs + 1250000 ≤ t.us) ∧
    Answers (.laneBootDone false) s (failTry s.boot.cause (forwardTo (some (s.boot.stepUs + 1250000)) s))) ∧
  (∀ (r : StoreReport) (s : State), s.boot.power = .on → s.boot.step = 3 →
    (∃ t, exec (.storeCheckDone r) s = .next t ∧ t.boot.step = 5 ∧ t.sup.precharging.isSome = true ∧
      t.boot.storeCheckMs = min r.ms 2000 ∧ (t.boot.info.getLsbD 7 = true ↔ ¬(r.passed = true ∧ r.ms ≤ 2000))) ∧
    (∃ t, exec .storeCheckTimeout s = .next t ∧ t.boot.step = 5 ∧ t.boot.info.getLsbD 7 = true ∧ t.boot.warm = false)) ∧
  (∀ (refs : List ContactRef) (s : State), s.boot.power = .on → s.boot.step = 5 →
    ∃ t, exec (.contactDarkTestEnd refs) s = .next t ∧ t.boot.step = 6 ∧ t.boot.feedsOnAt = t.us ∧ t.us = s.us + 20000) ∧
  (∀ s : State, s.boot.power = .on → s.boot.step = 6 → heardHerd s = true →
    ∃ t, exec .startStep7 s = .next t ∧ t.boot.step = 0 ∧ filtersDone s ≤ t.us) ∧
  (∀ (at_ : Nat) (s : State), s.lit = true → s.boot.confirmFrom = some at_ → trial s = true → s.boot.activeBank < 2 →
    ∃ t, exec .trialConfirmation s = .next t ∧ bankState t s.boot.activeBank = 3 ∧ t.boot.bootTries = 0 ∧
      t.boot.confirmFrom = none ∧ RaisedOnce 196 s t) ∧
  (∀ (lane : Lane) (cause : Nat) (s : State), s.boot.power = .on →
    (s.boot.laneDown.find? fun x => x.1 == lane) = some (lane, cause) →
    ∃ t, exec (.laneRestartDone lane) s = .next t ∧ t.boot.laneDown = s.boot.laneDown.filter (fun x => x.1 != lane) ∧
      laneUp t lane = true ∧ t.boot.cause = cause ∧ t.saf.lanes.goodRun = 0)

/-- An item of Graze that may run records its verdict, the STO path test goes through its steps, and an item that is late is
reported once (R465, R466, R469, R470). -/
def Obligations.GrazeCommandsComplete : Prop :=
  (∀ (i : Fin 13) (k : Nat) (s : State), s.lit = true → grazeMay s i.val k = true → i.val ≠ 5 → i.val ≠ 6 → i.val ≠ 12 →
    Answers (.grazeItemRun i k true) s (takeResult i.val k true s) ∧
    Answers (.grazeItemRun i k false) s (itemFails i.val k (takeResult i.val k false s))) ∧
  (∀ (k : Nat) (pass : Bool) (s : State), s.lit = true →
    (grazeMay s 5 k = true → s.graze.sto = none → Answers (.grazeItemRun 5 k pass) s (stoEnable (k / 2) 1 s)) ∧
    (grazeMay s 6 k = true → s.graze.stepCheck = none → Answers (.grazeItemRun 6 k pass) s (startStepCheck k pass s)) ∧
    (grazeMay s 12 k = true →
      let t := takeResult 12 k (decide (s.herd.shadowMis = s.graze.shadowBase)) s
      Answers (.grazeItemRun 12 k pass) s { t with graze := { t.graze with shadowBase := s.herd.shadowMis } }) ∧
    (s.herd.role ≠ .standby → Answers (.grazeItemRun 12 k pass) s
      { s with graze := { s.graze with items := vset s.graze.items 12 { grazeItem s 12 with result := 0 } } })) ∧
  (∀ (a : Fin 24) (ok : Bool) (at_ : Nat) (s : State), s.lit = true → (s.axis a.val).drive.demandIbex = false →
    (s.axis a.val).drive.demandChamois = false →
    let s1 := forwardTo (some at_) s
    (s.graze.sto = some (a.val, 1, at_) → Answers (.grazeStoTestStep a ok) s (stoDrop a.val 2 false s1)) ∧
    (s.graze.sto = some (a.val, 2, at_) →
      Answers (.grazeStoTestStep a ok) s (if ok && heldAtPark s1 a.val then stoPass a.val 0 3 s1 else stoFail a.val 0 s1)) ∧
    (s.graze.sto = some (a.val, 3, at_) → Answers (.grazeStoTestStep a ok) s (stoEnable a.val 4 s1)) ∧
    (s.graze.sto = some (a.val, 4, at_) → Answers (.grazeStoTestStep a ok) s (stoDrop a.val 5 true s1)) ∧
    (s.graze.sto = some (a.val, 5, at_) →
      Answers (.grazeStoTestStep a ok) s (if ok && heldAtPark s1 a.val then stoPass a.val 1 6 s1 else stoFail a.val 1 s1)) ∧
    (s.graze.sto = some (a.val, 6, at_) → Answers (.grazeStoTestStep a ok) s (stoEnable a.val 7 s1)) ∧
    (s.graze.sto = some (a.val, 7, at_) →
      Answers (.grazeStoTestStep a ok) s (reqPark a.val (setSto none (endEnableRamp a.val s1))).1)) ∧
  (∀ (i : Fin 13) (s : State), s.lit = true → itemOn s i.val = true → (grazeItem s i.val).overdue = false →
    ∃ t, exec (.grazeOverdue i) s = .next t ∧ (grazeItem t i.val).overdue = true ∧
      t.graze.overdue.getLsbD (i.val - 1) = true ∧ RaisedOnce 218 s t)

/-! ## Rules over all states -/

/-- R34: doorway d is proven closed and locked in a lane exactly when closed pair 3d, locked pair 3d + 1 and egress pair 3d + 2
are active there and, where slot s2 is configured, both lanes' counts of axis 3d + 2 lie at or below STEP_SAFE_POS. Proof depends
on these inputs and the configuration in force only, not on the state of the doorway: lanes that see the same pairs prove the
same. -/
def Obligations.ProofFollowsItsInputs : Prop :=
  (∀ (lane : Lane) (d : Fin 8) (s : State), s.doorOn d.val = true →
    (proven s lane d.val = true ↔
      pairResult s lane (3 * d.val) = .active ∧ pairResult s lane (3 * d.val + 1) = .active ∧
      pairResult s lane (3 * d.val + 2) = .active ∧
      (s.slotOn d.val 2 = true →
        posAt s (3 * d.val + 2) (s.axis (3 * d.val + 2)).fb.count ≤ (s.dwp d.val .stepSafePos : Rat) ∧
        posAt s (3 * d.val + 2) (s.axis (3 * d.val + 2)).fb.dup ≤ (s.dwp d.val .stepSafePos : Rat)))) ∧
  (∀ (lane other : Lane) (d : Fin 8) (x : Doorway) (s : State),
    (∀ p : Nat, pairResult s lane p = pairResult s other p) → x.held = (s.door d.val).held →
    proven s lane d.val = proven s other d.val ∧ proven (s.setDoor d.val x) lane d.val = proven s lane d.val)

/-- R234: the factory defaults of MODE and OWNER of every field pin, the same in both sets: the coils and the warning of a
doorway group belong to the sequencer, pins 2 and 3 of a group are outputs of the logic, all others are inputs of the logic. -/
def Obligations.PinDefaultsFollowTheTable : Prop :=
  ∀ (set : Nat), (set = 1 ∨ set = 2) →
    (∀ d : Nat, d < 8 →
      (∀ k ∈ [0, 1, 5], (Par.io (12 * d + k) .mode).dflt set = 2 ∧ (Par.io (12 * d + k) .owner).dflt set = 1) ∧
      (∀ k ∈ [2, 3], (Par.io (12 * d + k) .mode).dflt set = 2 ∧ (Par.io (12 * d + k) .owner).dflt set = 0) ∧
      (∀ k ∈ [4, 6, 7, 8, 9, 10, 11], (Par.io (12 * d + k) .mode).dflt set = 1 ∧ (Par.io (12 * d + k) .owner).dflt set = 0)) ∧
    (∀ n : Nat, 96 ≤ n → n < 112 → (Par.io n .mode).dflt set = 1 ∧ (Par.io n .owner).dflt set = 0)

/-- R297: the fifth failed LOGIN from one source address within 60 s locks that address out for 60 s; while it is locked out
every LOGIN from it is answered AUTH_FAILED, detail 3, and neither the nonce nor the tag is looked at. -/
def Obligations.FailedLoginsLockTheAddressOut : Prop :=
  (∀ (src : Nat) (s : State), lockedOut s src = false →
    (4 ≤ (s.kcp.logins.filter fun x => x.1 = src && s.us < x.2 + 60000000).length →
      get (loginFailed src s).kcp.lockouts src = some (s.us + 60000000) ∧
      (∀ t : State, t.kcp = (loginFailed src s).kcp → (lockedOut t src = true ↔ t.us < s.us + 60000000))) ∧
    ((s.kcp.logins.filter fun x => x.1 = src && s.us < x.2 + 60000000).length < 4 →
      lockedOut (loginFailed src s) src = false)) ∧
  (∀ (q : Req) (s : State), let s0 := touch q.session s
    Ready s opLogin q → lockedOut s0 q.src = true → Replies (.login q) opLogin q (.bad .authFailed 3) s s0) ∧
  (∀ (p : Packet) (s : State), lockedOut s p.q.src = true → loginPacket p s = early p .authFailed 3 s)

/-! ## What commands leave alone -/

/-- Commands that only read change nothing but the protocol's own state, the draws of free values and what a sent frame counts
at its ports, where no restart and no SLEEP waits for the reply and the request's SEQ does not end its session (R285, R403, R446). -/
def Obligations.ReadsChangeOnlyTheProtocol : Prop :=
  ∀ (q : Req) (s t : State), OutputsGated s → s.boot.restartPending = none → s.sup.powerMode ≠ 2 → q.seq ≠ 0xFFFF →
    ∀ c ∈ [Instr.hello q, .keepalive q, .paramRead q, .eventPoll q, .doorStatus q, .varRead q, .jrnRead q, .jrnStats q,
      .timeStatus q, .herdStatus q, .grazeReport q],
    exec c s = .next t →
      t = { s with kcp := t.kcp, fresh := t.fresh, net := { s.net with ports := t.net.ports, prpTx := t.net.prpTx } }

/-- Reports of the field pins change the pins, the event sources, the journal and the triggers of the logic; a report of one pin
leaves the others as they were. -/
def Obligations.PinReportsLeaveTheRestAlone : Prop :=
  (∀ (n : Fin 112) (b : Bool) (g : Fin 9) (x : Nat) (s t : State), OutputsGated s →
    ∀ c ∈ [Instr.fieldInputFiltered n b, .countEdge n b, .outputOverload n, .outputOvertemp ⟨n, b⟩, .outputOpenLoad ⟨n, x⟩,
      .demagOver n, .reverseCurrent n, .shortCandidate n, .probePulse n b, .fieldSupplyMissing g x, .fieldSupplyLow g x,
      .fieldSupplyRecovered g x, .fgCurrentWarning g x],
    exec c s = .next t →
      t = { s with io := t.io, groups := t.groups, probe := t.probe, probeNext := t.probeNext, ev := t.ev, jrn := t.jrn,
                   logic := t.logic }) ∧
  (∀ (n : Fin 112) (b : Bool) (x k : Nat) (s t : State), k ≠ n.val →
    ∀ c ∈ [Instr.fieldInputFiltered n b, .countEdge n b, .outputOverload n, .outputOvertemp ⟨n, b⟩, .outputOpenLoad ⟨n, x⟩, .demagEnd n,
      .demagOver n, .reverseCurrent n],
    exec c s = .next t → t.pin k = s.pin k ∧ t.groups = s.groups)

/-- Reports of the supplies and temperatures change the supply's state, the event sources, the journal and the triggers of the
logic, and nothing else; the loss of a contact feed changes the contacts too, the loss of an encoder supply the axes that it
feeds and what follows from their feedback. -/
def Obligations.SupplyReportsLeaveTheRestAlone : Prop :=
  (∀ (x : Nat) (temp : Int) (s t : State), OutputsGated s →
    ∀ c ∈ [Instr.driveInputLoss x, .driveInputReturn, .driveBreakerTrip x, .regenEpisodeEnd x, .insulationMeasurement x,
      .baseTempWarn temp, .baseTempLimit temp, .baseLimitCleared temp, .logicTempHot temp, .lowLogic x, .logicInterruption],
    exec c s = .next t → t = { s with sup := t.sup, ev := t.ev, jrn := t.jrn, logic := t.logic }) ∧
  (∀ (feed : Fin 18) (s t : State), OutputsGated s → exec (.contactFeedOverload feed) s = .next t →
    t = { s with sup := t.sup, ev := t.ev, jrn := t.jrn, logic := t.logic
                 saf := { s.saf with pairsI := t.saf.pairsI, pairsC := t.saf.pairsC } }) ∧
  (∀ (d : Fin 8) (s t : State), OutputsGated s → exec (.encoderSupplyOverload d) s = .next t →
    t = { s with sup := t.sup, ev := t.ev, jrn := t.jrn, logic := t.logic, ax := t.ax, dw := t.dw } ∧
    (∀ b : Nat, doorOf b ≠ d.val → t.axis b = s.axis b))

/-- Links and clocks leave everything but the network, the time, the event sources, the journal and the triggers of the logic;
votes and mirror fragments leave everything but the herd and the network. -/
def Obligations.NetworkCommandsLeaveTheRestAlone : Prop :=
  (∀ (p : Port) (n : Fin 2) (m : SyncMsg) (k : AnnounceMsg) (x : Nat) (a b : Bool) (s t : State), OutputsGated s →
    ∀ c ∈ [Instr.linkLoss p, .linkUp p a, .singleLanTimeout a b, .ptpSyncRx n m, .ptpFollowUpRx n m, .ptpDelayRespRx n x,
      .ptpAnnounceRx n k, .ptpSyncTx n, .ptpDelayReqTx n],
    exec c s = .next t → t = { s with net := t.net, time := t.time, ev := t.ev, jrn := t.jrn, logic := t.logic }) ∧
  (∀ (netB : Bool) (src : Nat) (data : Bytes) (s t : State), OutputsGated s →
    ∀ c ∈ [Instr.voteReqRx netB src data, .voteRx netB src data, .mirrorRx netB src data, .holdExpiry, .joinCyclesExpiry],
    exec c s = .next t → t = { s with herd := t.herd, net := t.net })

/-- An edge, a wire disagreement or a latch of one axis leaves every other axis, every other doorway and all the rest of the
module as it was; a contact leaves all but its own pair. -/
def Obligations.FeedbackAndContactsLeaveTheRestAlone : Prop :=
  (∀ (a : Fin 24) (e : EncEdge) (w : WirePair) (l : Fin 2) (r : Bool) (x : Nat) (s t : State), OutputsGated s →
    ∀ c ∈ [Instr.encoderEdge a e, .wireDisagreement a w, .latchEdgeCapture a l r x],
    exec c s = .next t →
      t = { s with ax := t.ax, dw := t.dw, ev := t.ev, jrn := t.jrn, logic := t.logic } ∧
      (∀ b : Nat, b ≠ a.val → t.axis b = s.axis b) ∧ (∀ d : Nat, d ≠ doorOf a.val → t.door d = s.door d)) ∧
  (∀ (p : Fin 32) (second closed : Bool) (lane : Lane) (s t : State), OutputsGated s →
    exec (.safeContactChange p second lane closed) s = .next t →
      t = { s with saf := { s.saf with pairsI := t.saf.pairsI, pairsC := t.saf.pairsC } } ∧
      (∀ (other : Lane) (k : Nat), other ≠ lane ∨ k ≠ p.val → t.pair other k = s.pair other k))

/-- A timer that is not armed does nothing. -/
def Obligations.TimersThatAreNotArmedDoNothing : Prop :=
  ∀ (s : State),
    (∀ (d : Fin 8), ((s.door d.val).suspendSince = none → Answers (.dwellOverrun d) s s) ∧
      ((s.door d.val).parkAt = none → Answers (.parkDelayEnd d) s s) ∧
      ((s.door d.val).warnEnd = none → Answers (.warnEnd d) s s) ∧ ((s.door d.val).dwellEnd = none → Answers (.dwellEnd d) s s) ∧
      ((s.door d.val).timeout = none → (s.door d.val).stepTimeout = none → Answers (.sequencerTimeout d) s s) ∧
      ((s.door d.val).waitSince = none → Answers (.staggerMaxExpiry d) s s) ∧
      (get s.sup.encRetry d.val = none → Answers (.encoderSupplyRetry d) s s)) ∧
    (∀ (a : Fin 24), ((s.axis a.val).jog = none → Answers (.jogRefreshTimeout a) s s) ∧
      ((s.axis a.val).drive.holdAt = none → Answers (.holdDelayExpiry a) s s) ∧
      ((s.axis a.val).drive.ramp = none → Answers (.enableRampEnd a) s s ∧ Answers (.parkRampEnd a) s s ∧
        Answers (.disableRampEnd a) s s) ∧
      ((s.axis a.val).safeStop = none → Answers (.safeStopTimeout a) s s)) ∧
    (∀ (n : Fin 112), (s.pin n.val).pulseEnd = none → Answers (.coilPulseEnd n) s s) ∧
    (∀ (lane : Lane), ((kscOf s lane).wd = none → Answers (.kscWatchdogExpiry lane) s s) ∧
      ((kscOf s lane).windows = [] → Answers (.kscPairWindowEnd lane) s s)) ∧
    (∀ (p : Fin 32) (lane : Lane), (s.pair lane p.val).timer = none → Answers (.discrepancyExpiry p lane) s s) ∧
    (∀ (feed : Fin 18), get s.sup.cfRetry feed.val = none → Answers (.contactFeedRetry feed) s s) ∧
    (s.time.deciding = none → Answers .abDecision s s) ∧ (s.time.recoverSince = none → Answers .abRecoverExpiry s s) ∧
    (s.time.confirmSince = none → Answers .stepConfirmExpiry s s) ∧ (s.herd.holdUntil = none → Answers .holdExpiry s s) ∧
    (s.herd.candidate = none → Answers .voteDeadline s s) ∧ (s.sup.retryAt = none → Answers .prechargeRetry s s) ∧
    (s.sup.precharging = none → Answers .prechargeTimeout s s) ∧ (s.sup.regenLockEnd = none → Answers .regenLockExpiry s s) ∧
    (s.boot.confirmFrom = none → Answers .trialConfirmation s s) ∧ (s.link.sentAt = none → Answers .frameReturnTimeout s s)
end

