-- ==== Sys2Proof/Laws/State.lean ====
section
/-! SUPPORT. What each update of one part of the state does to every field: one lemma per field per update, so that no later
proof unfolds a record update; and what reading a numbered part gives after one was replaced. -/

namespace Sys2Proof.Machine

variable (s : State)


/-! `setAxis` -/

@[simp] theorem State.setAxis_pending (a : Nat) (x : Axis) : (s.setAxis a x).pending = s.pending := rfl
@[simp] theorem State.setAxis_us (a : Nat) (x : Axis) : (s.setAxis a x).us = s.us := rfl
@[simp] theorem State.setAxis_fresh (a : Nat) (x : Axis) : (s.setAxis a x).fresh = s.fresh := rfl
@[simp] theorem State.setAxis_par (a : Nat) (x : Axis) : (s.setAxis a x).par = s.par := rfl
@[simp] theorem State.setAxis_shadow (a : Nat) (x : Axis) : (s.setAxis a x).shadow = s.shadow := rfl
@[simp] theorem State.setAxis_safShadow (a : Nat) (x : Axis) : (s.setAxis a x).safShadow = s.safShadow := rfl
@[simp] theorem State.setAxis_dw (a : Nat) (x : Axis) : (s.setAxis a x).dw = s.dw := rfl
@[simp] theorem State.setAxis_saf (a : Nat) (x : Axis) : (s.setAxis a x).saf = s.saf := rfl
@[simp] theorem State.setAxis_io (a : Nat) (x : Axis) : (s.setAxis a x).io = s.io := rfl
@[simp] theorem State.setAxis_groups (a : Nat) (x : Axis) : (s.setAxis a x).groups = s.groups := rfl
@[simp] theorem State.setAxis_stations (a : Nat) (x : Axis) : (s.setAxis a x).stations = s.stations := rfl
@[simp] theorem State.setAxis_link (a : Nat) (x : Axis) : (s.setAxis a x).link = s.link := rfl
@[simp] theorem State.setAxis_logic (a : Nat) (x : Axis) : (s.setAxis a x).logic = s.logic := rfl
@[simp] theorem State.setAxis_kcp (a : Nat) (x : Axis) : (s.setAxis a x).kcp = s.kcp := rfl
@[simp] theorem State.setAxis_net (a : Nat) (x : Axis) : (s.setAxis a x).net = s.net := rfl
@[simp] theorem State.setAxis_time (a : Nat) (x : Axis) : (s.setAxis a x).time = s.time := rfl
@[simp] theorem State.setAxis_herd (a : Nat) (x : Axis) : (s.setAxis a x).herd = s.herd := rfl
@[simp] theorem State.setAxis_jrn (a : Nat) (x : Axis) : (s.setAxis a x).jrn = s.jrn := rfl
@[simp] theorem State.setAxis_ev (a : Nat) (x : Axis) : (s.setAxis a x).ev = s.ev := rfl
@[simp] theorem State.setAxis_boot (a : Nat) (x : Axis) : (s.setAxis a x).boot = s.boot := rfl
@[simp] theorem State.setAxis_sup (a : Nat) (x : Axis) : (s.setAxis a x).sup = s.sup := rfl
@[simp] theorem State.setAxis_graze (a : Nat) (x : Axis) : (s.setAxis a x).graze = s.graze := rfl
@[simp] theorem State.setAxis_tab (a : Nat) (x : Axis) : (s.setAxis a x).tab = s.tab := rfl
@[simp] theorem State.setAxis_reqs (a : Nat) (x : Axis) : (s.setAxis a x).reqs = s.reqs := rfl
@[simp] theorem State.setAxis_waitNo (a : Nat) (x : Axis) : (s.setAxis a x).waitNo = s.waitNo := rfl
@[simp] theorem State.setAxis_probe (a : Nat) (x : Axis) : (s.setAxis a x).probe = s.probe := rfl
@[simp] theorem State.setAxis_starts (a : Nat) (x : Axis) : (s.setAxis a x).starts = s.starts := rfl
@[simp] theorem State.setAxis_probeNext (a : Nat) (x : Axis) : (s.setAxis a x).probeNext = s.probeNext := rfl

/-! `setDoor` -/

@[simp] theorem State.setDoor_pending (d : Nat) (x : Doorway) : (s.setDoor d x).pending = s.pending := rfl
@[simp] theorem State.setDoor_us (d : Nat) (x : Doorway) : (s.setDoor d x).us = s.us := rfl
@[simp] theorem State.setDoor_fresh (d : Nat) (x : Doorway) : (s.setDoor d x).fresh = s.fresh := rfl
@[simp] theorem State.setDoor_par (d : Nat) (x : Doorway) : (s.setDoor d x).par = s.par := rfl
@[simp] theorem State.setDoor_shadow (d : Nat) (x : Doorway) : (s.setDoor d x).shadow = s.shadow := rfl
@[simp] theorem State.setDoor_safShadow (d : Nat) (x : Doorway) : (s.setDoor d x).safShadow = s.safShadow := rfl
@[simp] theorem State.setDoor_ax (d : Nat) (x : Doorway) : (s.setDoor d x).ax = s.ax := rfl
@[simp] theorem State.setDoor_saf (d : Nat) (x : Doorway) : (s.setDoor d x).saf = s.saf := rfl
@[simp] theorem State.setDoor_io (d : Nat) (x : Doorway) : (s.setDoor d x).io = s.io := rfl
@[simp] theorem State.setDoor_groups (d : Nat) (x : Doorway) : (s.setDoor d x).groups = s.groups := rfl
@[simp] theorem State.setDoor_stations (d : Nat) (x : Doorway) : (s.setDoor d x).stations = s.stations := rfl
@[simp] theorem State.setDoor_link (d : Nat) (x : Doorway) : (s.setDoor d x).link = s.link := rfl
@[simp] theorem State.setDoor_logic (d : Nat) (x : Doorway) : (s.setDoor d x).logic = s.logic := rfl
@[simp] theorem State.setDoor_kcp (d : Nat) (x : Doorway) : (s.setDoor d x).kcp = s.kcp := rfl
@[simp] theorem State.setDoor_net (d : Nat) (x : Doorway) : (s.setDoor d x).net = s.net := rfl
@[simp] theorem State.setDoor_time (d : Nat) (x : Doorway) : (s.setDoor d x).time = s.time := rfl
@[simp] theorem State.setDoor_herd (d : Nat) (x : Doorway) : (s.setDoor d x).herd = s.herd := rfl
@[simp] theorem State.setDoor_jrn (d : Nat) (x : Doorway) : (s.setDoor d x).jrn = s.jrn := rfl
@[simp] theorem State.setDoor_ev (d : Nat) (x : Doorway) : (s.setDoor d x).ev = s.ev := rfl
@[simp] theorem State.setDoor_boot (d : Nat) (x : Doorway) : (s.setDoor d x).boot = s.boot := rfl
@[simp] theorem State.setDoor_sup (d : Nat) (x : Doorway) : (s.setDoor d x).sup = s.sup := rfl
@[simp] theorem State.setDoor_graze (d : Nat) (x : Doorway) : (s.setDoor d x).graze = s.graze := rfl
@[simp] theorem State.setDoor_tab (d : Nat) (x : Doorway) : (s.setDoor d x).tab = s.tab := rfl
@[simp] theorem State.setDoor_reqs (d : Nat) (x : Doorway) : (s.setDoor d x).reqs = s.reqs := rfl
@[simp] theorem State.setDoor_waitNo (d : Nat) (x : Doorway) : (s.setDoor d x).waitNo = s.waitNo := rfl
@[simp] theorem State.setDoor_probe (d : Nat) (x : Doorway) : (s.setDoor d x).probe = s.probe := rfl
@[simp] theorem State.setDoor_starts (d : Nat) (x : Doorway) : (s.setDoor d x).starts = s.starts := rfl
@[simp] theorem State.setDoor_probeNext (d : Nat) (x : Doorway) : (s.setDoor d x).probeNext = s.probeNext := rfl

/-! `setPin` -/

@[simp] theorem State.setPin_pending (n : Nat) (x : Pin) : (s.setPin n x).pending = s.pending := rfl
@[simp] theorem State.setPin_us (n : Nat) (x : Pin) : (s.setPin n x).us = s.us := rfl
@[simp] theorem State.setPin_fresh (n : Nat) (x : Pin) : (s.setPin n x).fresh = s.fresh := rfl
@[simp] theorem State.setPin_par (n : Nat) (x : Pin) : (s.setPin n x).par = s.par := rfl
@[simp] theorem State.setPin_shadow (n : Nat) (x : Pin) : (s.setPin n x).shadow = s.shadow := rfl
@[simp] theorem State.setPin_safShadow (n : Nat) (x : Pin) : (s.setPin n x).safShadow = s.safShadow := rfl
@[simp] theorem State.setPin_ax (n : Nat) (x : Pin) : (s.setPin n x).ax = s.ax := rfl
@[simp] theorem State.setPin_dw (n : Nat) (x : Pin) : (s.setPin n x).dw = s.dw := rfl
@[simp] theorem State.setPin_saf (n : Nat) (x : Pin) : (s.setPin n x).saf = s.saf := rfl
@[simp] theorem State.setPin_groups (n : Nat) (x : Pin) : (s.setPin n x).groups = s.groups := rfl
@[simp] theorem State.setPin_stations (n : Nat) (x : Pin) : (s.setPin n x).stations = s.stations := rfl
@[simp] theorem State.setPin_link (n : Nat) (x : Pin) : (s.setPin n x).link = s.link := rfl
@[simp] theorem State.setPin_logic (n : Nat) (x : Pin) : (s.setPin n x).logic = s.logic := rfl
@[simp] theorem State.setPin_kcp (n : Nat) (x : Pin) : (s.setPin n x).kcp = s.kcp := rfl
@[simp] theorem State.setPin_net (n : Nat) (x : Pin) : (s.setPin n x).net = s.net := rfl
@[simp] theorem State.setPin_time (n : Nat) (x : Pin) : (s.setPin n x).time = s.time := rfl
@[simp] theorem State.setPin_herd (n : Nat) (x : Pin) : (s.setPin n x).herd = s.herd := rfl
@[simp] theorem State.setPin_jrn (n : Nat) (x : Pin) : (s.setPin n x).jrn = s.jrn := rfl
@[simp] theorem State.setPin_ev (n : Nat) (x : Pin) : (s.setPin n x).ev = s.ev := rfl
@[simp] theorem State.setPin_boot (n : Nat) (x : Pin) : (s.setPin n x).boot = s.boot := rfl
@[simp] theorem State.setPin_sup (n : Nat) (x : Pin) : (s.setPin n x).sup = s.sup := rfl
@[simp] theorem State.setPin_graze (n : Nat) (x : Pin) : (s.setPin n x).graze = s.graze := rfl
@[simp] theorem State.setPin_tab (n : Nat) (x : Pin) : (s.setPin n x).tab = s.tab := rfl
@[simp] theorem State.setPin_reqs (n : Nat) (x : Pin) : (s.setPin n x).reqs = s.reqs := rfl
@[simp] theorem State.setPin_waitNo (n : Nat) (x : Pin) : (s.setPin n x).waitNo = s.waitNo := rfl
@[simp] theorem State.setPin_probe (n : Nat) (x : Pin) : (s.setPin n x).probe = s.probe := rfl
@[simp] theorem State.setPin_starts (n : Nat) (x : Pin) : (s.setPin n x).starts = s.starts := rfl
@[simp] theorem State.setPin_probeNext (n : Nat) (x : Pin) : (s.setPin n x).probeNext = s.probeNext := rfl

/-! `modAxis` -/

@[simp] theorem State.modAxis_pending (i : Nat) (f : Axis → Axis) : (s.modAxis i f).pending = s.pending := rfl
@[simp] theorem State.modAxis_us (i : Nat) (f : Axis → Axis) : (s.modAxis i f).us = s.us := rfl
@[simp] theorem State.modAxis_fresh (i : Nat) (f : Axis → Axis) : (s.modAxis i f).fresh = s.fresh := rfl
@[simp] theorem State.modAxis_par (i : Nat) (f : Axis → Axis) : (s.modAxis i f).par = s.par := rfl
@[simp] theorem State.modAxis_shadow (i : Nat) (f : Axis → Axis) : (s.modAxis i f).shadow = s.shadow := rfl
@[simp] theorem State.modAxis_safShadow (i : Nat) (f : Axis → Axis) : (s.modAxis i f).safShadow = s.safShadow := rfl
@[simp] theorem State.modAxis_dw (i : Nat) (f : Axis → Axis) : (s.modAxis i f).dw = s.dw := rfl
@[simp] theorem State.modAxis_saf (i : Nat) (f : Axis → Axis) : (s.modAxis i f).saf = s.saf := rfl
@[simp] theorem State.modAxis_io (i : Nat) (f : Axis → Axis) : (s.modAxis i f).io = s.io := rfl
@[simp] theorem State.modAxis_groups (i : Nat) (f : Axis → Axis) : (s.modAxis i f).groups = s.groups := rfl
@[simp] theorem State.modAxis_stations (i : Nat) (f : Axis → Axis) : (s.modAxis i f).stations = s.stations := rfl
@[simp] theorem State.modAxis_link (i : Nat) (f : Axis → Axis) : (s.modAxis i f).link = s.link := rfl
@[simp] theorem State.modAxis_logic (i : Nat) (f : Axis → Axis) : (s.modAxis i f).logic = s.logic := rfl
@[simp] theorem State.modAxis_kcp (i : Nat) (f : Axis → Axis) : (s.modAxis i f).kcp = s.kcp := rfl
@[simp] theorem State.modAxis_net (i : Nat) (f : Axis → Axis) : (s.modAxis i f).net = s.net := rfl
@[simp] theorem State.modAxis_time (i : Nat) (f : Axis → Axis) : (s.modAxis i f).time = s.time := rfl
@[simp] theorem State.modAxis_herd (i : Nat) (f : Axis → Axis) : (s.modAxis i f).herd = s.herd := rfl
@[simp] theorem State.modAxis_jrn (i : Nat) (f : Axis → Axis) : (s.modAxis i f).jrn = s.jrn := rfl
@[simp] theorem State.modAxis_ev (i : Nat) (f : Axis → Axis) : (s.modAxis i f).ev = s.ev := rfl
@[simp] theorem State.modAxis_boot (i : Nat) (f : Axis → Axis) : (s.modAxis i f).boot = s.boot := rfl
@[simp] theorem State.modAxis_sup (i : Nat) (f : Axis → Axis) : (s.modAxis i f).sup = s.sup := rfl
@[simp] theorem State.modAxis_graze (i : Nat) (f : Axis → Axis) : (s.modAxis i f).graze = s.graze := rfl
@[simp] theorem State.modAxis_tab (i : Nat) (f : Axis → Axis) : (s.modAxis i f).tab = s.tab := rfl
@[simp] theorem State.modAxis_reqs (i : Nat) (f : Axis → Axis) : (s.modAxis i f).reqs = s.reqs := rfl
@[simp] theorem State.modAxis_waitNo (i : Nat) (f : Axis → Axis) : (s.modAxis i f).waitNo = s.waitNo := rfl
@[simp] theorem State.modAxis_probe (i : Nat) (f : Axis → Axis) : (s.modAxis i f).probe = s.probe := rfl
@[simp] theorem State.modAxis_starts (i : Nat) (f : Axis → Axis) : (s.modAxis i f).starts = s.starts := rfl
@[simp] theorem State.modAxis_probeNext (i : Nat) (f : Axis → Axis) : (s.modAxis i f).probeNext = s.probeNext := rfl

/-! `modDoor` -/

@[simp] theorem State.modDoor_pending (i : Nat) (f : Doorway → Doorway) : (s.modDoor i f).pending = s.pending := rfl
@[simp] theorem State.modDoor_us (i : Nat) (f : Doorway → Doorway) : (s.modDoor i f).us = s.us := rfl
@[simp] theorem State.modDoor_fresh (i : Nat) (f : Doorway → Doorway) : (s.modDoor i f).fresh = s.fresh := rfl
@[simp] theorem State.modDoor_par (i : Nat) (f : Doorway → Doorway) : (s.modDoor i f).par = s.par := rfl
@[simp] theorem State.modDoor_shadow (i : Nat) (f : Doorway → Doorway) : (s.modDoor i f).shadow = s.shadow := rfl
@[simp] theorem State.modDoor_safShadow (i : Nat) (f : Doorway → Doorway) : (s.modDoor i f).safShadow = s.safShadow := rfl
@[simp] theorem State.modDoor_ax (i : Nat) (f : Doorway → Doorway) : (s.modDoor i f).ax = s.ax := rfl
@[simp] theorem State.modDoor_saf (i : Nat) (f : Doorway → Doorway) : (s.modDoor i f).saf = s.saf := rfl
@[simp] theorem State.modDoor_io (i : Nat) (f : Doorway → Doorway) : (s.modDoor i f).io = s.io := rfl
@[simp] theorem State.modDoor_groups (i : Nat) (f : Doorway → Doorway) : (s.modDoor i f).groups = s.groups := rfl
@[simp] theorem State.modDoor_stations (i : Nat) (f : Doorway → Doorway) : (s.modDoor i f).stations = s.stations := rfl
@[simp] theorem State.modDoor_link (i : Nat) (f : Doorway → Doorway) : (s.modDoor i f).link = s.link := rfl
@[simp] theorem State.modDoor_logic (i : Nat) (f : Doorway → Doorway) : (s.modDoor i f).logic = s.logic := rfl
@[simp] theorem State.modDoor_kcp (i : Nat) (f : Doorway → Doorway) : (s.modDoor i f).kcp = s.kcp := rfl
@[simp] theorem State.modDoor_net (i : Nat) (f : Doorway → Doorway) : (s.modDoor i f).net = s.net := rfl
@[simp] theorem State.modDoor_time (i : Nat) (f : Doorway → Doorway) : (s.modDoor i f).time = s.time := rfl
@[simp] theorem State.modDoor_herd (i : Nat) (f : Doorway → Doorway) : (s.modDoor i f).herd = s.herd := rfl
@[simp] theorem State.modDoor_jrn (i : Nat) (f : Doorway → Doorway) : (s.modDoor i f).jrn = s.jrn := rfl
@[simp] theorem State.modDoor_ev (i : Nat) (f : Doorway → Doorway) : (s.modDoor i f).ev = s.ev := rfl
@[simp] theorem State.modDoor_boot (i : Nat) (f : Doorway → Doorway) : (s.modDoor i f).boot = s.boot := rfl
@[simp] theorem State.modDoor_sup (i : Nat) (f : Doorway → Doorway) : (s.modDoor i f).sup = s.sup := rfl
@[simp] theorem State.modDoor_graze (i : Nat) (f : Doorway → Doorway) : (s.modDoor i f).graze = s.graze := rfl
@[simp] theorem State.modDoor_tab (i : Nat) (f : Doorway → Doorway) : (s.modDoor i f).tab = s.tab := rfl
@[simp] theorem State.modDoor_reqs (i : Nat) (f : Doorway → Doorway) : (s.modDoor i f).reqs = s.reqs := rfl
@[simp] theorem State.modDoor_waitNo (i : Nat) (f : Doorway → Doorway) : (s.modDoor i f).waitNo = s.waitNo := rfl
@[simp] theorem State.modDoor_probe (i : Nat) (f : Doorway → Doorway) : (s.modDoor i f).probe = s.probe := rfl
@[simp] theorem State.modDoor_starts (i : Nat) (f : Doorway → Doorway) : (s.modDoor i f).starts = s.starts := rfl
@[simp] theorem State.modDoor_probeNext (i : Nat) (f : Doorway → Doorway) : (s.modDoor i f).probeNext = s.probeNext := rfl

/-! `modPin` -/

@[simp] theorem State.modPin_pending (i : Nat) (f : Pin → Pin) : (s.modPin i f).pending = s.pending := rfl
@[simp] theorem State.modPin_us (i : Nat) (f : Pin → Pin) : (s.modPin i f).us = s.us := rfl
@[simp] theorem State.modPin_fresh (i : Nat) (f : Pin → Pin) : (s.modPin i f).fresh = s.fresh := rfl
@[simp] theorem State.modPin_par (i : Nat) (f : Pin → Pin) : (s.modPin i f).par = s.par := rfl
@[simp] theorem State.modPin_shadow (i : Nat) (f : Pin → Pin) : (s.modPin i f).shadow = s.shadow := rfl
@[simp] theorem State.modPin_safShadow (i : Nat) (f : Pin → Pin) : (s.modPin i f).safShadow = s.safShadow := rfl
@[simp] theorem State.modPin_ax (i : Nat) (f : Pin → Pin) : (s.modPin i f).ax = s.ax := rfl
@[simp] theorem State.modPin_dw (i : Nat) (f : Pin → Pin) : (s.modPin i f).dw = s.dw := rfl
@[simp] theorem State.modPin_saf (i : Nat) (f : Pin → Pin) : (s.modPin i f).saf = s.saf := rfl
@[simp] theorem State.modPin_groups (i : Nat) (f : Pin → Pin) : (s.modPin i f).groups = s.groups := rfl
@[simp] theorem State.modPin_stations (i : Nat) (f : Pin → Pin) : (s.modPin i f).stations = s.stations := rfl
@[simp] theorem State.modPin_link (i : Nat) (f : Pin → Pin) : (s.modPin i f).link = s.link := rfl
@[simp] theorem State.modPin_logic (i : Nat) (f : Pin → Pin) : (s.modPin i f).logic = s.logic := rfl
@[simp] theorem State.modPin_kcp (i : Nat) (f : Pin → Pin) : (s.modPin i f).kcp = s.kcp := rfl
@[simp] theorem State.modPin_net (i : Nat) (f : Pin → Pin) : (s.modPin i f).net = s.net := rfl
@[simp] theorem State.modPin_time (i : Nat) (f : Pin → Pin) : (s.modPin i f).time = s.time := rfl
@[simp] theorem State.modPin_herd (i : Nat) (f : Pin → Pin) : (s.modPin i f).herd = s.herd := rfl
@[simp] theorem State.modPin_jrn (i : Nat) (f : Pin → Pin) : (s.modPin i f).jrn = s.jrn := rfl
@[simp] theorem State.modPin_ev (i : Nat) (f : Pin → Pin) : (s.modPin i f).ev = s.ev := rfl
@[simp] theorem State.modPin_boot (i : Nat) (f : Pin → Pin) : (s.modPin i f).boot = s.boot := rfl
@[simp] theorem State.modPin_sup (i : Nat) (f : Pin → Pin) : (s.modPin i f).sup = s.sup := rfl
@[simp] theorem State.modPin_graze (i : Nat) (f : Pin → Pin) : (s.modPin i f).graze = s.graze := rfl
@[simp] theorem State.modPin_tab (i : Nat) (f : Pin → Pin) : (s.modPin i f).tab = s.tab := rfl
@[simp] theorem State.modPin_reqs (i : Nat) (f : Pin → Pin) : (s.modPin i f).reqs = s.reqs := rfl
@[simp] theorem State.modPin_waitNo (i : Nat) (f : Pin → Pin) : (s.modPin i f).waitNo = s.waitNo := rfl
@[simp] theorem State.modPin_probe (i : Nat) (f : Pin → Pin) : (s.modPin i f).probe = s.probe := rfl
@[simp] theorem State.modPin_starts (i : Nat) (f : Pin → Pin) : (s.modPin i f).starts = s.starts := rfl
@[simp] theorem State.modPin_probeNext (i : Nat) (f : Pin → Pin) : (s.modPin i f).probeNext = s.probeNext := rfl

/-! `modGroup` -/

@[simp] theorem State.modGroup_pending (i : Nat) (f : Group → Group) : (s.modGroup i f).pending = s.pending := rfl
@[simp] theorem State.modGroup_us (i : Nat) (f : Group → Group) : (s.modGroup i f).us = s.us := rfl
@[simp] theorem State.modGroup_fresh (i : Nat) (f : Group → Group) : (s.modGroup i f).fresh = s.fresh := rfl
@[simp] theorem State.modGroup_par (i : Nat) (f : Group → Group) : (s.modGroup i f).par = s.par := rfl
@[simp] theorem State.modGroup_shadow (i : Nat) (f : Group → Group) : (s.modGroup i f).shadow = s.shadow := rfl
@[simp] theorem State.modGroup_safShadow (i : Nat) (f : Group → Group) : (s.modGroup i f).safShadow = s.safShadow := rfl
@[simp] theorem State.modGroup_ax (i : Nat) (f : Group → Group) : (s.modGroup i f).ax = s.ax := rfl
@[simp] theorem State.modGroup_dw (i : Nat) (f : Group → Group) : (s.modGroup i f).dw = s.dw := rfl
@[simp] theorem State.modGroup_saf (i : Nat) (f : Group → Group) : (s.modGroup i f).saf = s.saf := rfl
@[simp] theorem State.modGroup_io (i : Nat) (f : Group → Group) : (s.modGroup i f).io = s.io := rfl
@[simp] theorem State.modGroup_stations (i : Nat) (f : Group → Group) : (s.modGroup i f).stations = s.stations := rfl
@[simp] theorem State.modGroup_link (i : Nat) (f : Group → Group) : (s.modGroup i f).link = s.link := rfl
@[simp] theorem State.modGroup_logic (i : Nat) (f : Group → Group) : (s.modGroup i f).logic = s.logic := rfl
@[simp] theorem State.modGroup_kcp (i : Nat) (f : Group → Group) : (s.modGroup i f).kcp = s.kcp := rfl
@[simp] theorem State.modGroup_net (i : Nat) (f : Group → Group) : (s.modGroup i f).net = s.net := rfl
@[simp] theorem State.modGroup_time (i : Nat) (f : Group → Group) : (s.modGroup i f).time = s.time := rfl
@[simp] theorem State.modGroup_herd (i : Nat) (f : Group → Group) : (s.modGroup i f).herd = s.herd := rfl
@[simp] theorem State.modGroup_jrn (i : Nat) (f : Group → Group) : (s.modGroup i f).jrn = s.jrn := rfl
@[simp] theorem State.modGroup_ev (i : Nat) (f : Group → Group) : (s.modGroup i f).ev = s.ev := rfl
@[simp] theorem State.modGroup_boot (i : Nat) (f : Group → Group) : (s.modGroup i f).boot = s.boot := rfl
@[simp] theorem State.modGroup_sup (i : Nat) (f : Group → Group) : (s.modGroup i f).sup = s.sup := rfl
@[simp] theorem State.modGroup_graze (i : Nat) (f : Group → Group) : (s.modGroup i f).graze = s.graze := rfl
@[simp] theorem State.modGroup_tab (i : Nat) (f : Group → Group) : (s.modGroup i f).tab = s.tab := rfl
@[simp] theorem State.modGroup_reqs (i : Nat) (f : Group → Group) : (s.modGroup i f).reqs = s.reqs := rfl
@[simp] theorem State.modGroup_waitNo (i : Nat) (f : Group → Group) : (s.modGroup i f).waitNo = s.waitNo := rfl
@[simp] theorem State.modGroup_probe (i : Nat) (f : Group → Group) : (s.modGroup i f).probe = s.probe := rfl
@[simp] theorem State.modGroup_starts (i : Nat) (f : Group → Group) : (s.modGroup i f).starts = s.starts := rfl
@[simp] theorem State.modGroup_probeNext (i : Nat) (f : Group → Group) : (s.modGroup i f).probeNext = s.probeNext := rfl

/-! `modStation` -/

@[simp] theorem State.modStation_pending (i : Nat) (f : Station → Station) : (s.modStation i f).pending = s.pending := rfl
@[simp] theorem State.modStation_us (i : Nat) (f : Station → Station) : (s.modStation i f).us = s.us := rfl
@[simp] theorem State.modStation_fresh (i : Nat) (f : Station → Station) : (s.modStation i f).fresh = s.fresh := rfl
@[simp] theorem State.modStation_par (i : Nat) (f : Station → Station) : (s.modStation i f).par = s.par := rfl
@[simp] theorem State.modStation_shadow (i : Nat) (f : Station → Station) : (s.modStation i f).shadow = s.shadow := rfl
@[simp] theorem State.modStation_safShadow (i : Nat) (f : Station → Station) : (s.modStation i f).safShadow = s.safShadow := rfl
@[simp] theorem State.modStation_ax (i : Nat) (f : Station → Station) : (s.modStation i f).ax = s.ax := rfl
@[simp] theorem State.modStation_dw (i : Nat) (f : Station → Station) : (s.modStation i f).dw = s.dw := rfl
@[simp] theorem State.modStation_saf (i : Nat) (f : Station → Station) : (s.modStation i f).saf = s.saf := rfl
@[simp] theorem State.modStation_io (i : Nat) (f : Station → Station) : (s.modStation i f).io = s.io := rfl
@[simp] theorem State.modStation_groups (i : Nat) (f : Station → Station) : (s.modStation i f).groups = s.groups := rfl
@[simp] theorem State.modStation_link (i : Nat) (f : Station → Station) : (s.modStation i f).link = s.link := rfl
@[simp] theorem State.modStation_logic (i : Nat) (f : Station → Station) : (s.modStation i f).logic = s.logic := rfl
@[simp] theorem State.modStation_kcp (i : Nat) (f : Station → Station) : (s.modStation i f).kcp = s.kcp := rfl
@[simp] theorem State.modStation_net (i : Nat) (f : Station → Station) : (s.modStation i f).net = s.net := rfl
@[simp] theorem State.modStation_time (i : Nat) (f : Station → Station) : (s.modStation i f).time = s.time := rfl
@[simp] theorem State.modStation_herd (i : Nat) (f : Station → Station) : (s.modStation i f).herd = s.herd := rfl
@[simp] theorem State.modStation_jrn (i : Nat) (f : Station → Station) : (s.modStation i f).jrn = s.jrn := rfl
@[simp] theorem State.modStation_ev (i : Nat) (f : Station → Station) : (s.modStation i f).ev = s.ev := rfl
@[simp] theorem State.modStation_boot (i : Nat) (f : Station → Station) : (s.modStation i f).boot = s.boot := rfl
@[simp] theorem State.modStation_sup (i : Nat) (f : Station → Station) : (s.modStation i f).sup = s.sup := rfl
@[simp] theorem State.modStation_graze (i : Nat) (f : Station → Station) : (s.modStation i f).graze = s.graze := rfl
@[simp] theorem State.modStation_tab (i : Nat) (f : Station → Station) : (s.modStation i f).tab = s.tab := rfl
@[simp] theorem State.modStation_reqs (i : Nat) (f : Station → Station) : (s.modStation i f).reqs = s.reqs := rfl
@[simp] theorem State.modStation_waitNo (i : Nat) (f : Station → Station) : (s.modStation i f).waitNo = s.waitNo := rfl
@[simp] theorem State.modStation_probe (i : Nat) (f : Station → Station) : (s.modStation i f).probe = s.probe := rfl
@[simp] theorem State.modStation_starts (i : Nat) (f : Station → Station) : (s.modStation i f).starts = s.starts := rfl
@[simp] theorem State.modStation_probeNext (i : Nat) (f : Station → Station) : (s.modStation i f).probeNext = s.probeNext := rfl

/-! `modDrive` -/

@[simp] theorem State.modDrive_pending (i : Nat) (f : Drive → Drive) : (s.modDrive i f).pending = s.pending := rfl
@[simp] theorem State.modDrive_us (i : Nat) (f : Drive → Drive) : (s.modDrive i f).us = s.us := rfl
@[simp] theorem State.modDrive_fresh (i : Nat) (f : Drive → Drive) : (s.modDrive i f).fresh = s.fresh := rfl
@[simp] theorem State.modDrive_par (i : Nat) (f : Drive → Drive) : (s.modDrive i f).par = s.par := rfl
@[simp] theorem State.modDrive_shadow (i : Nat) (f : Drive → Drive) : (s.modDrive i f).shadow = s.shadow := rfl
@[simp] theorem State.modDrive_safShadow (i : Nat) (f : Drive → Drive) : (s.modDrive i f).safShadow = s.safShadow := rfl
@[simp] theorem State.modDrive_dw (i : Nat) (f : Drive → Drive) : (s.modDrive i f).dw = s.dw := rfl
@[simp] theorem State.modDrive_saf (i : Nat) (f : Drive → Drive) : (s.modDrive i f).saf = s.saf := rfl
@[simp] theorem State.modDrive_io (i : Nat) (f : Drive → Drive) : (s.modDrive i f).io = s.io := rfl
@[simp] theorem State.modDrive_groups (i : Nat) (f : Drive → Drive) : (s.modDrive i f).groups = s.groups := rfl
@[simp] theorem State.modDrive_stations (i : Nat) (f : Drive → Drive) : (s.modDrive i f).stations = s.stations := rfl
@[simp] theorem State.modDrive_link (i : Nat) (f : Drive → Drive) : (s.modDrive i f).link = s.link := rfl
@[simp] theorem State.modDrive_logic (i : Nat) (f : Drive → Drive) : (s.modDrive i f).logic = s.logic := rfl
@[simp] theorem State.modDrive_kcp (i : Nat) (f : Drive → Drive) : (s.modDrive i f).kcp = s.kcp := rfl
@[simp] theorem State.modDrive_net (i : Nat) (f : Drive → Drive) : (s.modDrive i f).net = s.net := rfl
@[simp] theorem State.modDrive_time (i : Nat) (f : Drive → Drive) : (s.modDrive i f).time = s.time := rfl
@[simp] theorem State.modDrive_herd (i : Nat) (f : Drive → Drive) : (s.modDrive i f).herd = s.herd := rfl
@[simp] theorem State.modDrive_jrn (i : Nat) (f : Drive → Drive) : (s.modDrive i f).jrn = s.jrn := rfl
@[simp] theorem State.modDrive_ev (i : Nat) (f : Drive → Drive) : (s.modDrive i f).ev = s.ev := rfl
@[simp] theorem State.modDrive_boot (i : Nat) (f : Drive → Drive) : (s.modDrive i f).boot = s.boot := rfl
@[simp] theorem State.modDrive_sup (i : Nat) (f : Drive → Drive) : (s.modDrive i f).sup = s.sup := rfl
@[simp] theorem State.modDrive_graze (i : Nat) (f : Drive → Drive) : (s.modDrive i f).graze = s.graze := rfl
@[simp] theorem State.modDrive_tab (i : Nat) (f : Drive → Drive) : (s.modDrive i f).tab = s.tab := rfl
@[simp] theorem State.modDrive_reqs (i : Nat) (f : Drive → Drive) : (s.modDrive i f).reqs = s.reqs := rfl
@[simp] theorem State.modDrive_waitNo (i : Nat) (f : Drive → Drive) : (s.modDrive i f).waitNo = s.waitNo := rfl
@[simp] theorem State.modDrive_probe (i : Nat) (f : Drive → Drive) : (s.modDrive i f).probe = s.probe := rfl
@[simp] theorem State.modDrive_starts (i : Nat) (f : Drive → Drive) : (s.modDrive i f).starts = s.starts := rfl
@[simp] theorem State.modDrive_probeNext (i : Nat) (f : Drive → Drive) : (s.modDrive i f).probeNext = s.probeNext := rfl

/-! `modFb` -/

@[simp] theorem State.modFb_pending (i : Nat) (f : Feedback → Feedback) : (s.modFb i f).pending = s.pending := rfl
@[simp] theorem State.modFb_us (i : Nat) (f : Feedback → Feedback) : (s.modFb i f).us = s.us := rfl
@[simp] theorem State.modFb_fresh (i : Nat) (f : Feedback → Feedback) : (s.modFb i f).fresh = s.fresh := rfl
@[simp] theorem State.modFb_par (i : Nat) (f : Feedback → Feedback) : (s.modFb i f).par = s.par := rfl
@[simp] theorem State.modFb_shadow (i : Nat) (f : Feedback → Feedback) : (s.modFb i f).shadow = s.shadow := rfl
@[simp] theorem State.modFb_safShadow (i : Nat) (f : Feedback → Feedback) : (s.modFb i f).safShadow = s.safShadow := rfl
@[simp] theorem State.modFb_dw (i : Nat) (f : Feedback → Feedback) : (s.modFb i f).dw = s.dw := rfl
@[simp] theorem State.modFb_saf (i : Nat) (f : Feedback → Feedback) : (s.modFb i f).saf = s.saf := rfl
@[simp] theorem State.modFb_io (i : Nat) (f : Feedback → Feedback) : (s.modFb i f).io = s.io := rfl
@[simp] theorem State.modFb_groups (i : Nat) (f : Feedback → Feedback) : (s.modFb i f).groups = s.groups := rfl
@[simp] theorem State.modFb_stations (i : Nat) (f : Feedback → Feedback) : (s.modFb i f).stations = s.stations := rfl
@[simp] theorem State.modFb_link (i : Nat) (f : Feedback → Feedback) : (s.modFb i f).link = s.link := rfl
@[simp] theorem State.modFb_logic (i : Nat) (f : Feedback → Feedback) : (s.modFb i f).logic = s.logic := rfl
@[simp] theorem State.modFb_kcp (i : Nat) (f : Feedback → Feedback) : (s.modFb i f).kcp = s.kcp := rfl
@[simp] theorem State.modFb_net (i : Nat) (f : Feedback → Feedback) : (s.modFb i f).net = s.net := rfl
@[simp] theorem State.modFb_time (i : Nat) (f : Feedback → Feedback) : (s.modFb i f).time = s.time := rfl
@[simp] theorem State.modFb_herd (i : Nat) (f : Feedback → Feedback) : (s.modFb i f).herd = s.herd := rfl
@[simp] theorem State.modFb_jrn (i : Nat) (f : Feedback → Feedback) : (s.modFb i f).jrn = s.jrn := rfl
@[simp] theorem State.modFb_ev (i : Nat) (f : Feedback → Feedback) : (s.modFb i f).ev = s.ev := rfl
@[simp] theorem State.modFb_boot (i : Nat) (f : Feedback → Feedback) : (s.modFb i f).boot = s.boot := rfl
@[simp] theorem State.modFb_sup (i : Nat) (f : Feedback → Feedback) : (s.modFb i f).sup = s.sup := rfl
@[simp] theorem State.modFb_graze (i : Nat) (f : Feedback → Feedback) : (s.modFb i f).graze = s.graze := rfl
@[simp] theorem State.modFb_tab (i : Nat) (f : Feedback → Feedback) : (s.modFb i f).tab = s.tab := rfl
@[simp] theorem State.modFb_reqs (i : Nat) (f : Feedback → Feedback) : (s.modFb i f).reqs = s.reqs := rfl
@[simp] theorem State.modFb_waitNo (i : Nat) (f : Feedback → Feedback) : (s.modFb i f).waitNo = s.waitNo := rfl
@[simp] theorem State.modFb_probe (i : Nat) (f : Feedback → Feedback) : (s.modFb i f).probe = s.probe := rfl
@[simp] theorem State.modFb_starts (i : Nat) (f : Feedback → Feedback) : (s.modFb i f).starts = s.starts := rfl
@[simp] theorem State.modFb_probeNext (i : Nat) (f : Feedback → Feedback) : (s.modFb i f).probeNext = s.probeNext := rfl

/-! `modDet` -/

@[simp] theorem State.modDet_pending (i : Nat) (f : Detect → Detect) : (s.modDet i f).pending = s.pending := rfl
@[simp] theorem State.modDet_us (i : Nat) (f : Detect → Detect) : (s.modDet i f).us = s.us := rfl
@[simp] theorem State.modDet_fresh (i : Nat) (f : Detect → Detect) : (s.modDet i f).fresh = s.fresh := rfl
@[simp] theorem State.modDet_par (i : Nat) (f : Detect → Detect) : (s.modDet i f).par = s.par := rfl
@[simp] theorem State.modDet_shadow (i : Nat) (f : Detect → Detect) : (s.modDet i f).shadow = s.shadow := rfl
@[simp] theorem State.modDet_safShadow (i : Nat) (f : Detect → Detect) : (s.modDet i f).safShadow = s.safShadow := rfl
@[simp] theorem State.modDet_dw (i : Nat) (f : Detect → Detect) : (s.modDet i f).dw = s.dw := rfl
@[simp] theorem State.modDet_saf (i : Nat) (f : Detect → Detect) : (s.modDet i f).saf = s.saf := rfl
@[simp] theorem State.modDet_io (i : Nat) (f : Detect → Detect) : (s.modDet i f).io = s.io := rfl
@[simp] theorem State.modDet_groups (i : Nat) (f : Detect → Detect) : (s.modDet i f).groups = s.groups := rfl
@[simp] theorem State.modDet_stations (i : Nat) (f : Detect → Detect) : (s.modDet i f).stations = s.stations := rfl
@[simp] theorem State.modDet_link (i : Nat) (f : Detect → Detect) : (s.modDet i f).link = s.link := rfl
@[simp] theorem State.modDet_logic (i : Nat) (f : Detect → Detect) : (s.modDet i f).logic = s.logic := rfl
@[simp] theorem State.modDet_kcp (i : Nat) (f : Detect → Detect) : (s.modDet i f).kcp = s.kcp := rfl
@[simp] theorem State.modDet_net (i : Nat) (f : Detect → Detect) : (s.modDet i f).net = s.net := rfl
@[simp] theorem State.modDet_time (i : Nat) (f : Detect → Detect) : (s.modDet i f).time = s.time := rfl
@[simp] theorem State.modDet_herd (i : Nat) (f : Detect → Detect) : (s.modDet i f).herd = s.herd := rfl
@[simp] theorem State.modDet_jrn (i : Nat) (f : Detect → Detect) : (s.modDet i f).jrn = s.jrn := rfl
@[simp] theorem State.modDet_ev (i : Nat) (f : Detect → Detect) : (s.modDet i f).ev = s.ev := rfl
@[simp] theorem State.modDet_boot (i : Nat) (f : Detect → Detect) : (s.modDet i f).boot = s.boot := rfl
@[simp] theorem State.modDet_sup (i : Nat) (f : Detect → Detect) : (s.modDet i f).sup = s.sup := rfl
@[simp] theorem State.modDet_graze (i : Nat) (f : Detect → Detect) : (s.modDet i f).graze = s.graze := rfl
@[simp] theorem State.modDet_tab (i : Nat) (f : Detect → Detect) : (s.modDet i f).tab = s.tab := rfl
@[simp] theorem State.modDet_reqs (i : Nat) (f : Detect → Detect) : (s.modDet i f).reqs = s.reqs := rfl
@[simp] theorem State.modDet_waitNo (i : Nat) (f : Detect → Detect) : (s.modDet i f).waitNo = s.waitNo := rfl
@[simp] theorem State.modDet_probe (i : Nat) (f : Detect → Detect) : (s.modDet i f).probe = s.probe := rfl
@[simp] theorem State.modDet_starts (i : Nat) (f : Detect → Detect) : (s.modDet i f).starts = s.starts := rfl
@[simp] theorem State.modDet_probeNext (i : Nat) (f : Detect → Detect) : (s.modDet i f).probeNext = s.probeNext := rfl

/-! `modHome` -/

@[simp] theorem State.modHome_pending (i : Nat) (f : Homing → Homing) : (s.modHome i f).pending = s.pending := rfl
@[simp] theorem State.modHome_us (i : Nat) (f : Homing → Homing) : (s.modHome i f).us = s.us := rfl
@[simp] theorem State.modHome_fresh (i : Nat) (f : Homing → Homing) : (s.modHome i f).fresh = s.fresh := rfl
@[simp] theorem State.modHome_par (i : Nat) (f : Homing → Homing) : (s.modHome i f).par = s.par := rfl
@[simp] theorem State.modHome_shadow (i : Nat) (f : Homing → Homing) : (s.modHome i f).shadow = s.shadow := rfl
@[simp] theorem State.modHome_safShadow (i : Nat) (f : Homing → Homing) : (s.modHome i f).safShadow = s.safShadow := rfl
@[simp] theorem State.modHome_dw (i : Nat) (f : Homing → Homing) : (s.modHome i f).dw = s.dw := rfl
@[simp] theorem State.modHome_saf (i : Nat) (f : Homing → Homing) : (s.modHome i f).saf = s.saf := rfl
@[simp] theorem State.modHome_io (i : Nat) (f : Homing → Homing) : (s.modHome i f).io = s.io := rfl
@[simp] theorem State.modHome_groups (i : Nat) (f : Homing → Homing) : (s.modHome i f).groups = s.groups := rfl
@[simp] theorem State.modHome_stations (i : Nat) (f : Homing → Homing) : (s.modHome i f).stations = s.stations := rfl
@[simp] theorem State.modHome_link (i : Nat) (f : Homing → Homing) : (s.modHome i f).link = s.link := rfl
@[simp] theorem State.modHome_logic (i : Nat) (f : Homing → Homing) : (s.modHome i f).logic = s.logic := rfl
@[simp] theorem State.modHome_kcp (i : Nat) (f : Homing → Homing) : (s.modHome i f).kcp = s.kcp := rfl
@[simp] theorem State.modHome_net (i : Nat) (f : Homing → Homing) : (s.modHome i f).net = s.net := rfl
@[simp] theorem State.modHome_time (i : Nat) (f : Homing → Homing) : (s.modHome i f).time = s.time := rfl
@[simp] theorem State.modHome_herd (i : Nat) (f : Homing → Homing) : (s.modHome i f).herd = s.herd := rfl
@[simp] theorem State.modHome_jrn (i : Nat) (f : Homing → Homing) : (s.modHome i f).jrn = s.jrn := rfl
@[simp] theorem State.modHome_ev (i : Nat) (f : Homing → Homing) : (s.modHome i f).ev = s.ev := rfl
@[simp] theorem State.modHome_boot (i : Nat) (f : Homing → Homing) : (s.modHome i f).boot = s.boot := rfl
@[simp] theorem State.modHome_sup (i : Nat) (f : Homing → Homing) : (s.modHome i f).sup = s.sup := rfl
@[simp] theorem State.modHome_graze (i : Nat) (f : Homing → Homing) : (s.modHome i f).graze = s.graze := rfl
@[simp] theorem State.modHome_tab (i : Nat) (f : Homing → Homing) : (s.modHome i f).tab = s.tab := rfl
@[simp] theorem State.modHome_reqs (i : Nat) (f : Homing → Homing) : (s.modHome i f).reqs = s.reqs := rfl
@[simp] theorem State.modHome_waitNo (i : Nat) (f : Homing → Homing) : (s.modHome i f).waitNo = s.waitNo := rfl
@[simp] theorem State.modHome_probe (i : Nat) (f : Homing → Homing) : (s.modHome i f).probe = s.probe := rfl
@[simp] theorem State.modHome_starts (i : Nat) (f : Homing → Homing) : (s.modHome i f).starts = s.starts := rfl
@[simp] theorem State.modHome_probeNext (i : Nat) (f : Homing → Homing) : (s.modHome i f).probeNext = s.probeNext := rfl

/-! `modOut` -/

@[simp] theorem State.modOut_pending (i : Nat) (f : SafeOut → SafeOut) : (s.modOut i f).pending = s.pending := rfl
@[simp] theorem State.modOut_us (i : Nat) (f : SafeOut → SafeOut) : (s.modOut i f).us = s.us := rfl
@[simp] theorem State.modOut_fresh (i : Nat) (f : SafeOut → SafeOut) : (s.modOut i f).fresh = s.fresh := rfl
@[simp] theorem State.modOut_par (i : Nat) (f : SafeOut → SafeOut) : (s.modOut i f).par = s.par := rfl
@[simp] theorem State.modOut_shadow (i : Nat) (f : SafeOut → SafeOut) : (s.modOut i f).shadow = s.shadow := rfl
@[simp] theorem State.modOut_safShadow (i : Nat) (f : SafeOut → SafeOut) : (s.modOut i f).safShadow = s.safShadow := rfl
@[simp] theorem State.modOut_ax (i : Nat) (f : SafeOut → SafeOut) : (s.modOut i f).ax = s.ax := rfl
@[simp] theorem State.modOut_dw (i : Nat) (f : SafeOut → SafeOut) : (s.modOut i f).dw = s.dw := rfl
@[simp] theorem State.modOut_io (i : Nat) (f : SafeOut → SafeOut) : (s.modOut i f).io = s.io := rfl
@[simp] theorem State.modOut_groups (i : Nat) (f : SafeOut → SafeOut) : (s.modOut i f).groups = s.groups := rfl
@[simp] theorem State.modOut_stations (i : Nat) (f : SafeOut → SafeOut) : (s.modOut i f).stations = s.stations := rfl
@[simp] theorem State.modOut_link (i : Nat) (f : SafeOut → SafeOut) : (s.modOut i f).link = s.link := rfl
@[simp] theorem State.modOut_logic (i : Nat) (f : SafeOut → SafeOut) : (s.modOut i f).logic = s.logic := rfl
@[simp] theorem State.modOut_kcp (i : Nat) (f : SafeOut → SafeOut) : (s.modOut i f).kcp = s.kcp := rfl
@[simp] theorem State.modOut_net (i : Nat) (f : SafeOut → SafeOut) : (s.modOut i f).net = s.net := rfl
@[simp] theorem State.modOut_time (i : Nat) (f : SafeOut → SafeOut) : (s.modOut i f).time = s.time := rfl
@[simp] theorem State.modOut_herd (i : Nat) (f : SafeOut → SafeOut) : (s.modOut i f).herd = s.herd := rfl
@[simp] theorem State.modOut_jrn (i : Nat) (f : SafeOut → SafeOut) : (s.modOut i f).jrn = s.jrn := rfl
@[simp] theorem State.modOut_ev (i : Nat) (f : SafeOut → SafeOut) : (s.modOut i f).ev = s.ev := rfl
@[simp] theorem State.modOut_boot (i : Nat) (f : SafeOut → SafeOut) : (s.modOut i f).boot = s.boot := rfl
@[simp] theorem State.modOut_sup (i : Nat) (f : SafeOut → SafeOut) : (s.modOut i f).sup = s.sup := rfl
@[simp] theorem State.modOut_graze (i : Nat) (f : SafeOut → SafeOut) : (s.modOut i f).graze = s.graze := rfl
@[simp] theorem State.modOut_tab (i : Nat) (f : SafeOut → SafeOut) : (s.modOut i f).tab = s.tab := rfl
@[simp] theorem State.modOut_reqs (i : Nat) (f : SafeOut → SafeOut) : (s.modOut i f).reqs = s.reqs := rfl
@[simp] theorem State.modOut_waitNo (i : Nat) (f : SafeOut → SafeOut) : (s.modOut i f).waitNo = s.waitNo := rfl
@[simp] theorem State.modOut_probe (i : Nat) (f : SafeOut → SafeOut) : (s.modOut i f).probe = s.probe := rfl
@[simp] theorem State.modOut_starts (i : Nat) (f : SafeOut → SafeOut) : (s.modOut i f).starts = s.starts := rfl
@[simp] theorem State.modOut_probeNext (i : Nat) (f : SafeOut → SafeOut) : (s.modOut i f).probeNext = s.probeNext := rfl

/-! `modRegion` -/

@[simp] theorem State.modRegion_pending (i : Nat) (f : Region → Region) : (s.modRegion i f).pending = s.pending := rfl
@[simp] theorem State.modRegion_us (i : Nat) (f : Region → Region) : (s.modRegion i f).us = s.us := rfl
@[simp] theorem State.modRegion_fresh (i : Nat) (f : Region → Region) : (s.modRegion i f).fresh = s.fresh := rfl
@[simp] theorem State.modRegion_par (i : Nat) (f : Region → Region) : (s.modRegion i f).par = s.par := rfl
@[simp] theorem State.modRegion_shadow (i : Nat) (f : Region → Region) : (s.modRegion i f).shadow = s.shadow := rfl
@[simp] theorem State.modRegion_safShadow (i : Nat) (f : Region → Region) : (s.modRegion i f).safShadow = s.safShadow := rfl
@[simp] theorem State.modRegion_ax (i : Nat) (f : Region → Region) : (s.modRegion i f).ax = s.ax := rfl
@[simp] theorem State.modRegion_dw (i : Nat) (f : Region → Region) : (s.modRegion i f).dw = s.dw := rfl
@[simp] theorem State.modRegion_saf (i : Nat) (f : Region → Region) : (s.modRegion i f).saf = s.saf := rfl
@[simp] theorem State.modRegion_io (i : Nat) (f : Region → Region) : (s.modRegion i f).io = s.io := rfl
@[simp] theorem State.modRegion_groups (i : Nat) (f : Region → Region) : (s.modRegion i f).groups = s.groups := rfl
@[simp] theorem State.modRegion_stations (i : Nat) (f : Region → Region) : (s.modRegion i f).stations = s.stations := rfl
@[simp] theorem State.modRegion_link (i : Nat) (f : Region → Region) : (s.modRegion i f).link = s.link := rfl
@[simp] theorem State.modRegion_logic (i : Nat) (f : Region → Region) : (s.modRegion i f).logic = s.logic := rfl
@[simp] theorem State.modRegion_kcp (i : Nat) (f : Region → Region) : (s.modRegion i f).kcp = s.kcp := rfl
@[simp] theorem State.modRegion_net (i : Nat) (f : Region → Region) : (s.modRegion i f).net = s.net := rfl
@[simp] theorem State.modRegion_time (i : Nat) (f : Region → Region) : (s.modRegion i f).time = s.time := rfl
@[simp] theorem State.modRegion_herd (i : Nat) (f : Region → Region) : (s.modRegion i f).herd = s.herd := rfl
@[simp] theorem State.modRegion_ev (i : Nat) (f : Region → Region) : (s.modRegion i f).ev = s.ev := rfl
@[simp] theorem State.modRegion_boot (i : Nat) (f : Region → Region) : (s.modRegion i f).boot = s.boot := rfl
@[simp] theorem State.modRegion_sup (i : Nat) (f : Region → Region) : (s.modRegion i f).sup = s.sup := rfl
@[simp] theorem State.modRegion_graze (i : Nat) (f : Region → Region) : (s.modRegion i f).graze = s.graze := rfl
@[simp] theorem State.modRegion_tab (i : Nat) (f : Region → Region) : (s.modRegion i f).tab = s.tab := rfl
@[simp] theorem State.modRegion_reqs (i : Nat) (f : Region → Region) : (s.modRegion i f).reqs = s.reqs := rfl
@[simp] theorem State.modRegion_waitNo (i : Nat) (f : Region → Region) : (s.modRegion i f).waitNo = s.waitNo := rfl
@[simp] theorem State.modRegion_probe (i : Nat) (f : Region → Region) : (s.modRegion i f).probe = s.probe := rfl
@[simp] theorem State.modRegion_starts (i : Nat) (f : Region → Region) : (s.modRegion i f).starts = s.starts := rfl
@[simp] theorem State.modRegion_probeNext (i : Nat) (f : Region → Region) : (s.modRegion i f).probeNext = s.probeNext := rfl

/-! `modPort` -/

@[simp] theorem State.modPort_pending (i : Nat) (f : NetPort → NetPort) : (s.modPort i f).pending = s.pending := rfl
@[simp] theorem State.modPort_us (i : Nat) (f : NetPort → NetPort) : (s.modPort i f).us = s.us := rfl
@[simp] theorem State.modPort_fresh (i : Nat) (f : NetPort → NetPort) : (s.modPort i f).fresh = s.fresh := rfl
@[simp] theorem State.modPort_par (i : Nat) (f : NetPort → NetPort) : (s.modPort i f).par = s.par := rfl
@[simp] theorem State.modPort_shadow (i : Nat) (f : NetPort → NetPort) : (s.modPort i f).shadow = s.shadow := rfl
@[simp] theorem State.modPort_safShadow (i : Nat) (f : NetPort → NetPort) : (s.modPort i f).safShadow = s.safShadow := rfl
@[simp] theorem State.modPort_ax (i : Nat) (f : NetPort → NetPort) : (s.modPort i f).ax = s.ax := rfl
@[simp] theorem State.modPort_dw (i : Nat) (f : NetPort → NetPort) : (s.modPort i f).dw = s.dw := rfl
@[simp] theorem State.modPort_saf (i : Nat) (f : NetPort → NetPort) : (s.modPort i f).saf = s.saf := rfl
@[simp] theorem State.modPort_io (i : Nat) (f : NetPort → NetPort) : (s.modPort i f).io = s.io := rfl
@[simp] theorem State.modPort_groups (i : Nat) (f : NetPort → NetPort) : (s.modPort i f).groups = s.groups := rfl
@[simp] theorem State.modPort_stations (i : Nat) (f : NetPort → NetPort) : (s.modPort i f).stations = s.stations := rfl
@[simp] theorem State.modPort_link (i : Nat) (f : NetPort → NetPort) : (s.modPort i f).link = s.link := rfl
@[simp] theorem State.modPort_logic (i : Nat) (f : NetPort → NetPort) : (s.modPort i f).logic = s.logic := rfl
@[simp] theorem State.modPort_kcp (i : Nat) (f : NetPort → NetPort) : (s.modPort i f).kcp = s.kcp := rfl
@[simp] theorem State.modPort_time (i : Nat) (f : NetPort → NetPort) : (s.modPort i f).time = s.time := rfl
@[simp] theorem State.modPort_herd (i : Nat) (f : NetPort → NetPort) : (s.modPort i f).herd = s.herd := rfl
@[simp] theorem State.modPort_jrn (i : Nat) (f : NetPort → NetPort) : (s.modPort i f).jrn = s.jrn := rfl
@[simp] theorem State.modPort_ev (i : Nat) (f : NetPort → NetPort) : (s.modPort i f).ev = s.ev := rfl
@[simp] theorem State.modPort_boot (i : Nat) (f : NetPort → NetPort) : (s.modPort i f).boot = s.boot := rfl
@[simp] theorem State.modPort_sup (i : Nat) (f : NetPort → NetPort) : (s.modPort i f).sup = s.sup := rfl
@[simp] theorem State.modPort_graze (i : Nat) (f : NetPort → NetPort) : (s.modPort i f).graze = s.graze := rfl
@[simp] theorem State.modPort_tab (i : Nat) (f : NetPort → NetPort) : (s.modPort i f).tab = s.tab := rfl
@[simp] theorem State.modPort_reqs (i : Nat) (f : NetPort → NetPort) : (s.modPort i f).reqs = s.reqs := rfl
@[simp] theorem State.modPort_waitNo (i : Nat) (f : NetPort → NetPort) : (s.modPort i f).waitNo = s.waitNo := rfl
@[simp] theorem State.modPort_probe (i : Nat) (f : NetPort → NetPort) : (s.modPort i f).probe = s.probe := rfl
@[simp] theorem State.modPort_starts (i : Nat) (f : NetPort → NetPort) : (s.modPort i f).starts = s.starts := rfl
@[simp] theorem State.modPort_probeNext (i : Nat) (f : NetPort → NetPort) : (s.modPort i f).probeNext = s.probeNext := rfl

/-! `modClock` -/

@[simp] theorem State.modClock_pending (i : Nat) (f : Clock → Clock) : (s.modClock i f).pending = s.pending := rfl
@[simp] theorem State.modClock_us (i : Nat) (f : Clock → Clock) : (s.modClock i f).us = s.us := rfl
@[simp] theorem State.modClock_fresh (i : Nat) (f : Clock → Clock) : (s.modClock i f).fresh = s.fresh := rfl
@[simp] theorem State.modClock_par (i : Nat) (f : Clock → Clock) : (s.modClock i f).par = s.par := rfl
@[simp] theorem State.modClock_shadow (i : Nat) (f : Clock → Clock) : (s.modClock i f).shadow = s.shadow := rfl
@[simp] theorem State.modClock_safShadow (i : Nat) (f : Clock → Clock) : (s.modClock i f).safShadow = s.safShadow := rfl
@[simp] theorem State.modClock_ax (i : Nat) (f : Clock → Clock) : (s.modClock i f).ax = s.ax := rfl
@[simp] theorem State.modClock_dw (i : Nat) (f : Clock → Clock) : (s.modClock i f).dw = s.dw := rfl
@[simp] theorem State.modClock_saf (i : Nat) (f : Clock → Clock) : (s.modClock i f).saf = s.saf := rfl
@[simp] theorem State.modClock_io (i : Nat) (f : Clock → Clock) : (s.modClock i f).io = s.io := rfl
@[simp] theorem State.modClock_groups (i : Nat) (f : Clock → Clock) : (s.modClock i f).groups = s.groups := rfl
@[simp] theorem State.modClock_stations (i : Nat) (f : Clock → Clock) : (s.modClock i f).stations = s.stations := rfl
@[simp] theorem State.modClock_link (i : Nat) (f : Clock → Clock) : (s.modClock i f).link = s.link := rfl
@[simp] theorem State.modClock_logic (i : Nat) (f : Clock → Clock) : (s.modClock i f).logic = s.logic := rfl
@[simp] theorem State.modClock_kcp (i : Nat) (f : Clock → Clock) : (s.modClock i f).kcp = s.kcp := rfl
@[simp] theorem State.modClock_net (i : Nat) (f : Clock → Clock) : (s.modClock i f).net = s.net := rfl
@[simp] theorem State.modClock_herd (i : Nat) (f : Clock → Clock) : (s.modClock i f).herd = s.herd := rfl
@[simp] theorem State.modClock_jrn (i : Nat) (f : Clock → Clock) : (s.modClock i f).jrn = s.jrn := rfl
@[simp] theorem State.modClock_ev (i : Nat) (f : Clock → Clock) : (s.modClock i f).ev = s.ev := rfl
@[simp] theorem State.modClock_boot (i : Nat) (f : Clock → Clock) : (s.modClock i f).boot = s.boot := rfl
@[simp] theorem State.modClock_sup (i : Nat) (f : Clock → Clock) : (s.modClock i f).sup = s.sup := rfl
@[simp] theorem State.modClock_graze (i : Nat) (f : Clock → Clock) : (s.modClock i f).graze = s.graze := rfl
@[simp] theorem State.modClock_tab (i : Nat) (f : Clock → Clock) : (s.modClock i f).tab = s.tab := rfl
@[simp] theorem State.modClock_reqs (i : Nat) (f : Clock → Clock) : (s.modClock i f).reqs = s.reqs := rfl
@[simp] theorem State.modClock_waitNo (i : Nat) (f : Clock → Clock) : (s.modClock i f).waitNo = s.waitNo := rfl
@[simp] theorem State.modClock_probe (i : Nat) (f : Clock → Clock) : (s.modClock i f).probe = s.probe := rfl
@[simp] theorem State.modClock_starts (i : Nat) (f : Clock → Clock) : (s.modClock i f).starts = s.starts := rfl
@[simp] theorem State.modClock_probeNext (i : Nat) (f : Clock → Clock) : (s.modClock i f).probeNext = s.probeNext := rfl

/-! `modPair` -/

@[simp] theorem State.modPair_pending (lane : Lane) (i : Nat) (f : PairLane → PairLane) : (s.modPair lane i f).pending = s.pending := by
  cases lane <;> rfl
@[simp] theorem State.modPair_us (lane : Lane) (i : Nat) (f : PairLane → PairLane) : (s.modPair lane i f).us = s.us := by
  cases lane <;> rfl
@[simp] theorem State.modPair_fresh (lane : Lane) (i : Nat) (f : PairLane → PairLane) : (s.modPair lane i f).fresh = s.fresh := by
  cases lane <;> rfl
@[simp] theorem State.modPair_par (lane : Lane) (i : Nat) (f : PairLane → PairLane) : (s.modPair lane i f).par = s.par := by
  cases lane <;> rfl
@[simp] theorem State.modPair_shadow (lane : Lane) (i : Nat) (f : PairLane → PairLane) : (s.modPair lane i f).shadow = s.shadow := by
  cases lane <;> rfl
@[simp] theorem State.modPair_safShadow (lane : Lane) (i : Nat) (f : PairLane → PairLane) : (s.modPair lane i f).safShadow = s.safShadow := by
  cases lane <;> rfl
@[simp] theorem State.modPair_ax (lane : Lane) (i : Nat) (f : PairLane → PairLane) : (s.modPair lane i f).ax = s.ax := by
  cases lane <;> rfl
@[simp] theorem State.modPair_dw (lane : Lane) (i : Nat) (f : PairLane → PairLane) : (s.modPair lane i f).dw = s.dw := by
  cases lane <;> rfl
@[simp] theorem State.modPair_io (lane : Lane) (i : Nat) (f : PairLane → PairLane) : (s.modPair lane i f).io = s.io := by
  cases lane <;> rfl
@[simp] theorem State.modPair_groups (lane : Lane) (i : Nat) (f : PairLane → PairLane) : (s.modPair lane i f).groups = s.groups := by
  cases lane <;> rfl
@[simp] theorem State.modPair_stations (lane : Lane) (i : Nat) (f : PairLane → PairLane) : (s.modPair lane i f).stations = s.stations := by
  cases lane <;> rfl
@[simp] theorem State.modPair_link (lane : Lane) (i : Nat) (f : PairLane → PairLane) : (s.modPair lane i f).link = s.link := by
  cases lane <;> rfl
@[simp] theorem State.modPair_logic (lane : Lane) (i : Nat) (f : PairLane → PairLane) : (s.modPair lane i f).logic = s.logic := by
  cases lane <;> rfl
@[simp] theorem State.modPair_kcp (lane : Lane) (i : Nat) (f : PairLane → PairLane) : (s.modPair lane i f).kcp = s.kcp := by
  cases lane <;> rfl
@[simp] theorem State.modPair_net (lane : Lane) (i : Nat) (f : PairLane → PairLane) : (s.modPair lane i f).net = s.net := by
  cases lane <;> rfl
@[simp] theorem State.modPair_time (lane : Lane) (i : Nat) (f : PairLane → PairLane) : (s.modPair lane i f).time = s.time := by
  cases lane <;> rfl
@[simp] theorem State.modPair_herd (lane : Lane) (i : Nat) (f : PairLane → PairLane) : (s.modPair lane i f).herd = s.herd := by
  cases lane <;> rfl
@[simp] theorem State.modPair_jrn (lane : Lane) (i : Nat) (f : PairLane → PairLane) : (s.modPair lane i f).jrn = s.jrn := by
  cases lane <;> rfl
@[simp] theorem State.modPair_ev (lane : Lane) (i : Nat) (f : PairLane → PairLane) : (s.modPair lane i f).ev = s.ev := by
  cases lane <;> rfl
@[simp] theorem State.modPair_boot (lane : Lane) (i : Nat) (f : PairLane → PairLane) : (s.modPair lane i f).boot = s.boot := by
  cases lane <;> rfl
@[simp] theorem State.modPair_sup (lane : Lane) (i : Nat) (f : PairLane → PairLane) : (s.modPair lane i f).sup = s.sup := by
  cases lane <;> rfl
@[simp] theorem State.modPair_graze (lane : Lane) (i : Nat) (f : PairLane → PairLane) : (s.modPair lane i f).graze = s.graze := by
  cases lane <;> rfl
@[simp] theorem State.modPair_tab (lane : Lane) (i : Nat) (f : PairLane → PairLane) : (s.modPair lane i f).tab = s.tab := by
  cases lane <;> rfl
@[simp] theorem State.modPair_reqs (lane : Lane) (i : Nat) (f : PairLane → PairLane) : (s.modPair lane i f).reqs = s.reqs := by
  cases lane <;> rfl
@[simp] theorem State.modPair_waitNo (lane : Lane) (i : Nat) (f : PairLane → PairLane) : (s.modPair lane i f).waitNo = s.waitNo := by
  cases lane <;> rfl
@[simp] theorem State.modPair_probe (lane : Lane) (i : Nat) (f : PairLane → PairLane) : (s.modPair lane i f).probe = s.probe := by
  cases lane <;> rfl
@[simp] theorem State.modPair_starts (lane : Lane) (i : Nat) (f : PairLane → PairLane) : (s.modPair lane i f).starts = s.starts := by
  cases lane <;> rfl
@[simp] theorem State.modPair_probeNext (lane : Lane) (i : Nat) (f : PairLane → PairLane) : (s.modPair lane i f).probeNext = s.probeNext := by
  cases lane <;> rfl

/-! `modSaf` -/

@[simp] theorem State.modSaf_pending (f : Safety → Safety) : (s.modSaf f).pending = s.pending := rfl
@[simp] theorem State.modSaf_us (f : Safety → Safety) : (s.modSaf f).us = s.us := rfl
@[simp] theorem State.modSaf_fresh (f : Safety → Safety) : (s.modSaf f).fresh = s.fresh := rfl
@[simp] theorem State.modSaf_par (f : Safety → Safety) : (s.modSaf f).par = s.par := rfl
@[simp] theorem State.modSaf_shadow (f : Safety → Safety) : (s.modSaf f).shadow = s.shadow := rfl
@[simp] theorem State.modSaf_safShadow (f : Safety → Safety) : (s.modSaf f).safShadow = s.safShadow := rfl
@[simp] theorem State.modSaf_ax (f : Safety → Safety) : (s.modSaf f).ax = s.ax := rfl
@[simp] theorem State.modSaf_dw (f : Safety → Safety) : (s.modSaf f).dw = s.dw := rfl
@[simp] theorem State.modSaf_io (f : Safety → Safety) : (s.modSaf f).io = s.io := rfl
@[simp] theorem State.modSaf_groups (f : Safety → Safety) : (s.modSaf f).groups = s.groups := rfl
@[simp] theorem State.modSaf_stations (f : Safety → Safety) : (s.modSaf f).stations = s.stations := rfl
@[simp] theorem State.modSaf_link (f : Safety → Safety) : (s.modSaf f).link = s.link := rfl
@[simp] theorem State.modSaf_logic (f : Safety → Safety) : (s.modSaf f).logic = s.logic := rfl
@[simp] theorem State.modSaf_kcp (f : Safety → Safety) : (s.modSaf f).kcp = s.kcp := rfl
@[simp] theorem State.modSaf_net (f : Safety → Safety) : (s.modSaf f).net = s.net := rfl
@[simp] theorem State.modSaf_time (f : Safety → Safety) : (s.modSaf f).time = s.time := rfl
@[simp] theorem State.modSaf_herd (f : Safety → Safety) : (s.modSaf f).herd = s.herd := rfl
@[simp] theorem State.modSaf_jrn (f : Safety → Safety) : (s.modSaf f).jrn = s.jrn := rfl
@[simp] theorem State.modSaf_ev (f : Safety → Safety) : (s.modSaf f).ev = s.ev := rfl
@[simp] theorem State.modSaf_boot (f : Safety → Safety) : (s.modSaf f).boot = s.boot := rfl
@[simp] theorem State.modSaf_sup (f : Safety → Safety) : (s.modSaf f).sup = s.sup := rfl
@[simp] theorem State.modSaf_graze (f : Safety → Safety) : (s.modSaf f).graze = s.graze := rfl
@[simp] theorem State.modSaf_tab (f : Safety → Safety) : (s.modSaf f).tab = s.tab := rfl
@[simp] theorem State.modSaf_reqs (f : Safety → Safety) : (s.modSaf f).reqs = s.reqs := rfl
@[simp] theorem State.modSaf_waitNo (f : Safety → Safety) : (s.modSaf f).waitNo = s.waitNo := rfl
@[simp] theorem State.modSaf_probe (f : Safety → Safety) : (s.modSaf f).probe = s.probe := rfl
@[simp] theorem State.modSaf_starts (f : Safety → Safety) : (s.modSaf f).starts = s.starts := rfl
@[simp] theorem State.modSaf_probeNext (f : Safety → Safety) : (s.modSaf f).probeNext = s.probeNext := rfl
@[simp] theorem State.modSaf_saf (f : Safety → Safety) : (s.modSaf f).saf = f s.saf := rfl

/-! `modLanes` -/

@[simp] theorem State.modLanes_pending (f : Lanes → Lanes) : (s.modLanes f).pending = s.pending := rfl
@[simp] theorem State.modLanes_us (f : Lanes → Lanes) : (s.modLanes f).us = s.us := rfl
@[simp] theorem State.modLanes_fresh (f : Lanes → Lanes) : (s.modLanes f).fresh = s.fresh := rfl
@[simp] theorem State.modLanes_par (f : Lanes → Lanes) : (s.modLanes f).par = s.par := rfl
@[simp] theorem State.modLanes_shadow (f : Lanes → Lanes) : (s.modLanes f).shadow = s.shadow := rfl
@[simp] theorem State.modLanes_safShadow (f : Lanes → Lanes) : (s.modLanes f).safShadow = s.safShadow := rfl
@[simp] theorem State.modLanes_ax (f : Lanes → Lanes) : (s.modLanes f).ax = s.ax := rfl
@[simp] theorem State.modLanes_dw (f : Lanes → Lanes) : (s.modLanes f).dw = s.dw := rfl
@[simp] theorem State.modLanes_io (f : Lanes → Lanes) : (s.modLanes f).io = s.io := rfl
@[simp] theorem State.modLanes_groups (f : Lanes → Lanes) : (s.modLanes f).groups = s.groups := rfl
@[simp] theorem State.modLanes_stations (f : Lanes → Lanes) : (s.modLanes f).stations = s.stations := rfl
@[simp] theorem State.modLanes_link (f : Lanes → Lanes) : (s.modLanes f).link = s.link := rfl
@[simp] theorem State.modLanes_logic (f : Lanes → Lanes) : (s.modLanes f).logic = s.logic := rfl
@[simp] theorem State.modLanes_kcp (f : Lanes → Lanes) : (s.modLanes f).kcp = s.kcp := rfl
@[simp] theorem State.modLanes_net (f : Lanes → Lanes) : (s.modLanes f).net = s.net := rfl
@[simp] theorem State.modLanes_time (f : Lanes → Lanes) : (s.modLanes f).time = s.time := rfl
@[simp] theorem State.modLanes_herd (f : Lanes → Lanes) : (s.modLanes f).herd = s.herd := rfl
@[simp] theorem State.modLanes_jrn (f : Lanes → Lanes) : (s.modLanes f).jrn = s.jrn := rfl
@[simp] theorem State.modLanes_ev (f : Lanes → Lanes) : (s.modLanes f).ev = s.ev := rfl
@[simp] theorem State.modLanes_boot (f : Lanes → Lanes) : (s.modLanes f).boot = s.boot := rfl
@[simp] theorem State.modLanes_sup (f : Lanes → Lanes) : (s.modLanes f).sup = s.sup := rfl
@[simp] theorem State.modLanes_graze (f : Lanes → Lanes) : (s.modLanes f).graze = s.graze := rfl
@[simp] theorem State.modLanes_tab (f : Lanes → Lanes) : (s.modLanes f).tab = s.tab := rfl
@[simp] theorem State.modLanes_reqs (f : Lanes → Lanes) : (s.modLanes f).reqs = s.reqs := rfl
@[simp] theorem State.modLanes_waitNo (f : Lanes → Lanes) : (s.modLanes f).waitNo = s.waitNo := rfl
@[simp] theorem State.modLanes_probe (f : Lanes → Lanes) : (s.modLanes f).probe = s.probe := rfl
@[simp] theorem State.modLanes_starts (f : Lanes → Lanes) : (s.modLanes f).starts = s.starts := rfl
@[simp] theorem State.modLanes_probeNext (f : Lanes → Lanes) : (s.modLanes f).probeNext = s.probeNext := rfl
@[simp] theorem State.modLanes_saf (f : Lanes → Lanes) : (s.modLanes f).saf = { s.saf with lanes := f s.saf.lanes } := rfl

/-! `modJrn` -/

@[simp] theorem State.modJrn_pending (f : Journal → Journal) : (s.modJrn f).pending = s.pending := rfl
@[simp] theorem State.modJrn_us (f : Journal → Journal) : (s.modJrn f).us = s.us := rfl
@[simp] theorem State.modJrn_fresh (f : Journal → Journal) : (s.modJrn f).fresh = s.fresh := rfl
@[simp] theorem State.modJrn_par (f : Journal → Journal) : (s.modJrn f).par = s.par := rfl
@[simp] theorem State.modJrn_shadow (f : Journal → Journal) : (s.modJrn f).shadow = s.shadow := rfl
@[simp] theorem State.modJrn_safShadow (f : Journal → Journal) : (s.modJrn f).safShadow = s.safShadow := rfl
@[simp] theorem State.modJrn_ax (f : Journal → Journal) : (s.modJrn f).ax = s.ax := rfl
@[simp] theorem State.modJrn_dw (f : Journal → Journal) : (s.modJrn f).dw = s.dw := rfl
@[simp] theorem State.modJrn_saf (f : Journal → Journal) : (s.modJrn f).saf = s.saf := rfl
@[simp] theorem State.modJrn_io (f : Journal → Journal) : (s.modJrn f).io = s.io := rfl
@[simp] theorem State.modJrn_groups (f : Journal → Journal) : (s.modJrn f).groups = s.groups := rfl
@[simp] theorem State.modJrn_stations (f : Journal → Journal) : (s.modJrn f).stations = s.stations := rfl
@[simp] theorem State.modJrn_link (f : Journal → Journal) : (s.modJrn f).link = s.link := rfl
@[simp] theorem State.modJrn_logic (f : Journal → Journal) : (s.modJrn f).logic = s.logic := rfl
@[simp] theorem State.modJrn_kcp (f : Journal → Journal) : (s.modJrn f).kcp = s.kcp := rfl
@[simp] theorem State.modJrn_net (f : Journal → Journal) : (s.modJrn f).net = s.net := rfl
@[simp] theorem State.modJrn_time (f : Journal → Journal) : (s.modJrn f).time = s.time := rfl
@[simp] theorem State.modJrn_herd (f : Journal → Journal) : (s.modJrn f).herd = s.herd := rfl
@[simp] theorem State.modJrn_ev (f : Journal → Journal) : (s.modJrn f).ev = s.ev := rfl
@[simp] theorem State.modJrn_boot (f : Journal → Journal) : (s.modJrn f).boot = s.boot := rfl
@[simp] theorem State.modJrn_sup (f : Journal → Journal) : (s.modJrn f).sup = s.sup := rfl
@[simp] theorem State.modJrn_graze (f : Journal → Journal) : (s.modJrn f).graze = s.graze := rfl
@[simp] theorem State.modJrn_tab (f : Journal → Journal) : (s.modJrn f).tab = s.tab := rfl
@[simp] theorem State.modJrn_reqs (f : Journal → Journal) : (s.modJrn f).reqs = s.reqs := rfl
@[simp] theorem State.modJrn_waitNo (f : Journal → Journal) : (s.modJrn f).waitNo = s.waitNo := rfl
@[simp] theorem State.modJrn_probe (f : Journal → Journal) : (s.modJrn f).probe = s.probe := rfl
@[simp] theorem State.modJrn_starts (f : Journal → Journal) : (s.modJrn f).starts = s.starts := rfl
@[simp] theorem State.modJrn_probeNext (f : Journal → Journal) : (s.modJrn f).probeNext = s.probeNext := rfl
@[simp] theorem State.modJrn_jrn (f : Journal → Journal) : (s.modJrn f).jrn = f s.jrn := rfl

/-! `modNet` -/

@[simp] theorem State.modNet_pending (f : Net → Net) : (s.modNet f).pending = s.pending := rfl
@[simp] theorem State.modNet_us (f : Net → Net) : (s.modNet f).us = s.us := rfl
@[simp] theorem State.modNet_fresh (f : Net → Net) : (s.modNet f).fresh = s.fresh := rfl
@[simp] theorem State.modNet_par (f : Net → Net) : (s.modNet f).par = s.par := rfl
@[simp] theorem State.modNet_shadow (f : Net → Net) : (s.modNet f).shadow = s.shadow := rfl
@[simp] theorem State.modNet_safShadow (f : Net → Net) : (s.modNet f).safShadow = s.safShadow := rfl
@[simp] theorem State.modNet_ax (f : Net → Net) : (s.modNet f).ax = s.ax := rfl
@[simp] theorem State.modNet_dw (f : Net → Net) : (s.modNet f).dw = s.dw := rfl
@[simp] theorem State.modNet_saf (f : Net → Net) : (s.modNet f).saf = s.saf := rfl
@[simp] theorem State.modNet_io (f : Net → Net) : (s.modNet f).io = s.io := rfl
@[simp] theorem State.modNet_groups (f : Net → Net) : (s.modNet f).groups = s.groups := rfl
@[simp] theorem State.modNet_stations (f : Net → Net) : (s.modNet f).stations = s.stations := rfl
@[simp] theorem State.modNet_link (f : Net → Net) : (s.modNet f).link = s.link := rfl
@[simp] theorem State.modNet_logic (f : Net → Net) : (s.modNet f).logic = s.logic := rfl
@[simp] theorem State.modNet_kcp (f : Net → Net) : (s.modNet f).kcp = s.kcp := rfl
@[simp] theorem State.modNet_time (f : Net → Net) : (s.modNet f).time = s.time := rfl
@[simp] theorem State.modNet_herd (f : Net → Net) : (s.modNet f).herd = s.herd := rfl
@[simp] theorem State.modNet_jrn (f : Net → Net) : (s.modNet f).jrn = s.jrn := rfl
@[simp] theorem State.modNet_ev (f : Net → Net) : (s.modNet f).ev = s.ev := rfl
@[simp] theorem State.modNet_boot (f : Net → Net) : (s.modNet f).boot = s.boot := rfl
@[simp] theorem State.modNet_sup (f : Net → Net) : (s.modNet f).sup = s.sup := rfl
@[simp] theorem State.modNet_graze (f : Net → Net) : (s.modNet f).graze = s.graze := rfl
@[simp] theorem State.modNet_tab (f : Net → Net) : (s.modNet f).tab = s.tab := rfl
@[simp] theorem State.modNet_reqs (f : Net → Net) : (s.modNet f).reqs = s.reqs := rfl
@[simp] theorem State.modNet_waitNo (f : Net → Net) : (s.modNet f).waitNo = s.waitNo := rfl
@[simp] theorem State.modNet_probe (f : Net → Net) : (s.modNet f).probe = s.probe := rfl
@[simp] theorem State.modNet_starts (f : Net → Net) : (s.modNet f).starts = s.starts := rfl
@[simp] theorem State.modNet_probeNext (f : Net → Net) : (s.modNet f).probeNext = s.probeNext := rfl
@[simp] theorem State.modNet_net (f : Net → Net) : (s.modNet f).net = f s.net := rfl

/-! `modTime` -/

@[simp] theorem State.modTime_pending (f : Time → Time) : (s.modTime f).pending = s.pending := rfl
@[simp] theorem State.modTime_us (f : Time → Time) : (s.modTime f).us = s.us := rfl
@[simp] theorem State.modTime_fresh (f : Time → Time) : (s.modTime f).fresh = s.fresh := rfl
@[simp] theorem State.modTime_par (f : Time → Time) : (s.modTime f).par = s.par := rfl
@[simp] theorem State.modTime_shadow (f : Time → Time) : (s.modTime f).shadow = s.shadow := rfl
@[simp] theorem State.modTime_safShadow (f : Time → Time) : (s.modTime f).safShadow = s.safShadow := rfl
@[simp] theorem State.modTime_ax (f : Time → Time) : (s.modTime f).ax = s.ax := rfl
@[simp] theorem State.modTime_dw (f : Time → Time) : (s.modTime f).dw = s.dw := rfl
@[simp] theorem State.modTime_saf (f : Time → Time) : (s.modTime f).saf = s.saf := rfl
@[simp] theorem State.modTime_io (f : Time → Time) : (s.modTime f).io = s.io := rfl
@[simp] theorem State.modTime_groups (f : Time → Time) : (s.modTime f).groups = s.groups := rfl
@[simp] theorem State.modTime_stations (f : Time → Time) : (s.modTime f).stations = s.stations := rfl
@[simp] theorem State.modTime_link (f : Time → Time) : (s.modTime f).link = s.link := rfl
@[simp] theorem State.modTime_logic (f : Time → Time) : (s.modTime f).logic = s.logic := rfl
@[simp] theorem State.modTime_kcp (f : Time → Time) : (s.modTime f).kcp = s.kcp := rfl
@[simp] theorem State.modTime_net (f : Time → Time) : (s.modTime f).net = s.net := rfl
@[simp] theorem State.modTime_herd (f : Time → Time) : (s.modTime f).herd = s.herd := rfl
@[simp] theorem State.modTime_jrn (f : Time → Time) : (s.modTime f).jrn = s.jrn := rfl
@[simp] theorem State.modTime_ev (f : Time → Time) : (s.modTime f).ev = s.ev := rfl
@[simp] theorem State.modTime_boot (f : Time → Time) : (s.modTime f).boot = s.boot := rfl
@[simp] theorem State.modTime_sup (f : Time → Time) : (s.modTime f).sup = s.sup := rfl
@[simp] theorem State.modTime_graze (f : Time → Time) : (s.modTime f).graze = s.graze := rfl
@[simp] theorem State.modTime_tab (f : Time → Time) : (s.modTime f).tab = s.tab := rfl
@[simp] theorem State.modTime_reqs (f : Time → Time) : (s.modTime f).reqs = s.reqs := rfl
@[simp] theorem State.modTime_waitNo (f : Time → Time) : (s.modTime f).waitNo = s.waitNo := rfl
@[simp] theorem State.modTime_probe (f : Time → Time) : (s.modTime f).probe = s.probe := rfl
@[simp] theorem State.modTime_starts (f : Time → Time) : (s.modTime f).starts = s.starts := rfl
@[simp] theorem State.modTime_probeNext (f : Time → Time) : (s.modTime f).probeNext = s.probeNext := rfl
@[simp] theorem State.modTime_time (f : Time → Time) : (s.modTime f).time = f s.time := rfl

/-! `modKcp` -/

@[simp] theorem State.modKcp_pending (f : Kcp → Kcp) : (s.modKcp f).pending = s.pending := rfl
@[simp] theorem State.modKcp_us (f : Kcp → Kcp) : (s.modKcp f).us = s.us := rfl
@[simp] theorem State.modKcp_fresh (f : Kcp → Kcp) : (s.modKcp f).fresh = s.fresh := rfl
@[simp] theorem State.modKcp_par (f : Kcp → Kcp) : (s.modKcp f).par = s.par := rfl
@[simp] theorem State.modKcp_shadow (f : Kcp → Kcp) : (s.modKcp f).shadow = s.shadow := rfl
@[simp] theorem State.modKcp_safShadow (f : Kcp → Kcp) : (s.modKcp f).safShadow = s.safShadow := rfl
@[simp] theorem State.modKcp_ax (f : Kcp → Kcp) : (s.modKcp f).ax = s.ax := rfl
@[simp] theorem State.modKcp_dw (f : Kcp → Kcp) : (s.modKcp f).dw = s.dw := rfl
@[simp] theorem State.modKcp_saf (f : Kcp → Kcp) : (s.modKcp f).saf = s.saf := rfl
@[simp] theorem State.modKcp_io (f : Kcp → Kcp) : (s.modKcp f).io = s.io := rfl
@[simp] theorem State.modKcp_groups (f : Kcp → Kcp) : (s.modKcp f).groups = s.groups := rfl
@[simp] theorem State.modKcp_stations (f : Kcp → Kcp) : (s.modKcp f).stations = s.stations := rfl
@[simp] theorem State.modKcp_link (f : Kcp → Kcp) : (s.modKcp f).link = s.link := rfl
@[simp] theorem State.modKcp_logic (f : Kcp → Kcp) : (s.modKcp f).logic = s.logic := rfl
@[simp] theorem State.modKcp_net (f : Kcp → Kcp) : (s.modKcp f).net = s.net := rfl
@[simp] theorem State.modKcp_time (f : Kcp → Kcp) : (s.modKcp f).time = s.time := rfl
@[simp] theorem State.modKcp_herd (f : Kcp → Kcp) : (s.modKcp f).herd = s.herd := rfl
@[simp] theorem State.modKcp_jrn (f : Kcp → Kcp) : (s.modKcp f).jrn = s.jrn := rfl
@[simp] theorem State.modKcp_ev (f : Kcp → Kcp) : (s.modKcp f).ev = s.ev := rfl
@[simp] theorem State.modKcp_boot (f : Kcp → Kcp) : (s.modKcp f).boot = s.boot := rfl
@[simp] theorem State.modKcp_sup (f : Kcp → Kcp) : (s.modKcp f).sup = s.sup := rfl
@[simp] theorem State.modKcp_graze (f : Kcp → Kcp) : (s.modKcp f).graze = s.graze := rfl
@[simp] theorem State.modKcp_tab (f : Kcp → Kcp) : (s.modKcp f).tab = s.tab := rfl
@[simp] theorem State.modKcp_reqs (f : Kcp → Kcp) : (s.modKcp f).reqs = s.reqs := rfl
@[simp] theorem State.modKcp_waitNo (f : Kcp → Kcp) : (s.modKcp f).waitNo = s.waitNo := rfl
@[simp] theorem State.modKcp_probe (f : Kcp → Kcp) : (s.modKcp f).probe = s.probe := rfl
@[simp] theorem State.modKcp_starts (f : Kcp → Kcp) : (s.modKcp f).starts = s.starts := rfl
@[simp] theorem State.modKcp_probeNext (f : Kcp → Kcp) : (s.modKcp f).probeNext = s.probeNext := rfl
@[simp] theorem State.modKcp_kcp (f : Kcp → Kcp) : (s.modKcp f).kcp = f s.kcp := rfl

/-! `modHerd` -/

@[simp] theorem State.modHerd_pending (f : Herd → Herd) : (s.modHerd f).pending = s.pending := rfl
@[simp] theorem State.modHerd_us (f : Herd → Herd) : (s.modHerd f).us = s.us := rfl
@[simp] theorem State.modHerd_fresh (f : Herd → Herd) : (s.modHerd f).fresh = s.fresh := rfl
@[simp] theorem State.modHerd_par (f : Herd → Herd) : (s.modHerd f).par = s.par := rfl
@[simp] theorem State.modHerd_shadow (f : Herd → Herd) : (s.modHerd f).shadow = s.shadow := rfl
@[simp] theorem State.modHerd_safShadow (f : Herd → Herd) : (s.modHerd f).safShadow = s.safShadow := rfl
@[simp] theorem State.modHerd_ax (f : Herd → Herd) : (s.modHerd f).ax = s.ax := rfl
@[simp] theorem State.modHerd_dw (f : Herd → Herd) : (s.modHerd f).dw = s.dw := rfl
@[simp] theorem State.modHerd_saf (f : Herd → Herd) : (s.modHerd f).saf = s.saf := rfl
@[simp] theorem State.modHerd_io (f : Herd → Herd) : (s.modHerd f).io = s.io := rfl
@[simp] theorem State.modHerd_groups (f : Herd → Herd) : (s.modHerd f).groups = s.groups := rfl
@[simp] theorem State.modHerd_stations (f : Herd → Herd) : (s.modHerd f).stations = s.stations := rfl
@[simp] theorem State.modHerd_link (f : Herd → Herd) : (s.modHerd f).link = s.link := rfl
@[simp] theorem State.modHerd_logic (f : Herd → Herd) : (s.modHerd f).logic = s.logic := rfl
@[simp] theorem State.modHerd_kcp (f : Herd → Herd) : (s.modHerd f).kcp = s.kcp := rfl
@[simp] theorem State.modHerd_net (f : Herd → Herd) : (s.modHerd f).net = s.net := rfl
@[simp] theorem State.modHerd_time (f : Herd → Herd) : (s.modHerd f).time = s.time := rfl
@[simp] theorem State.modHerd_jrn (f : Herd → Herd) : (s.modHerd f).jrn = s.jrn := rfl
@[simp] theorem State.modHerd_ev (f : Herd → Herd) : (s.modHerd f).ev = s.ev := rfl
@[simp] theorem State.modHerd_boot (f : Herd → Herd) : (s.modHerd f).boot = s.boot := rfl
@[simp] theorem State.modHerd_sup (f : Herd → Herd) : (s.modHerd f).sup = s.sup := rfl
@[simp] theorem State.modHerd_graze (f : Herd → Herd) : (s.modHerd f).graze = s.graze := rfl
@[simp] theorem State.modHerd_tab (f : Herd → Herd) : (s.modHerd f).tab = s.tab := rfl
@[simp] theorem State.modHerd_reqs (f : Herd → Herd) : (s.modHerd f).reqs = s.reqs := rfl
@[simp] theorem State.modHerd_waitNo (f : Herd → Herd) : (s.modHerd f).waitNo = s.waitNo := rfl
@[simp] theorem State.modHerd_probe (f : Herd → Herd) : (s.modHerd f).probe = s.probe := rfl
@[simp] theorem State.modHerd_starts (f : Herd → Herd) : (s.modHerd f).starts = s.starts := rfl
@[simp] theorem State.modHerd_probeNext (f : Herd → Herd) : (s.modHerd f).probeNext = s.probeNext := rfl
@[simp] theorem State.modHerd_herd (f : Herd → Herd) : (s.modHerd f).herd = f s.herd := rfl

/-! `modLogic` -/

@[simp] theorem State.modLogic_pending (f : Logic → Logic) : (s.modLogic f).pending = s.pending := rfl
@[simp] theorem State.modLogic_us (f : Logic → Logic) : (s.modLogic f).us = s.us := rfl
@[simp] theorem State.modLogic_fresh (f : Logic → Logic) : (s.modLogic f).fresh = s.fresh := rfl
@[simp] theorem State.modLogic_par (f : Logic → Logic) : (s.modLogic f).par = s.par := rfl
@[simp] theorem State.modLogic_shadow (f : Logic → Logic) : (s.modLogic f).shadow = s.shadow := rfl
@[simp] theorem State.modLogic_safShadow (f : Logic → Logic) : (s.modLogic f).safShadow = s.safShadow := rfl
@[simp] theorem State.modLogic_ax (f : Logic → Logic) : (s.modLogic f).ax = s.ax := rfl
@[simp] theorem State.modLogic_dw (f : Logic → Logic) : (s.modLogic f).dw = s.dw := rfl
@[simp] theorem State.modLogic_saf (f : Logic → Logic) : (s.modLogic f).saf = s.saf := rfl
@[simp] theorem State.modLogic_io (f : Logic → Logic) : (s.modLogic f).io = s.io := rfl
@[simp] theorem State.modLogic_groups (f : Logic → Logic) : (s.modLogic f).groups = s.groups := rfl
@[simp] theorem State.modLogic_stations (f : Logic → Logic) : (s.modLogic f).stations = s.stations := rfl
@[simp] theorem State.modLogic_link (f : Logic → Logic) : (s.modLogic f).link = s.link := rfl
@[simp] theorem State.modLogic_kcp (f : Logic → Logic) : (s.modLogic f).kcp = s.kcp := rfl
@[simp] theorem State.modLogic_net (f : Logic → Logic) : (s.modLogic f).net = s.net := rfl
@[simp] theorem State.modLogic_time (f : Logic → Logic) : (s.modLogic f).time = s.time := rfl
@[simp] theorem State.modLogic_herd (f : Logic → Logic) : (s.modLogic f).herd = s.herd := rfl
@[simp] theorem State.modLogic_jrn (f : Logic → Logic) : (s.modLogic f).jrn = s.jrn := rfl
@[simp] theorem State.modLogic_ev (f : Logic → Logic) : (s.modLogic f).ev = s.ev := rfl
@[simp] theorem State.modLogic_boot (f : Logic → Logic) : (s.modLogic f).boot = s.boot := rfl
@[simp] theorem State.modLogic_sup (f : Logic → Logic) : (s.modLogic f).sup = s.sup := rfl
@[simp] theorem State.modLogic_graze (f : Logic → Logic) : (s.modLogic f).graze = s.graze := rfl
@[simp] theorem State.modLogic_tab (f : Logic → Logic) : (s.modLogic f).tab = s.tab := rfl
@[simp] theorem State.modLogic_reqs (f : Logic → Logic) : (s.modLogic f).reqs = s.reqs := rfl
@[simp] theorem State.modLogic_waitNo (f : Logic → Logic) : (s.modLogic f).waitNo = s.waitNo := rfl
@[simp] theorem State.modLogic_probe (f : Logic → Logic) : (s.modLogic f).probe = s.probe := rfl
@[simp] theorem State.modLogic_starts (f : Logic → Logic) : (s.modLogic f).starts = s.starts := rfl
@[simp] theorem State.modLogic_probeNext (f : Logic → Logic) : (s.modLogic f).probeNext = s.probeNext := rfl
@[simp] theorem State.modLogic_logic (f : Logic → Logic) : (s.modLogic f).logic = f s.logic := rfl

/-! `modLink` -/

@[simp] theorem State.modLink_pending (f : Link → Link) : (s.modLink f).pending = s.pending := rfl
@[simp] theorem State.modLink_us (f : Link → Link) : (s.modLink f).us = s.us := rfl
@[simp] theorem State.modLink_fresh (f : Link → Link) : (s.modLink f).fresh = s.fresh := rfl
@[simp] theorem State.modLink_par (f : Link → Link) : (s.modLink f).par = s.par := rfl
@[simp] theorem State.modLink_shadow (f : Link → Link) : (s.modLink f).shadow = s.shadow := rfl
@[simp] theorem State.modLink_safShadow (f : Link → Link) : (s.modLink f).safShadow = s.safShadow := rfl
@[simp] theorem State.modLink_ax (f : Link → Link) : (s.modLink f).ax = s.ax := rfl
@[simp] theorem State.modLink_dw (f : Link → Link) : (s.modLink f).dw = s.dw := rfl
@[simp] theorem State.modLink_saf (f : Link → Link) : (s.modLink f).saf = s.saf := rfl
@[simp] theorem State.modLink_io (f : Link → Link) : (s.modLink f).io = s.io := rfl
@[simp] theorem State.modLink_groups (f : Link → Link) : (s.modLink f).groups = s.groups := rfl
@[simp] theorem State.modLink_stations (f : Link → Link) : (s.modLink f).stations = s.stations := rfl
@[simp] theorem State.modLink_logic (f : Link → Link) : (s.modLink f).logic = s.logic := rfl
@[simp] theorem State.modLink_kcp (f : Link → Link) : (s.modLink f).kcp = s.kcp := rfl
@[simp] theorem State.modLink_net (f : Link → Link) : (s.modLink f).net = s.net := rfl
@[simp] theorem State.modLink_time (f : Link → Link) : (s.modLink f).time = s.time := rfl
@[simp] theorem State.modLink_herd (f : Link → Link) : (s.modLink f).herd = s.herd := rfl
@[simp] theorem State.modLink_jrn (f : Link → Link) : (s.modLink f).jrn = s.jrn := rfl
@[simp] theorem State.modLink_ev (f : Link → Link) : (s.modLink f).ev = s.ev := rfl
@[simp] theorem State.modLink_boot (f : Link → Link) : (s.modLink f).boot = s.boot := rfl
@[simp] theorem State.modLink_sup (f : Link → Link) : (s.modLink f).sup = s.sup := rfl
@[simp] theorem State.modLink_graze (f : Link → Link) : (s.modLink f).graze = s.graze := rfl
@[simp] theorem State.modLink_tab (f : Link → Link) : (s.modLink f).tab = s.tab := rfl
@[simp] theorem State.modLink_reqs (f : Link → Link) : (s.modLink f).reqs = s.reqs := rfl
@[simp] theorem State.modLink_waitNo (f : Link → Link) : (s.modLink f).waitNo = s.waitNo := rfl
@[simp] theorem State.modLink_probe (f : Link → Link) : (s.modLink f).probe = s.probe := rfl
@[simp] theorem State.modLink_starts (f : Link → Link) : (s.modLink f).starts = s.starts := rfl
@[simp] theorem State.modLink_probeNext (f : Link → Link) : (s.modLink f).probeNext = s.probeNext := rfl
@[simp] theorem State.modLink_link (f : Link → Link) : (s.modLink f).link = f s.link := rfl

/-! `modBoot` -/

@[simp] theorem State.modBoot_pending (f : Boot → Boot) : (s.modBoot f).pending = s.pending := rfl
@[simp] theorem State.modBoot_us (f : Boot → Boot) : (s.modBoot f).us = s.us := rfl
@[simp] theorem State.modBoot_fresh (f : Boot → Boot) : (s.modBoot f).fresh = s.fresh := rfl
@[simp] theorem State.modBoot_par (f : Boot → Boot) : (s.modBoot f).par = s.par := rfl
@[simp] theorem State.modBoot_shadow (f : Boot → Boot) : (s.modBoot f).shadow = s.shadow := rfl
@[simp] theorem State.modBoot_safShadow (f : Boot → Boot) : (s.modBoot f).safShadow = s.safShadow := rfl
@[simp] theorem State.modBoot_ax (f : Boot → Boot) : (s.modBoot f).ax = s.ax := rfl
@[simp] theorem State.modBoot_dw (f : Boot → Boot) : (s.modBoot f).dw = s.dw := rfl
@[simp] theorem State.modBoot_saf (f : Boot → Boot) : (s.modBoot f).saf = s.saf := rfl
@[simp] theorem State.modBoot_io (f : Boot → Boot) : (s.modBoot f).io = s.io := rfl
@[simp] theorem State.modBoot_groups (f : Boot → Boot) : (s.modBoot f).groups = s.groups := rfl
@[simp] theorem State.modBoot_stations (f : Boot → Boot) : (s.modBoot f).stations = s.stations := rfl
@[simp] theorem State.modBoot_link (f : Boot → Boot) : (s.modBoot f).link = s.link := rfl
@[simp] theorem State.modBoot_logic (f : Boot → Boot) : (s.modBoot f).logic = s.logic := rfl
@[simp] theorem State.modBoot_kcp (f : Boot → Boot) : (s.modBoot f).kcp = s.kcp := rfl
@[simp] theorem State.modBoot_net (f : Boot → Boot) : (s.modBoot f).net = s.net := rfl
@[simp] theorem State.modBoot_time (f : Boot → Boot) : (s.modBoot f).time = s.time := rfl
@[simp] theorem State.modBoot_herd (f : Boot → Boot) : (s.modBoot f).herd = s.herd := rfl
@[simp] theorem State.modBoot_jrn (f : Boot → Boot) : (s.modBoot f).jrn = s.jrn := rfl
@[simp] theorem State.modBoot_ev (f : Boot → Boot) : (s.modBoot f).ev = s.ev := rfl
@[simp] theorem State.modBoot_sup (f : Boot → Boot) : (s.modBoot f).sup = s.sup := rfl
@[simp] theorem State.modBoot_graze (f : Boot → Boot) : (s.modBoot f).graze = s.graze := rfl
@[simp] theorem State.modBoot_tab (f : Boot → Boot) : (s.modBoot f).tab = s.tab := rfl
@[simp] theorem State.modBoot_reqs (f : Boot → Boot) : (s.modBoot f).reqs = s.reqs := rfl
@[simp] theorem State.modBoot_waitNo (f : Boot → Boot) : (s.modBoot f).waitNo = s.waitNo := rfl
@[simp] theorem State.modBoot_probe (f : Boot → Boot) : (s.modBoot f).probe = s.probe := rfl
@[simp] theorem State.modBoot_starts (f : Boot → Boot) : (s.modBoot f).starts = s.starts := rfl
@[simp] theorem State.modBoot_probeNext (f : Boot → Boot) : (s.modBoot f).probeNext = s.probeNext := rfl
@[simp] theorem State.modBoot_boot (f : Boot → Boot) : (s.modBoot f).boot = f s.boot := rfl

/-! `modSup` -/

@[simp] theorem State.modSup_pending (f : Supply → Supply) : (s.modSup f).pending = s.pending := rfl
@[simp] theorem State.modSup_us (f : Supply → Supply) : (s.modSup f).us = s.us := rfl
@[simp] theorem State.modSup_fresh (f : Supply → Supply) : (s.modSup f).fresh = s.fresh := rfl
@[simp] theorem State.modSup_par (f : Supply → Supply) : (s.modSup f).par = s.par := rfl
@[simp] theorem State.modSup_shadow (f : Supply → Supply) : (s.modSup f).shadow = s.shadow := rfl
@[simp] theorem State.modSup_safShadow (f : Supply → Supply) : (s.modSup f).safShadow = s.safShadow := rfl
@[simp] theorem State.modSup_ax (f : Supply → Supply) : (s.modSup f).ax = s.ax := rfl
@[simp] theorem State.modSup_dw (f : Supply → Supply) : (s.modSup f).dw = s.dw := rfl
@[simp] theorem State.modSup_saf (f : Supply → Supply) : (s.modSup f).saf = s.saf := rfl
@[simp] theorem State.modSup_io (f : Supply → Supply) : (s.modSup f).io = s.io := rfl
@[simp] theorem State.modSup_groups (f : Supply → Supply) : (s.modSup f).groups = s.groups := rfl
@[simp] theorem State.modSup_stations (f : Supply → Supply) : (s.modSup f).stations = s.stations := rfl
@[simp] theorem State.modSup_link (f : Supply → Supply) : (s.modSup f).link = s.link := rfl
@[simp] theorem State.modSup_logic (f : Supply → Supply) : (s.modSup f).logic = s.logic := rfl
@[simp] theorem State.modSup_kcp (f : Supply → Supply) : (s.modSup f).kcp = s.kcp := rfl
@[simp] theorem State.modSup_net (f : Supply → Supply) : (s.modSup f).net = s.net := rfl
@[simp] theorem State.modSup_time (f : Supply → Supply) : (s.modSup f).time = s.time := rfl
@[simp] theorem State.modSup_herd (f : Supply → Supply) : (s.modSup f).herd = s.herd := rfl
@[simp] theorem State.modSup_jrn (f : Supply → Supply) : (s.modSup f).jrn = s.jrn := rfl
@[simp] theorem State.modSup_ev (f : Supply → Supply) : (s.modSup f).ev = s.ev := rfl
@[simp] theorem State.modSup_boot (f : Supply → Supply) : (s.modSup f).boot = s.boot := rfl
@[simp] theorem State.modSup_graze (f : Supply → Supply) : (s.modSup f).graze = s.graze := rfl
@[simp] theorem State.modSup_tab (f : Supply → Supply) : (s.modSup f).tab = s.tab := rfl
@[simp] theorem State.modSup_reqs (f : Supply → Supply) : (s.modSup f).reqs = s.reqs := rfl
@[simp] theorem State.modSup_waitNo (f : Supply → Supply) : (s.modSup f).waitNo = s.waitNo := rfl
@[simp] theorem State.modSup_probe (f : Supply → Supply) : (s.modSup f).probe = s.probe := rfl
@[simp] theorem State.modSup_starts (f : Supply → Supply) : (s.modSup f).starts = s.starts := rfl
@[simp] theorem State.modSup_probeNext (f : Supply → Supply) : (s.modSup f).probeNext = s.probeNext := rfl
@[simp] theorem State.modSup_sup (f : Supply → Supply) : (s.modSup f).sup = f s.sup := rfl

/-! `modGraze` -/

@[simp] theorem State.modGraze_pending (f : Graze → Graze) : (s.modGraze f).pending = s.pending := rfl
@[simp] theorem State.modGraze_us (f : Graze → Graze) : (s.modGraze f).us = s.us := rfl
@[simp] theorem State.modGraze_fresh (f : Graze → Graze) : (s.modGraze f).fresh = s.fresh := rfl
@[simp] theorem State.modGraze_par (f : Graze → Graze) : (s.modGraze f).par = s.par := rfl
@[simp] theorem State.modGraze_shadow (f : Graze → Graze) : (s.modGraze f).shadow = s.shadow := rfl
@[simp] theorem State.modGraze_safShadow (f : Graze → Graze) : (s.modGraze f).safShadow = s.safShadow := rfl
@[simp] theorem State.modGraze_ax (f : Graze → Graze) : (s.modGraze f).ax = s.ax := rfl
@[simp] theorem State.modGraze_dw (f : Graze → Graze) : (s.modGraze f).dw = s.dw := rfl
@[simp] theorem State.modGraze_saf (f : Graze → Graze) : (s.modGraze f).saf = s.saf := rfl
@[simp] theorem State.modGraze_io (f : Graze → Graze) : (s.modGraze f).io = s.io := rfl
@[simp] theorem State.modGraze_groups (f : Graze → Graze) : (s.modGraze f).groups = s.groups := rfl
@[simp] theorem State.modGraze_stations (f : Graze → Graze) : (s.modGraze f).stations = s.stations := rfl
@[simp] theorem State.modGraze_link (f : Graze → Graze) : (s.modGraze f).link = s.link := rfl
@[simp] theorem State.modGraze_logic (f : Graze → Graze) : (s.modGraze f).logic = s.logic := rfl
@[simp] theorem State.modGraze_kcp (f : Graze → Graze) : (s.modGraze f).kcp = s.kcp := rfl
@[simp] theorem State.modGraze_net (f : Graze → Graze) : (s.modGraze f).net = s.net := rfl
@[simp] theorem State.modGraze_time (f : Graze → Graze) : (s.modGraze f).time = s.time := rfl
@[simp] theorem State.modGraze_herd (f : Graze → Graze) : (s.modGraze f).herd = s.herd := rfl
@[simp] theorem State.modGraze_jrn (f : Graze → Graze) : (s.modGraze f).jrn = s.jrn := rfl
@[simp] theorem State.modGraze_ev (f : Graze → Graze) : (s.modGraze f).ev = s.ev := rfl
@[simp] theorem State.modGraze_boot (f : Graze → Graze) : (s.modGraze f).boot = s.boot := rfl
@[simp] theorem State.modGraze_sup (f : Graze → Graze) : (s.modGraze f).sup = s.sup := rfl
@[simp] theorem State.modGraze_tab (f : Graze → Graze) : (s.modGraze f).tab = s.tab := rfl
@[simp] theorem State.modGraze_reqs (f : Graze → Graze) : (s.modGraze f).reqs = s.reqs := rfl
@[simp] theorem State.modGraze_waitNo (f : Graze → Graze) : (s.modGraze f).waitNo = s.waitNo := rfl
@[simp] theorem State.modGraze_probe (f : Graze → Graze) : (s.modGraze f).probe = s.probe := rfl
@[simp] theorem State.modGraze_starts (f : Graze → Graze) : (s.modGraze f).starts = s.starts := rfl
@[simp] theorem State.modGraze_probeNext (f : Graze → Graze) : (s.modGraze f).probeNext = s.probeNext := rfl
@[simp] theorem State.modGraze_graze (f : Graze → Graze) : (s.modGraze f).graze = f s.graze := rfl

/-! `modEv` -/

@[simp] theorem State.modEv_pending (f : Events → Events) : (s.modEv f).pending = s.pending := rfl
@[simp] theorem State.modEv_us (f : Events → Events) : (s.modEv f).us = s.us := rfl
@[simp] theorem State.modEv_fresh (f : Events → Events) : (s.modEv f).fresh = s.fresh := rfl
@[simp] theorem State.modEv_par (f : Events → Events) : (s.modEv f).par = s.par := rfl
@[simp] theorem State.modEv_shadow (f : Events → Events) : (s.modEv f).shadow = s.shadow := rfl
@[simp] theorem State.modEv_safShadow (f : Events → Events) : (s.modEv f).safShadow = s.safShadow := rfl
@[simp] theorem State.modEv_ax (f : Events → Events) : (s.modEv f).ax = s.ax := rfl
@[simp] theorem State.modEv_dw (f : Events → Events) : (s.modEv f).dw = s.dw := rfl
@[simp] theorem State.modEv_saf (f : Events → Events) : (s.modEv f).saf = s.saf := rfl
@[simp] theorem State.modEv_io (f : Events → Events) : (s.modEv f).io = s.io := rfl
@[simp] theorem State.modEv_groups (f : Events → Events) : (s.modEv f).groups = s.groups := rfl
@[simp] theorem State.modEv_stations (f : Events → Events) : (s.modEv f).stations = s.stations := rfl
@[simp] theorem State.modEv_link (f : Events → Events) : (s.modEv f).link = s.link := rfl
@[simp] theorem State.modEv_logic (f : Events → Events) : (s.modEv f).logic = s.logic := rfl
@[simp] theorem State.modEv_kcp (f : Events → Events) : (s.modEv f).kcp = s.kcp := rfl
@[simp] theorem State.modEv_net (f : Events → Events) : (s.modEv f).net = s.net := rfl
@[simp] theorem State.modEv_time (f : Events → Events) : (s.modEv f).time = s.time := rfl
@[simp] theorem State.modEv_herd (f : Events → Events) : (s.modEv f).herd = s.herd := rfl
@[simp] theorem State.modEv_jrn (f : Events → Events) : (s.modEv f).jrn = s.jrn := rfl
@[simp] theorem State.modEv_boot (f : Events → Events) : (s.modEv f).boot = s.boot := rfl
@[simp] theorem State.modEv_sup (f : Events → Events) : (s.modEv f).sup = s.sup := rfl
@[simp] theorem State.modEv_graze (f : Events → Events) : (s.modEv f).graze = s.graze := rfl
@[simp] theorem State.modEv_tab (f : Events → Events) : (s.modEv f).tab = s.tab := rfl
@[simp] theorem State.modEv_reqs (f : Events → Events) : (s.modEv f).reqs = s.reqs := rfl
@[simp] theorem State.modEv_waitNo (f : Events → Events) : (s.modEv f).waitNo = s.waitNo := rfl
@[simp] theorem State.modEv_probe (f : Events → Events) : (s.modEv f).probe = s.probe := rfl
@[simp] theorem State.modEv_starts (f : Events → Events) : (s.modEv f).starts = s.starts := rfl
@[simp] theorem State.modEv_probeNext (f : Events → Events) : (s.modEv f).probeNext = s.probeNext := rfl
@[simp] theorem State.modEv_ev (f : Events → Events) : (s.modEv f).ev = f s.ev := rfl

/-! `setVal` and `draw` -/

@[simp] theorem State.setVal_pending (p : Par) (v : Int) : (s.setVal p v).pending = s.pending := rfl
@[simp] theorem State.setVal_us (p : Par) (v : Int) : (s.setVal p v).us = s.us := rfl
@[simp] theorem State.setVal_fresh (p : Par) (v : Int) : (s.setVal p v).fresh = s.fresh := rfl
@[simp] theorem State.setVal_shadow (p : Par) (v : Int) : (s.setVal p v).shadow = s.shadow := rfl
@[simp] theorem State.setVal_safShadow (p : Par) (v : Int) : (s.setVal p v).safShadow = s.safShadow := rfl
@[simp] theorem State.setVal_ax (p : Par) (v : Int) : (s.setVal p v).ax = s.ax := rfl
@[simp] theorem State.setVal_dw (p : Par) (v : Int) : (s.setVal p v).dw = s.dw := rfl
@[simp] theorem State.setVal_saf (p : Par) (v : Int) : (s.setVal p v).saf = s.saf := rfl
@[simp] theorem State.setVal_io (p : Par) (v : Int) : (s.setVal p v).io = s.io := rfl
@[simp] theorem State.setVal_groups (p : Par) (v : Int) : (s.setVal p v).groups = s.groups := rfl
@[simp] theorem State.setVal_stations (p : Par) (v : Int) : (s.setVal p v).stations = s.stations := rfl
@[simp] theorem State.setVal_link (p : Par) (v : Int) : (s.setVal p v).link = s.link := rfl
@[simp] theorem State.setVal_logic (p : Par) (v : Int) : (s.setVal p v).logic = s.logic := rfl
@[simp] theorem State.setVal_kcp (p : Par) (v : Int) : (s.setVal p v).kcp = s.kcp := rfl
@[simp] theorem State.setVal_net (p : Par) (v : Int) : (s.setVal p v).net = s.net := rfl
@[simp] theorem State.setVal_time (p : Par) (v : Int) : (s.setVal p v).time = s.time := rfl
@[simp] theorem State.setVal_herd (p : Par) (v : Int) : (s.setVal p v).herd = s.herd := rfl
@[simp] theorem State.setVal_jrn (p : Par) (v : Int) : (s.setVal p v).jrn = s.jrn := rfl
@[simp] theorem State.setVal_ev (p : Par) (v : Int) : (s.setVal p v).ev = s.ev := rfl
@[simp] theorem State.setVal_boot (p : Par) (v : Int) : (s.setVal p v).boot = s.boot := rfl
@[simp] theorem State.setVal_sup (p : Par) (v : Int) : (s.setVal p v).sup = s.sup := rfl
@[simp] theorem State.setVal_graze (p : Par) (v : Int) : (s.setVal p v).graze = s.graze := rfl
@[simp] theorem State.setVal_tab (p : Par) (v : Int) : (s.setVal p v).tab = s.tab := rfl
@[simp] theorem State.setVal_reqs (p : Par) (v : Int) : (s.setVal p v).reqs = s.reqs := rfl
@[simp] theorem State.setVal_waitNo (p : Par) (v : Int) : (s.setVal p v).waitNo = s.waitNo := rfl
@[simp] theorem State.setVal_probe (p : Par) (v : Int) : (s.setVal p v).probe = s.probe := rfl
@[simp] theorem State.setVal_starts (p : Par) (v : Int) : (s.setVal p v).starts = s.starts := rfl
@[simp] theorem State.setVal_probeNext (p : Par) (v : Int) : (s.setVal p v).probeNext = s.probeNext := rfl
@[simp] theorem State.draw_pending  : (s.draw).pending = s.pending := rfl
@[simp] theorem State.draw_us  : (s.draw).us = s.us := rfl
@[simp] theorem State.draw_par  : (s.draw).par = s.par := rfl
@[simp] theorem State.draw_shadow  : (s.draw).shadow = s.shadow := rfl
@[simp] theorem State.draw_safShadow  : (s.draw).safShadow = s.safShadow := rfl
@[simp] theorem State.draw_ax  : (s.draw).ax = s.ax := rfl
@[simp] theorem State.draw_dw  : (s.draw).dw = s.dw := rfl
@[simp] theorem State.draw_saf  : (s.draw).saf = s.saf := rfl
@[simp] theorem State.draw_io  : (s.draw).io = s.io := rfl
@[simp] theorem State.draw_groups  : (s.draw).groups = s.groups := rfl
@[simp] theorem State.draw_stations  : (s.draw).stations = s.stations := rfl
@[simp] theorem State.draw_link  : (s.draw).link = s.link := rfl
@[simp] theorem State.draw_logic  : (s.draw).logic = s.logic := rfl
@[simp] theorem State.draw_kcp  : (s.draw).kcp = s.kcp := rfl
@[simp] theorem State.draw_net  : (s.draw).net = s.net := rfl
@[simp] theorem State.draw_time  : (s.draw).time = s.time := rfl
@[simp] theorem State.draw_herd  : (s.draw).herd = s.herd := rfl
@[simp] theorem State.draw_jrn  : (s.draw).jrn = s.jrn := rfl
@[simp] theorem State.draw_ev  : (s.draw).ev = s.ev := rfl
@[simp] theorem State.draw_boot  : (s.draw).boot = s.boot := rfl
@[simp] theorem State.draw_sup  : (s.draw).sup = s.sup := rfl
@[simp] theorem State.draw_graze  : (s.draw).graze = s.graze := rfl
@[simp] theorem State.draw_tab  : (s.draw).tab = s.tab := rfl
@[simp] theorem State.draw_reqs  : (s.draw).reqs = s.reqs := rfl
@[simp] theorem State.draw_waitNo  : (s.draw).waitNo = s.waitNo := rfl
@[simp] theorem State.draw_probe  : (s.draw).probe = s.probe := rfl
@[simp] theorem State.draw_starts  : (s.draw).starts = s.starts := rfl
@[simp] theorem State.draw_probeNext  : (s.draw).probeNext = s.probeNext := rfl
@[simp] theorem State.draw_fresh : s.draw.fresh = s.fresh + 1 := rfl

/-! ## Reading a numbered part after a replacement -/

@[simp] theorem State.axis_setAxis_same (i : Nat) (x : Axis) (h : i < 24) : (s.setAxis i x).axis i = x := by
  simp [State.axis, State.setAxis, h]
@[simp] theorem State.axis_setAxis_other (i k : Nat) (x : Axis) (h : k ≠ i) : (s.setAxis i x).axis k = s.axis k := by
  simp [State.axis, State.setAxis, h.symm]
@[simp] theorem State.axis_modAxis_same (i : Nat) (f : Axis → Axis) (h : i < 24) : (s.modAxis i f).axis i = f (s.axis i) := by
  simp [State.modAxis, h]
@[simp] theorem State.axis_modAxis_other (i k : Nat) (f : Axis → Axis) (h : k ≠ i) : (s.modAxis i f).axis k = s.axis k := by
  simp [State.modAxis, h]
@[simp] theorem State.door_setDoor_same (i : Nat) (x : Doorway) (h : i < 8) : (s.setDoor i x).door i = x := by
  simp [State.door, State.setDoor, h]
@[simp] theorem State.door_setDoor_other (i k : Nat) (x : Doorway) (h : k ≠ i) : (s.setDoor i x).door k = s.door k := by
  simp [State.door, State.setDoor, h.symm]
@[simp] theorem State.door_modDoor_same (i : Nat) (f : Doorway → Doorway) (h : i < 8) : (s.modDoor i f).door i = f (s.door i) := by
  simp [State.modDoor, h]
@[simp] theorem State.door_modDoor_other (i k : Nat) (f : Doorway → Doorway) (h : k ≠ i) : (s.modDoor i f).door k = s.door k := by
  simp [State.modDoor, h]
@[simp] theorem State.pin_setPin_same (i : Nat) (x : Pin) (h : i < 112) : (s.setPin i x).pin i = x := by
  simp [State.pin, State.setPin, h]
@[simp] theorem State.pin_setPin_other (i k : Nat) (x : Pin) (h : k ≠ i) : (s.setPin i x).pin k = s.pin k := by
  simp [State.pin, State.setPin, h.symm]
@[simp] theorem State.pin_modPin_same (i : Nat) (f : Pin → Pin) (h : i < 112) : (s.modPin i f).pin i = f (s.pin i) := by
  simp [State.modPin, h]
@[simp] theorem State.pin_modPin_other (i k : Nat) (f : Pin → Pin) (h : k ≠ i) : (s.modPin i f).pin k = s.pin k := by
  simp [State.modPin, h]
@[simp] theorem State.group_modGroup_same (i : Nat) (f : Group → Group) (h : i < 9) : (s.modGroup i f).group i = f (s.group i) := by
  simp [State.group, State.modGroup, h]
@[simp] theorem State.group_modGroup_other (i k : Nat) (f : Group → Group) (h : k ≠ i) : (s.modGroup i f).group k = s.group k := by
  simp [State.group, State.modGroup, h.symm]
@[simp] theorem State.station_modStation_same (i : Nat) (f : Station → Station) (h : i < 16) : (s.modStation i f).station i = f (s.station i) := by
  simp [State.station, State.modStation, h]
@[simp] theorem State.station_modStation_other (i k : Nat) (f : Station → Station) (h : k ≠ i) : (s.modStation i f).station k = s.station k := by
  simp [State.station, State.modStation, h.symm]
@[simp] theorem State.region_modRegion_same (i : Nat) (f : Region → Region) (h : i < 5) : (s.modRegion i f).region i = f (s.region i) := by
  simp [State.region, State.modRegion, h]
@[simp] theorem State.region_modRegion_other (i k : Nat) (f : Region → Region) (h : k ≠ i) : (s.modRegion i f).region k = s.region k := by
  simp [State.region, State.modRegion, h.symm]
@[simp] theorem State.port_modPort_same (i : Nat) (f : NetPort → NetPort) (h : i < 3) : (s.modPort i f).port i = f (s.port i) := by
  simp [State.port, State.modPort, h]
@[simp] theorem State.port_modPort_other (i k : Nat) (f : NetPort → NetPort) (h : k ≠ i) : (s.modPort i f).port k = s.port k := by
  simp [State.port, State.modPort, h.symm]
@[simp] theorem State.clock_modClock_same (i : Nat) (f : Clock → Clock) (h : i < 2) : (s.modClock i f).clock i = f (s.clock i) := by
  simp [State.clock, State.modClock, h]
@[simp] theorem State.clock_modClock_other (i k : Nat) (f : Clock → Clock) (h : k ≠ i) : (s.modClock i f).clock k = s.clock k := by
  simp [State.clock, State.modClock, h.symm]
@[simp] theorem State.out_modOut_same (i : Nat) (f : SafeOut → SafeOut) (h : i < 4) : (s.modOut i f).out i = f (s.out i) := by
  simp [State.out, State.modOut, h]
@[simp] theorem State.out_modOut_other (i k : Nat) (f : SafeOut → SafeOut) (h : k ≠ i) : (s.modOut i f).out k = s.out k := by
  simp [State.out, State.modOut, h.symm]
@[simp] theorem State.axis_modDrive_same (i : Nat) (f : Drive → Drive) (h : i < 24) :
    (s.modDrive i f).axis i = { s.axis i with drive := f (s.axis i).drive } := by
  simp [State.modDrive, h]
@[simp] theorem State.axis_modDrive_other (i k : Nat) (f : Drive → Drive) (h : k ≠ i) : (s.modDrive i f).axis k = s.axis k := by
  simp [State.modDrive, h]
@[simp] theorem State.axis_modFb_same (i : Nat) (f : Feedback → Feedback) (h : i < 24) :
    (s.modFb i f).axis i = { s.axis i with fb := f (s.axis i).fb } := by
  simp [State.modFb, h]
@[simp] theorem State.axis_modFb_other (i k : Nat) (f : Feedback → Feedback) (h : k ≠ i) : (s.modFb i f).axis k = s.axis k := by
  simp [State.modFb, h]
@[simp] theorem State.axis_modDet_same (i : Nat) (f : Detect → Detect) (h : i < 24) :
    (s.modDet i f).axis i = { s.axis i with det := f (s.axis i).det } := by
  simp [State.modDet, h]
@[simp] theorem State.axis_modDet_other (i k : Nat) (f : Detect → Detect) (h : k ≠ i) : (s.modDet i f).axis k = s.axis k := by
  simp [State.modDet, h]
@[simp] theorem State.axis_modHome_same (i : Nat) (f : Homing → Homing) (h : i < 24) :
    (s.modHome i f).axis i = { s.axis i with home := f (s.axis i).home } := by
  simp [State.modHome, h]
@[simp] theorem State.axis_modHome_other (i k : Nat) (f : Homing → Homing) (h : k ≠ i) : (s.modHome i f).axis k = s.axis k := by
  simp [State.modHome, h]
@[simp] theorem State.pair_modPair_same (lane : Lane) (i : Nat) (f : PairLane → PairLane) (h : i < 32) :
    (s.modPair lane i f).pair lane i = f (s.pair lane i) := by
  cases lane <;> simp [State.pair, State.modPair, h]
@[simp] theorem State.pair_modPair_other (lane other : Lane) (i k : Nat) (f : PairLane → PairLane) (h : other ≠ lane ∨ k ≠ i) :
    (s.modPair lane i f).pair other k = s.pair other k := by
  cases lane <;> cases other <;> simp_all [State.pair, State.modPair, eq_comm]

end Sys2Proof.Machine
end

