-- ==== Sys2Proof/Laws/Ops.lean ====
section
/-! SUPPORT. The shared operations that every command goes through: how a command answers, what holds after it, runs over lists,
and parameters as functions of the stored values alone. -/

namespace Sys2Proof.Machine

/-! ## What every answer has in common -/

@[simp] theorem settle_pending (q : List Instr) (t : State) : (settle q t).pending = q := rfl

theorem gateOut_isOpen (o : SafeOut) : (gateOut o).isOpen := ⟨rfl, rfl⟩

theorem gateOut_of_isOpen {o : SafeOut} (h : o.isOpen) : gateOut o = o := by
  cases o; simp_all [SafeOut.isOpen, gateOut]

/-- Where the module safe state does not stand, only the queue is put back. -/
theorem settle_unsafe {q : List Instr} {t : State} (h : t.saf.lanes.safe = false) : settle q t = { t with pending := q } := by
  simp [settle, h]

/-- Whatever a command did, the safe outputs are open afterwards while the module safe state stands (R26). -/
theorem settle_gated (q : List Instr) (t : State) : OutputsGated (settle q t) := by
  intro h o ho
  by_cases hs : t.saf.lanes.safe = true
  · have hv : (settle q t).saf.outs = #v[gateOut (vget t.saf.outs 0 SafeOut.reset), gateOut (vget t.saf.outs 1 SafeOut.reset),
        gateOut (vget t.saf.outs 2 SafeOut.reset), gateOut (vget t.saf.outs 3 SafeOut.reset)] := by simp [settle, hs]
    have : o = 0 ∨ o = 1 ∨ o = 2 ∨ o = 3 := by omega
    rcases this with rfl | rfl | rfl | rfl <;> simp [State.out, hv, gateOut_isOpen]
  · simp [settle, hs] at h

/-- A state whose outputs are gated is not changed by gating them. -/
theorem settle_of_gated {q : List Instr} {t : State} (h : OutputsGated t) : settle q t = { t with pending := q } := by
  by_cases hs : t.saf.lanes.safe = true
  · have hv : #v[gateOut (vget t.saf.outs 0 SafeOut.reset), gateOut (vget t.saf.outs 1 SafeOut.reset),
        gateOut (vget t.saf.outs 2 SafeOut.reset), gateOut (vget t.saf.outs 3 SafeOut.reset)] = t.saf.outs := by
      have e (o : Nat) (ho : o < 4) : gateOut (vget t.saf.outs o SafeOut.reset) = vget t.saf.outs o SafeOut.reset :=
        gateOut_of_isOpen (h hs o ho)
      rw [e 0 (by omega), e 1 (by omega), e 2 (by omega), e 3 (by omega)]
      ext i hi
      match i, hi with
      | 0, _ | 1, _ | 2, _ | 3, _ => simp [vget]
    simp only [settle, hs, if_true, hv]
  · exact settle_unsafe (by simpa using hs)

/-- What a settled state keeps. Only the safe outputs' switches may differ, and only in the module safe state. -/
@[simp] theorem settle_ax (q : List Instr) (t : State) : (settle q t).ax = t.ax := rfl
@[simp] theorem settle_dw (q : List Instr) (t : State) : (settle q t).dw = t.dw := rfl
@[simp] theorem settle_io (q : List Instr) (t : State) : (settle q t).io = t.io := rfl
@[simp] theorem settle_groups (q : List Instr) (t : State) : (settle q t).groups = t.groups := rfl
@[simp] theorem settle_stations (q : List Instr) (t : State) : (settle q t).stations = t.stations := rfl
@[simp] theorem settle_link (q : List Instr) (t : State) : (settle q t).link = t.link := rfl
@[simp] theorem settle_logic (q : List Instr) (t : State) : (settle q t).logic = t.logic := rfl
@[simp] theorem settle_kcp (q : List Instr) (t : State) : (settle q t).kcp = t.kcp := rfl
@[simp] theorem settle_net (q : List Instr) (t : State) : (settle q t).net = t.net := rfl
@[simp] theorem settle_time (q : List Instr) (t : State) : (settle q t).time = t.time := rfl
@[simp] theorem settle_herd (q : List Instr) (t : State) : (settle q t).herd = t.herd := rfl
@[simp] theorem settle_jrn (q : List Instr) (t : State) : (settle q t).jrn = t.jrn := rfl
@[simp] theorem settle_ev (q : List Instr) (t : State) : (settle q t).ev = t.ev := rfl
@[simp] theorem settle_boot (q : List Instr) (t : State) : (settle q t).boot = t.boot := rfl
@[simp] theorem settle_sup (q : List Instr) (t : State) : (settle q t).sup = t.sup := rfl
@[simp] theorem settle_graze (q : List Instr) (t : State) : (settle q t).graze = t.graze := rfl
@[simp] theorem settle_us (q : List Instr) (t : State) : (settle q t).us = t.us := rfl
@[simp] theorem settle_fresh (q : List Instr) (t : State) : (settle q t).fresh = t.fresh := rfl
@[simp] theorem settle_par (q : List Instr) (t : State) : (settle q t).par = t.par := rfl
@[simp] theorem settle_tab (q : List Instr) (t : State) : (settle q t).tab = t.tab := rfl
@[simp] theorem settle_reqs (q : List Instr) (t : State) : (settle q t).reqs = t.reqs := rfl
@[simp] theorem settle_waitNo (q : List Instr) (t : State) : (settle q t).waitNo = t.waitNo := rfl
@[simp] theorem settle_starts (q : List Instr) (t : State) : (settle q t).starts = t.starts := rfl
@[simp] theorem settle_shadow (q : List Instr) (t : State) : (settle q t).shadow = t.shadow := rfl
@[simp] theorem settle_safShadow (q : List Instr) (t : State) : (settle q t).safShadow = t.safShadow := rfl
@[simp] theorem settle_probe (q : List Instr) (t : State) : (settle q t).probe = t.probe := rfl
@[simp] theorem settle_probeNext (q : List Instr) (t : State) : (settle q t).probeNext = t.probeNext := rfl
@[simp] theorem settle_lanes (q : List Instr) (t : State) : (settle q t).saf.lanes = t.saf.lanes := by
  unfold settle; split <;> rfl

@[simp] theorem answerOn_eq (s : State) (f : State → State) :
    answerOn s f = .next (settle s.pending (if s.lit then f s else s)) := rfl
@[simp] theorem answerAlways_eq (s : State) (f : State → State) : answerAlways s f = .next (settle s.pending (f s)) := rfl

theorem answerOn_lit {s : State} (h : s.lit = true) (f : State → State) : answerOn s f = .next (settle s.pending (f s)) := by
  simp [h]

/-- A module that listens runs. -/
theorem lit_of_listens {s : State} (h : listens s = true) : s.lit = true := by
  have h2 : s.boot.power = .on := by simp_all [listens]
  simp [State.lit, h2]

/-! ## Runs over lists -/

/-- What every step keeps, a run of steps keeps. -/
theorem foldl_keeps {α β : Type} (g : State → β) (f : State → α → State) (h : ∀ s x, g (f s x) = g s) :
    ∀ (l : List α) (s : State), g (l.foldl f s) = g s
  | [], _ => rfl
  | x :: l, s => by rw [List.foldl_cons, foldl_keeps g f h l, h]

theorem each_keeps {β : Type} (g : State → β) (n : Nat) (f : State → Nat → State) (h : ∀ s i, g (f s i) = g s) (s : State) :
    g (each n f s) = g s := foldl_keeps g f h _ s

/-- What holds of the start and is kept by every step holds after a run of steps. -/
theorem foldl_holds {α : Type} (P : State → Prop) (f : State → α → State) (h : ∀ s x, P s → P (f s x)) :
    ∀ (l : List α) (s : State), P s → P (l.foldl f s)
  | [], _, hs => hs
  | x :: l, s, hs => foldl_holds P f h l (f s x) (h s x hs)

/-! ## Parameters -/

/-- A parameter's value depends on the stored differences alone. -/
theorem val_congr {s t : State} (h : s.par = t.par) (p : Par) : s.val p = t.val p := by simp [State.val, h]

/-- A value in force for an owner depends on the stored differences and on what the owner held over alone. -/
theorem inForce_congr {s t : State} (h : s.par = t.par) (held : List (Nat × Int)) (p : Par) :
    s.inForce held p = t.inForce held p := by
  cases held <;> simp [State.inForce, val_congr h]
theorem dwp_congr {s t : State} (h : s.par = t.par) (hd : s.dw = t.dw) (d : Nat) (p : DwP) : s.dwp d p = t.dwp d p := by
  simp [State.dwp, State.door, hd, inForce_congr h]

theorem axOn_congr {s t : State} (h : s.par = t.par) (hd : s.dw = t.dw) (a : Nat) : s.axOn a = t.axOn a := by
  simp [State.axOn, State.slotOn, State.dtype, dwp_congr h hd]
theorem doorOn_congr {s t : State} (h : s.par = t.par) (hd : s.dw = t.dw) (d : Nat) : s.doorOn d = t.doorOn d := by
  rw [State.doorOn, State.doorOn, State.dtype, State.dtype, dwp_congr h hd]

/-! ## Association lists -/

@[simp] theorem get_put_same {α : Type} (l : List (Nat × α)) (k : Nat) (x : α) : get (put l k x) k = some x := by
  simp [get, put]
theorem get_put_other {α : Type} (l : List (Nat × α)) (k j : Nat) (x : α) (h : j ≠ k) : get (put l k x) j = get l j := by
  simp only [get, put]
  rw [List.find?_cons_of_neg (by simpa using h.symm)]
  congr 1
  induction l with
  | nil => rfl
  | cons e l ih =>
    by_cases he : e.1 = k
    · have hj : e.1 ≠ j := fun hj => h (hj.symm.trans he)
      rw [List.filter_cons_of_neg (by simpa using he), List.find?_cons_of_neg (by simpa using hj)]; exact ih
    · rw [List.filter_cons_of_pos (by simpa using he)]
      by_cases hj : e.1 = j
      · rw [List.find?_cons_of_pos (by simpa using hj), List.find?_cons_of_pos (by simpa using hj)]
      · rw [List.find?_cons_of_neg (by simpa using hj), List.find?_cons_of_neg (by simpa using hj)]; exact ih
@[simp] theorem get_drop_same {α : Type} (l : List (Nat × α)) (k : Nat) : get (drop_ l k) k = none := by
  simp [get, drop_]

end Sys2Proof.Machine
end

