-- ==== Sys2Proof/Laws/Protocol.lean ====
section
/-! SUPPORT. Everything that a command of the protocol can do around its own rules: nothing where the module does not listen, a
refusal where a check of R290 fails, its reply where it is accepted. -/

namespace Sys2Proof.Machine

/-- Accepted: the reply of the command's own rules is sent from the state that they give, under the seal that its session has
as the command is handled. -/
theorem kcpNow_ready {op : Nat} {q : Req} {h : State → State × Outcome} {s : State} (hr : Ready s op q) :
    (if s.lit then kcpNow op q h s else s) =
      afterReply (replyWith (replySeal (touch q.session s) op q) op q (h (touch q.session s)).2 false
        (h (touch q.session s)).1) := by
  obtain ⟨h1, h2, h3⟩ := hr
  simp [kcpNow, kcp, h1, h2, h3]

/-- Accepted, with a reply that may have MORE or come later. -/
theorem kcp_ready {op : Nat} {q : Req} {h : State → State × Option (Outcome × Bool)} {s : State} (hr : Ready s op q) :
    (if s.lit then kcp op q h s else s) =
      ((h (touch q.session s)).2.map fun o =>
        afterReply (replyWith (replySeal (touch q.session s) op q) op q o.1 o.2 (h (touch q.session s)).1)).getD
        (h (touch q.session s)).1 := by
  obtain ⟨h1, h2, h3⟩ := hr
  simp only [kcp, h1, h2, h3, if_true, Bool.not_true, Bool.false_eq_true, if_false]
  cases (h (touch q.session s)).2 <;> rfl

/-- Refused by a check of R290 steps 10 to 12: the reply names it, and the command's own rules are not reached. -/
theorem kcp_refused {op : Nat} {q : Req} {h : State → State × Option (Outcome × Bool)} {s : State} {x : Status × Nat}
    (hl : listens s = true) (hg : gate (touch q.session s) op q = some x) :
    kcp op q h s = reply op q (.bad x.1 x.2) false (touch q.session s) := by
  simp only [kcp, hl, hg, Bool.not_true, Bool.false_eq_true, if_false]

/-- A module that does not listen does nothing. -/
theorem kcp_deaf {op : Nat} {q : Req} {h : State → State × Option (Outcome × Bool)} {s : State} (hl : listens s = false) :
    kcp op q h s = s := by
  simp only [kcp, hl, Bool.not_false, if_true]

/-- Nothing follows a reply while no restart and no SLEEP waits for it (R403, R446). -/
theorem afterReply_id {s : State} (h1 : s.boot.restartPending = none) (h2 : s.sup.powerMode ≠ 2) : afterReply s = s := by
  simp [afterReply, h1, h2]

end Sys2Proof.Machine
end

