-- ==== Sys2Proof/Laws/Entries.lean ====
section
/-! SUPPORT. Little-endian fields read back as they were written, and the PARAM_WRITE of one entry (R285, R300). -/

namespace Sys2Proof.Machine

@[simp] theorem le_length (n x : Nat) : (le n x).length = n := by
  induction n generalizing x with
  | zero => rfl
  | succ n ih => simp [le, ih]

/-- A field of n bytes reads as the number it was written with, modulo its width. -/
theorem rdAll_le (n x : Nat) : rdAll (le n x) = x % 256 ^ n := by
  induction n generalizing x with
  | zero => simp [le, rdAll, Nat.mod_one]
  | succ n ih =>
    rw [le, rdAll, ih, Nat.pow_succ, Nat.mul_comm (256 ^ n), Nat.mod_mul]
    simp

/-- A field reads as it was written, whatever stands before and after it. -/
theorem rd_le (pre post : Bytes) (o n x : Nat) (ho : pre.length = o) (hx : x < 256 ^ n) :
    rd (pre ++ (le n x ++ post)) o n = x := by
  subst ho
  rw [rd, List.drop_left, List.take_append_of_le_length (by simp), List.take_of_length_le (by simp), rdAll_le,
    Nat.mod_eq_of_lt hx]

/-- A word of n bits is below 2 to the n. -/
theorem toWord_lt (n : Nat) (x : Int) : toWord n x < 2 ^ n := by
  have h : (0 : Int) < ((2 ^ n : Nat) : Int) := by exact_mod_cast Nat.two_pow_pos n
  have h1 := Int.emod_nonneg x (ne_of_gt h)
  have h2 := Int.emod_lt_of_pos x h
  unfold toWord
  omega

/-- The entry of a one-entry PARAM_WRITE. -/
theorem onePayload_fields {p : Par} {v : Int} (hk : p.key < 256 ^ 4) :
    rd (onePayload p v) 0 2 = 1 ∧ rd (onePayload p v) 2 2 = 0 ∧ entriesOf (onePayload p v) 1 = [(p.key, toWord 32 v)] := by
  have hv : toWord 32 v < 256 ^ 4 := toWord_lt 32 v
  refine ⟨?_, ?_, ?_⟩
  · exact rd_le [] (le 2 0 ++ (le 4 p.key ++ le 4 (toWord 32 v))) 0 2 1 rfl (by decide)
  · exact rd_le (le 2 1) (le 4 p.key ++ le 4 (toWord 32 v)) 2 2 0 (le_length _ _) (by decide)
  · have h2 := rd_le (le 2 1 ++ le 2 0) (le 4 (toWord 32 v)) 4 4 p.key (by simp) hk
    have h3 := rd_le (le 2 1 ++ le 2 0 ++ le 4 p.key) [] 8 4 (toWord 32 v) (by simp) hv
    rw [List.append_nil] at h3
    simp only [entriesOf, List.range_one, List.map_cons, List.map_nil, Nat.mul_zero, Nat.add_zero, onePayload]
    rw [List.append_assoc, List.append_assoc] at h3 ⊢
    rw [List.append_assoc] at h2
    rw [h2, h3]

/-- One entry of a scalar: its check and, where that is good, its effect. -/
theorem writeEach_one {w : Writer} {p : Par} {k r : Nat} {s : State} (hp : keyOf k = some (.scalar p)) :
    writeEach w [(k, r)] s =
      (if (writeCheck s w p (readValue p r)).1.good then writeDo w p (readValue p r) s else s,
        [writeCheck s w p (readValue p r)]) := by
  have h1 : entryCheck s w (k, r) = writeCheck s w p (readValue p r) := by unfold entryCheck; rw [hp]
  have h2 : entryDo w (k, r) s = writeDo w p (readValue p r) s := by unfold entryDo; rw [hp]
  simp only [writeEach, h1, h2]

/-- Without ATOMIC the entries are taken one by one. -/
theorem paramWriteOp_plain {w : Writer} {b : Bytes} {s : State} {n : Nat} (h0 : rd b 0 2 = n) (h1 : rd b 2 2 = 0) :
    paramWriteOp w b s = ((writeEach w (entriesOf b n) s).1,
      ⟨(headStatus (writeEach w (entriesOf b n) s).2).1, (headStatus (writeEach w (entriesOf b n) s).2).2,
        entryBytes (entriesOf b n) (writeEach w (entriesOf b n) s).2⟩) := by
  have hb : bit 0 0 = false := by decide
  unfold paramWriteOp
  rw [h0, h1, hb]
  rfl

/-- Writing one scalar is the check of its entry and, where that is good, its effect. -/
theorem paramWriteOp_one {w : Writer} {p : Par} {v : Int} {s : State} (hk : p.key < 256 ^ 4)
    (hp : keyOf p.key = some (.scalar p)) {b : Bytes} (hb : b = onePayload p v) :
    paramWriteOp w b s =
      (if (writeCheck s w p (readValue p (toWord 32 v))).1.good then writeDo w p (readValue p (toWord 32 v)) s else s,
        ⟨(headStatus [writeCheck s w p (readValue p (toWord 32 v))]).1,
          (headStatus [writeCheck s w p (readValue p (toWord 32 v))]).2,
          entryBytes [(p.key, toWord 32 v)] [writeCheck s w p (readValue p (toWord 32 v))]⟩) := by
  obtain ⟨h0, h1, he⟩ := onePayload_fields (v := v) hk
  rw [← hb] at h0 h1 he
  rw [paramWriteOp_plain h0 h1, he, writeEach_one hp]

/-- The CRC at the end of a record is the CRC of what stands before it. -/
theorem crc_sealRec (b : Bytes) (n : Nat) (h : b.length = n) : crc32c ((sealRec b).take n) = rd (sealRec b) n 4 := by
  have hx : crc32c b < 256 ^ 4 := (BitVec.toNat_lt_twoPow_of_le (Nat.le_refl 32) : _)
  have h2 := rd_le b [] n 4 (crc32c b) h hx
  rw [List.append_nil] at h2
  rw [show sealRec b = b ++ le 4 (crc32c b) from rfl, h2]
  simp [← h]

end Sys2Proof.Machine
end

