-- ==== Sys2Proof/Laws/Events.lean ====
section
/-! SUPPORT. Everything that writing a record, raising an event source and letting time pass can change: one lemma per operation
and field that it leaves alone. -/

namespace Sys2Proof.Machine


/-! `putRec` -/

@[simp] theorem putRec_pending (r : Nat) (b : Bytes) (s : State) : (putRec r b s).pending = s.pending := by
  simp [putRec]
@[simp] theorem putRec_us (r : Nat) (b : Bytes) (s : State) : (putRec r b s).us = s.us := by
  simp [putRec]
@[simp] theorem putRec_fresh (r : Nat) (b : Bytes) (s : State) : (putRec r b s).fresh = s.fresh := by
  simp [putRec]
@[simp] theorem putRec_par (r : Nat) (b : Bytes) (s : State) : (putRec r b s).par = s.par := by
  simp [putRec]
@[simp] theorem putRec_shadow (r : Nat) (b : Bytes) (s : State) : (putRec r b s).shadow = s.shadow := by
  simp [putRec]
@[simp] theorem putRec_safShadow (r : Nat) (b : Bytes) (s : State) : (putRec r b s).safShadow = s.safShadow := by
  simp [putRec]
@[simp] theorem putRec_ax (r : Nat) (b : Bytes) (s : State) : (putRec r b s).ax = s.ax := by
  simp [putRec]
@[simp] theorem putRec_dw (r : Nat) (b : Bytes) (s : State) : (putRec r b s).dw = s.dw := by
  simp [putRec]
@[simp] theorem putRec_saf (r : Nat) (b : Bytes) (s : State) : (putRec r b s).saf = s.saf := by
  simp [putRec]
@[simp] theorem putRec_io (r : Nat) (b : Bytes) (s : State) : (putRec r b s).io = s.io := by
  simp [putRec]
@[simp] theorem putRec_groups (r : Nat) (b : Bytes) (s : State) : (putRec r b s).groups = s.groups := by
  simp [putRec]
@[simp] theorem putRec_stations (r : Nat) (b : Bytes) (s : State) : (putRec r b s).stations = s.stations := by
  simp [putRec]
@[simp] theorem putRec_link (r : Nat) (b : Bytes) (s : State) : (putRec r b s).link = s.link := by
  simp [putRec]
@[simp] theorem putRec_logic (r : Nat) (b : Bytes) (s : State) : (putRec r b s).logic = s.logic := by
  simp [putRec]
@[simp] theorem putRec_kcp (r : Nat) (b : Bytes) (s : State) : (putRec r b s).kcp = s.kcp := by
  simp [putRec]
@[simp] theorem putRec_net (r : Nat) (b : Bytes) (s : State) : (putRec r b s).net = s.net := by
  simp [putRec]
@[simp] theorem putRec_time (r : Nat) (b : Bytes) (s : State) : (putRec r b s).time = s.time := by
  simp [putRec]
@[simp] theorem putRec_herd (r : Nat) (b : Bytes) (s : State) : (putRec r b s).herd = s.herd := by
  simp [putRec]
@[simp] theorem putRec_ev (r : Nat) (b : Bytes) (s : State) : (putRec r b s).ev = s.ev := by
  simp [putRec]
@[simp] theorem putRec_boot (r : Nat) (b : Bytes) (s : State) : (putRec r b s).boot = s.boot := by
  simp [putRec]
@[simp] theorem putRec_sup (r : Nat) (b : Bytes) (s : State) : (putRec r b s).sup = s.sup := by
  simp [putRec]
@[simp] theorem putRec_graze (r : Nat) (b : Bytes) (s : State) : (putRec r b s).graze = s.graze := by
  simp [putRec]
@[simp] theorem putRec_tab (r : Nat) (b : Bytes) (s : State) : (putRec r b s).tab = s.tab := by
  simp [putRec]
@[simp] theorem putRec_reqs (r : Nat) (b : Bytes) (s : State) : (putRec r b s).reqs = s.reqs := by
  simp [putRec]
@[simp] theorem putRec_waitNo (r : Nat) (b : Bytes) (s : State) : (putRec r b s).waitNo = s.waitNo := by
  simp [putRec]
@[simp] theorem putRec_starts (r : Nat) (b : Bytes) (s : State) : (putRec r b s).starts = s.starts := by
  simp [putRec]
@[simp] theorem putRec_probeNext (r : Nat) (b : Bytes) (s : State) : (putRec r b s).probeNext = s.probeNext := by
  simp [putRec]
@[simp] theorem putRec_probe (r : Nat) (b : Bytes) (s : State) : (putRec r b s).probe = s.probe := by
  simp [putRec]

/-! `rewriteRec` -/

@[simp] theorem rewriteRec_pending (r n : Nat) (b : Bytes) (s : State) : (rewriteRec r n b s).pending = s.pending := by
  simp [rewriteRec]
@[simp] theorem rewriteRec_us (r n : Nat) (b : Bytes) (s : State) : (rewriteRec r n b s).us = s.us := by
  simp [rewriteRec]
@[simp] theorem rewriteRec_fresh (r n : Nat) (b : Bytes) (s : State) : (rewriteRec r n b s).fresh = s.fresh := by
  simp [rewriteRec]
@[simp] theorem rewriteRec_par (r n : Nat) (b : Bytes) (s : State) : (rewriteRec r n b s).par = s.par := by
  simp [rewriteRec]
@[simp] theorem rewriteRec_shadow (r n : Nat) (b : Bytes) (s : State) : (rewriteRec r n b s).shadow = s.shadow := by
  simp [rewriteRec]
@[simp] theorem rewriteRec_safShadow (r n : Nat) (b : Bytes) (s : State) : (rewriteRec r n b s).safShadow = s.safShadow := by
  simp [rewriteRec]
@[simp] theorem rewriteRec_ax (r n : Nat) (b : Bytes) (s : State) : (rewriteRec r n b s).ax = s.ax := by
  simp [rewriteRec]
@[simp] theorem rewriteRec_dw (r n : Nat) (b : Bytes) (s : State) : (rewriteRec r n b s).dw = s.dw := by
  simp [rewriteRec]
@[simp] theorem rewriteRec_saf (r n : Nat) (b : Bytes) (s : State) : (rewriteRec r n b s).saf = s.saf := by
  simp [rewriteRec]
@[simp] theorem rewriteRec_io (r n : Nat) (b : Bytes) (s : State) : (rewriteRec r n b s).io = s.io := by
  simp [rewriteRec]
@[simp] theorem rewriteRec_groups (r n : Nat) (b : Bytes) (s : State) : (rewriteRec r n b s).groups = s.groups := by
  simp [rewriteRec]
@[simp] theorem rewriteRec_stations (r n : Nat) (b : Bytes) (s : State) : (rewriteRec r n b s).stations = s.stations := by
  simp [rewriteRec]
@[simp] theorem rewriteRec_link (r n : Nat) (b : Bytes) (s : State) : (rewriteRec r n b s).link = s.link := by
  simp [rewriteRec]
@[simp] theorem rewriteRec_logic (r n : Nat) (b : Bytes) (s : State) : (rewriteRec r n b s).logic = s.logic := by
  simp [rewriteRec]
@[simp] theorem rewriteRec_kcp (r n : Nat) (b : Bytes) (s : State) : (rewriteRec r n b s).kcp = s.kcp := by
  simp [rewriteRec]
@[simp] theorem rewriteRec_net (r n : Nat) (b : Bytes) (s : State) : (rewriteRec r n b s).net = s.net := by
  simp [rewriteRec]
@[simp] theorem rewriteRec_time (r n : Nat) (b : Bytes) (s : State) : (rewriteRec r n b s).time = s.time := by
  simp [rewriteRec]
@[simp] theorem rewriteRec_herd (r n : Nat) (b : Bytes) (s : State) : (rewriteRec r n b s).herd = s.herd := by
  simp [rewriteRec]
@[simp] theorem rewriteRec_ev (r n : Nat) (b : Bytes) (s : State) : (rewriteRec r n b s).ev = s.ev := by
  simp [rewriteRec]
@[simp] theorem rewriteRec_boot (r n : Nat) (b : Bytes) (s : State) : (rewriteRec r n b s).boot = s.boot := by
  simp [rewriteRec]
@[simp] theorem rewriteRec_sup (r n : Nat) (b : Bytes) (s : State) : (rewriteRec r n b s).sup = s.sup := by
  simp [rewriteRec]
@[simp] theorem rewriteRec_graze (r n : Nat) (b : Bytes) (s : State) : (rewriteRec r n b s).graze = s.graze := by
  simp [rewriteRec]
@[simp] theorem rewriteRec_tab (r n : Nat) (b : Bytes) (s : State) : (rewriteRec r n b s).tab = s.tab := by
  simp [rewriteRec]
@[simp] theorem rewriteRec_reqs (r n : Nat) (b : Bytes) (s : State) : (rewriteRec r n b s).reqs = s.reqs := by
  simp [rewriteRec]
@[simp] theorem rewriteRec_waitNo (r n : Nat) (b : Bytes) (s : State) : (rewriteRec r n b s).waitNo = s.waitNo := by
  simp [rewriteRec]
@[simp] theorem rewriteRec_starts (r n : Nat) (b : Bytes) (s : State) : (rewriteRec r n b s).starts = s.starts := by
  simp [rewriteRec]
@[simp] theorem rewriteRec_probeNext (r n : Nat) (b : Bytes) (s : State) : (rewriteRec r n b s).probeNext = s.probeNext := by
  simp [rewriteRec]
@[simp] theorem rewriteRec_probe (r n : Nat) (b : Bytes) (s : State) : (rewriteRec r n b s).probe = s.probe := by
  simp [rewriteRec]

/-! `jrnFlag` -/

@[simp] theorem jrnFlag_pending (i : Nat) (s : State) : (jrnFlag i s).pending = s.pending := by
  simp [jrnFlag]
@[simp] theorem jrnFlag_us (i : Nat) (s : State) : (jrnFlag i s).us = s.us := by
  simp [jrnFlag]
@[simp] theorem jrnFlag_fresh (i : Nat) (s : State) : (jrnFlag i s).fresh = s.fresh := by
  simp [jrnFlag]
@[simp] theorem jrnFlag_par (i : Nat) (s : State) : (jrnFlag i s).par = s.par := by
  simp [jrnFlag]
@[simp] theorem jrnFlag_shadow (i : Nat) (s : State) : (jrnFlag i s).shadow = s.shadow := by
  simp [jrnFlag]
@[simp] theorem jrnFlag_safShadow (i : Nat) (s : State) : (jrnFlag i s).safShadow = s.safShadow := by
  simp [jrnFlag]
@[simp] theorem jrnFlag_ax (i : Nat) (s : State) : (jrnFlag i s).ax = s.ax := by
  simp [jrnFlag]
@[simp] theorem jrnFlag_dw (i : Nat) (s : State) : (jrnFlag i s).dw = s.dw := by
  simp [jrnFlag]
@[simp] theorem jrnFlag_saf (i : Nat) (s : State) : (jrnFlag i s).saf = s.saf := by
  simp [jrnFlag]
@[simp] theorem jrnFlag_io (i : Nat) (s : State) : (jrnFlag i s).io = s.io := by
  simp [jrnFlag]
@[simp] theorem jrnFlag_groups (i : Nat) (s : State) : (jrnFlag i s).groups = s.groups := by
  simp [jrnFlag]
@[simp] theorem jrnFlag_stations (i : Nat) (s : State) : (jrnFlag i s).stations = s.stations := by
  simp [jrnFlag]
@[simp] theorem jrnFlag_link (i : Nat) (s : State) : (jrnFlag i s).link = s.link := by
  simp [jrnFlag]
@[simp] theorem jrnFlag_logic (i : Nat) (s : State) : (jrnFlag i s).logic = s.logic := by
  simp [jrnFlag]
@[simp] theorem jrnFlag_kcp (i : Nat) (s : State) : (jrnFlag i s).kcp = s.kcp := by
  simp [jrnFlag]
@[simp] theorem jrnFlag_net (i : Nat) (s : State) : (jrnFlag i s).net = s.net := by
  simp [jrnFlag]
@[simp] theorem jrnFlag_time (i : Nat) (s : State) : (jrnFlag i s).time = s.time := by
  simp [jrnFlag]
@[simp] theorem jrnFlag_herd (i : Nat) (s : State) : (jrnFlag i s).herd = s.herd := by
  simp [jrnFlag]
@[simp] theorem jrnFlag_ev (i : Nat) (s : State) : (jrnFlag i s).ev = s.ev := by
  simp [jrnFlag]
@[simp] theorem jrnFlag_boot (i : Nat) (s : State) : (jrnFlag i s).boot = s.boot := by
  simp [jrnFlag]
@[simp] theorem jrnFlag_sup (i : Nat) (s : State) : (jrnFlag i s).sup = s.sup := by
  simp [jrnFlag]
@[simp] theorem jrnFlag_graze (i : Nat) (s : State) : (jrnFlag i s).graze = s.graze := by
  simp [jrnFlag]
@[simp] theorem jrnFlag_tab (i : Nat) (s : State) : (jrnFlag i s).tab = s.tab := by
  simp [jrnFlag]
@[simp] theorem jrnFlag_reqs (i : Nat) (s : State) : (jrnFlag i s).reqs = s.reqs := by
  simp [jrnFlag]
@[simp] theorem jrnFlag_waitNo (i : Nat) (s : State) : (jrnFlag i s).waitNo = s.waitNo := by
  simp [jrnFlag]
@[simp] theorem jrnFlag_starts (i : Nat) (s : State) : (jrnFlag i s).starts = s.starts := by
  simp [jrnFlag]
@[simp] theorem jrnFlag_probeNext (i : Nat) (s : State) : (jrnFlag i s).probeNext = s.probeNext := by
  simp [jrnFlag]
@[simp] theorem jrnFlag_probe (i : Nat) (s : State) : (jrnFlag i s).probe = s.probe := by
  simp [jrnFlag]

/-! `kindRecord` -/

@[simp] theorem kindRecord_pending (k fl : Nat) (b : Bytes) (c : Bool) (s : State) : (kindRecord k fl b c s).pending = s.pending := by
  exact foldl_keeps State.pending _ (by intros; simp) _ _
@[simp] theorem kindRecord_us (k fl : Nat) (b : Bytes) (c : Bool) (s : State) : (kindRecord k fl b c s).us = s.us := by
  exact foldl_keeps State.us _ (by intros; simp) _ _
@[simp] theorem kindRecord_fresh (k fl : Nat) (b : Bytes) (c : Bool) (s : State) : (kindRecord k fl b c s).fresh = s.fresh := by
  exact foldl_keeps State.fresh _ (by intros; simp) _ _
@[simp] theorem kindRecord_par (k fl : Nat) (b : Bytes) (c : Bool) (s : State) : (kindRecord k fl b c s).par = s.par := by
  exact foldl_keeps State.par _ (by intros; simp) _ _
@[simp] theorem kindRecord_shadow (k fl : Nat) (b : Bytes) (c : Bool) (s : State) : (kindRecord k fl b c s).shadow = s.shadow := by
  exact foldl_keeps State.shadow _ (by intros; simp) _ _
@[simp] theorem kindRecord_safShadow (k fl : Nat) (b : Bytes) (c : Bool) (s : State) : (kindRecord k fl b c s).safShadow = s.safShadow := by
  exact foldl_keeps State.safShadow _ (by intros; simp) _ _
@[simp] theorem kindRecord_ax (k fl : Nat) (b : Bytes) (c : Bool) (s : State) : (kindRecord k fl b c s).ax = s.ax := by
  exact foldl_keeps State.ax _ (by intros; simp) _ _
@[simp] theorem kindRecord_dw (k fl : Nat) (b : Bytes) (c : Bool) (s : State) : (kindRecord k fl b c s).dw = s.dw := by
  exact foldl_keeps State.dw _ (by intros; simp) _ _
@[simp] theorem kindRecord_saf (k fl : Nat) (b : Bytes) (c : Bool) (s : State) : (kindRecord k fl b c s).saf = s.saf := by
  exact foldl_keeps State.saf _ (by intros; simp) _ _
@[simp] theorem kindRecord_io (k fl : Nat) (b : Bytes) (c : Bool) (s : State) : (kindRecord k fl b c s).io = s.io := by
  exact foldl_keeps State.io _ (by intros; simp) _ _
@[simp] theorem kindRecord_groups (k fl : Nat) (b : Bytes) (c : Bool) (s : State) : (kindRecord k fl b c s).groups = s.groups := by
  exact foldl_keeps State.groups _ (by intros; simp) _ _
@[simp] theorem kindRecord_stations (k fl : Nat) (b : Bytes) (c : Bool) (s : State) : (kindRecord k fl b c s).stations = s.stations := by
  exact foldl_keeps State.stations _ (by intros; simp) _ _
@[simp] theorem kindRecord_link (k fl : Nat) (b : Bytes) (c : Bool) (s : State) : (kindRecord k fl b c s).link = s.link := by
  exact foldl_keeps State.link _ (by intros; simp) _ _
@[simp] theorem kindRecord_logic (k fl : Nat) (b : Bytes) (c : Bool) (s : State) : (kindRecord k fl b c s).logic = s.logic := by
  exact foldl_keeps State.logic _ (by intros; simp) _ _
@[simp] theorem kindRecord_kcp (k fl : Nat) (b : Bytes) (c : Bool) (s : State) : (kindRecord k fl b c s).kcp = s.kcp := by
  exact foldl_keeps State.kcp _ (by intros; simp) _ _
@[simp] theorem kindRecord_net (k fl : Nat) (b : Bytes) (c : Bool) (s : State) : (kindRecord k fl b c s).net = s.net := by
  exact foldl_keeps State.net _ (by intros; simp) _ _
@[simp] theorem kindRecord_time (k fl : Nat) (b : Bytes) (c : Bool) (s : State) : (kindRecord k fl b c s).time = s.time := by
  exact foldl_keeps State.time _ (by intros; simp) _ _
@[simp] theorem kindRecord_herd (k fl : Nat) (b : Bytes) (c : Bool) (s : State) : (kindRecord k fl b c s).herd = s.herd := by
  exact foldl_keeps State.herd _ (by intros; simp) _ _
@[simp] theorem kindRecord_ev (k fl : Nat) (b : Bytes) (c : Bool) (s : State) : (kindRecord k fl b c s).ev = s.ev := by
  exact foldl_keeps State.ev _ (by intros; simp) _ _
@[simp] theorem kindRecord_boot (k fl : Nat) (b : Bytes) (c : Bool) (s : State) : (kindRecord k fl b c s).boot = s.boot := by
  exact foldl_keeps State.boot _ (by intros; simp) _ _
@[simp] theorem kindRecord_sup (k fl : Nat) (b : Bytes) (c : Bool) (s : State) : (kindRecord k fl b c s).sup = s.sup := by
  exact foldl_keeps State.sup _ (by intros; simp) _ _
@[simp] theorem kindRecord_graze (k fl : Nat) (b : Bytes) (c : Bool) (s : State) : (kindRecord k fl b c s).graze = s.graze := by
  exact foldl_keeps State.graze _ (by intros; simp) _ _
@[simp] theorem kindRecord_tab (k fl : Nat) (b : Bytes) (c : Bool) (s : State) : (kindRecord k fl b c s).tab = s.tab := by
  exact foldl_keeps State.tab _ (by intros; simp) _ _
@[simp] theorem kindRecord_reqs (k fl : Nat) (b : Bytes) (c : Bool) (s : State) : (kindRecord k fl b c s).reqs = s.reqs := by
  exact foldl_keeps State.reqs _ (by intros; simp) _ _
@[simp] theorem kindRecord_waitNo (k fl : Nat) (b : Bytes) (c : Bool) (s : State) : (kindRecord k fl b c s).waitNo = s.waitNo := by
  exact foldl_keeps State.waitNo _ (by intros; simp) _ _
@[simp] theorem kindRecord_starts (k fl : Nat) (b : Bytes) (c : Bool) (s : State) : (kindRecord k fl b c s).starts = s.starts := by
  exact foldl_keeps State.starts _ (by intros; simp) _ _
@[simp] theorem kindRecord_probeNext (k fl : Nat) (b : Bytes) (c : Bool) (s : State) : (kindRecord k fl b c s).probeNext = s.probeNext := by
  exact foldl_keeps State.probeNext _ (by intros; simp) _ _
@[simp] theorem kindRecord_probe (k fl : Nat) (b : Bytes) (c : Bool) (s : State) : (kindRecord k fl b c s).probe = s.probe := by
  exact foldl_keeps State.probe _ (by intros; simp) _ _

/-! `foldInto` -/

@[simp] theorem foldInto_pending (r : Nat) (f : Fold) (s : State) : (foldInto r f s).pending = s.pending := by
  simp [foldInto]
@[simp] theorem foldInto_us (r : Nat) (f : Fold) (s : State) : (foldInto r f s).us = s.us := by
  simp [foldInto]
@[simp] theorem foldInto_fresh (r : Nat) (f : Fold) (s : State) : (foldInto r f s).fresh = s.fresh := by
  simp [foldInto]
@[simp] theorem foldInto_par (r : Nat) (f : Fold) (s : State) : (foldInto r f s).par = s.par := by
  simp [foldInto]
@[simp] theorem foldInto_shadow (r : Nat) (f : Fold) (s : State) : (foldInto r f s).shadow = s.shadow := by
  simp [foldInto]
@[simp] theorem foldInto_safShadow (r : Nat) (f : Fold) (s : State) : (foldInto r f s).safShadow = s.safShadow := by
  simp [foldInto]
@[simp] theorem foldInto_ax (r : Nat) (f : Fold) (s : State) : (foldInto r f s).ax = s.ax := by
  simp [foldInto]
@[simp] theorem foldInto_dw (r : Nat) (f : Fold) (s : State) : (foldInto r f s).dw = s.dw := by
  simp [foldInto]
@[simp] theorem foldInto_saf (r : Nat) (f : Fold) (s : State) : (foldInto r f s).saf = s.saf := by
  simp [foldInto]
@[simp] theorem foldInto_io (r : Nat) (f : Fold) (s : State) : (foldInto r f s).io = s.io := by
  simp [foldInto]
@[simp] theorem foldInto_groups (r : Nat) (f : Fold) (s : State) : (foldInto r f s).groups = s.groups := by
  simp [foldInto]
@[simp] theorem foldInto_stations (r : Nat) (f : Fold) (s : State) : (foldInto r f s).stations = s.stations := by
  simp [foldInto]
@[simp] theorem foldInto_link (r : Nat) (f : Fold) (s : State) : (foldInto r f s).link = s.link := by
  simp [foldInto]
@[simp] theorem foldInto_logic (r : Nat) (f : Fold) (s : State) : (foldInto r f s).logic = s.logic := by
  simp [foldInto]
@[simp] theorem foldInto_kcp (r : Nat) (f : Fold) (s : State) : (foldInto r f s).kcp = s.kcp := by
  simp [foldInto]
@[simp] theorem foldInto_net (r : Nat) (f : Fold) (s : State) : (foldInto r f s).net = s.net := by
  simp [foldInto]
@[simp] theorem foldInto_time (r : Nat) (f : Fold) (s : State) : (foldInto r f s).time = s.time := by
  simp [foldInto]
@[simp] theorem foldInto_herd (r : Nat) (f : Fold) (s : State) : (foldInto r f s).herd = s.herd := by
  simp [foldInto]
@[simp] theorem foldInto_boot (r : Nat) (f : Fold) (s : State) : (foldInto r f s).boot = s.boot := by
  simp [foldInto]
@[simp] theorem foldInto_sup (r : Nat) (f : Fold) (s : State) : (foldInto r f s).sup = s.sup := by
  simp [foldInto]
@[simp] theorem foldInto_graze (r : Nat) (f : Fold) (s : State) : (foldInto r f s).graze = s.graze := by
  simp [foldInto]
@[simp] theorem foldInto_tab (r : Nat) (f : Fold) (s : State) : (foldInto r f s).tab = s.tab := by
  simp [foldInto]
@[simp] theorem foldInto_reqs (r : Nat) (f : Fold) (s : State) : (foldInto r f s).reqs = s.reqs := by
  simp [foldInto]
@[simp] theorem foldInto_waitNo (r : Nat) (f : Fold) (s : State) : (foldInto r f s).waitNo = s.waitNo := by
  simp [foldInto]
@[simp] theorem foldInto_starts (r : Nat) (f : Fold) (s : State) : (foldInto r f s).starts = s.starts := by
  simp [foldInto]
@[simp] theorem foldInto_probeNext (r : Nat) (f : Fold) (s : State) : (foldInto r f s).probeNext = s.probeNext := by
  simp [foldInto]
@[simp] theorem foldInto_probe (r : Nat) (f : Fold) (s : State) : (foldInto r f s).probe = s.probe := by
  simp [foldInto]

/-! `newEvent` -/

@[simp] theorem newEvent_pending (r e og d : Nat) (i : Bool) (s : State) : (newEvent r e og d i s).pending = s.pending := by
  simp [newEvent]
@[simp] theorem newEvent_us (r e og d : Nat) (i : Bool) (s : State) : (newEvent r e og d i s).us = s.us := by
  simp [newEvent]
@[simp] theorem newEvent_fresh (r e og d : Nat) (i : Bool) (s : State) : (newEvent r e og d i s).fresh = s.fresh := by
  simp [newEvent]
@[simp] theorem newEvent_par (r e og d : Nat) (i : Bool) (s : State) : (newEvent r e og d i s).par = s.par := by
  simp [newEvent]
@[simp] theorem newEvent_shadow (r e og d : Nat) (i : Bool) (s : State) : (newEvent r e og d i s).shadow = s.shadow := by
  simp [newEvent]
@[simp] theorem newEvent_safShadow (r e og d : Nat) (i : Bool) (s : State) : (newEvent r e og d i s).safShadow = s.safShadow := by
  simp [newEvent]
@[simp] theorem newEvent_ax (r e og d : Nat) (i : Bool) (s : State) : (newEvent r e og d i s).ax = s.ax := by
  simp [newEvent]
@[simp] theorem newEvent_dw (r e og d : Nat) (i : Bool) (s : State) : (newEvent r e og d i s).dw = s.dw := by
  simp [newEvent]
@[simp] theorem newEvent_saf (r e og d : Nat) (i : Bool) (s : State) : (newEvent r e og d i s).saf = s.saf := by
  simp [newEvent]
@[simp] theorem newEvent_io (r e og d : Nat) (i : Bool) (s : State) : (newEvent r e og d i s).io = s.io := by
  simp [newEvent]
@[simp] theorem newEvent_groups (r e og d : Nat) (i : Bool) (s : State) : (newEvent r e og d i s).groups = s.groups := by
  simp [newEvent]
@[simp] theorem newEvent_stations (r e og d : Nat) (i : Bool) (s : State) : (newEvent r e og d i s).stations = s.stations := by
  simp [newEvent]
@[simp] theorem newEvent_link (r e og d : Nat) (i : Bool) (s : State) : (newEvent r e og d i s).link = s.link := by
  simp [newEvent]
@[simp] theorem newEvent_logic (r e og d : Nat) (i : Bool) (s : State) : (newEvent r e og d i s).logic = s.logic := by
  simp [newEvent]
@[simp] theorem newEvent_kcp (r e og d : Nat) (i : Bool) (s : State) : (newEvent r e og d i s).kcp = s.kcp := by
  simp [newEvent]
@[simp] theorem newEvent_net (r e og d : Nat) (i : Bool) (s : State) : (newEvent r e og d i s).net = s.net := by
  simp [newEvent]
@[simp] theorem newEvent_time (r e og d : Nat) (i : Bool) (s : State) : (newEvent r e og d i s).time = s.time := by
  simp [newEvent]
@[simp] theorem newEvent_herd (r e og d : Nat) (i : Bool) (s : State) : (newEvent r e og d i s).herd = s.herd := by
  simp [newEvent]
@[simp] theorem newEvent_boot (r e og d : Nat) (i : Bool) (s : State) : (newEvent r e og d i s).boot = s.boot := by
  simp [newEvent]
@[simp] theorem newEvent_sup (r e og d : Nat) (i : Bool) (s : State) : (newEvent r e og d i s).sup = s.sup := by
  simp [newEvent]
@[simp] theorem newEvent_graze (r e og d : Nat) (i : Bool) (s : State) : (newEvent r e og d i s).graze = s.graze := by
  simp [newEvent]
@[simp] theorem newEvent_tab (r e og d : Nat) (i : Bool) (s : State) : (newEvent r e og d i s).tab = s.tab := by
  simp [newEvent]
@[simp] theorem newEvent_reqs (r e og d : Nat) (i : Bool) (s : State) : (newEvent r e og d i s).reqs = s.reqs := by
  simp [newEvent]
@[simp] theorem newEvent_waitNo (r e og d : Nat) (i : Bool) (s : State) : (newEvent r e og d i s).waitNo = s.waitNo := by
  simp [newEvent]
@[simp] theorem newEvent_starts (r e og d : Nat) (i : Bool) (s : State) : (newEvent r e og d i s).starts = s.starts := by
  simp [newEvent]
@[simp] theorem newEvent_probeNext (r e og d : Nat) (i : Bool) (s : State) : (newEvent r e og d i s).probeNext = s.probeNext := by
  simp [newEvent]
@[simp] theorem newEvent_probe (r e og d : Nat) (i : Bool) (s : State) : (newEvent r e og d i s).probe = s.probe := by
  simp [newEvent]

/-! `recordIn` -/

@[simp] theorem recordIn_pending (e og d : Nat) (i b : Bool) (s : State) (r : Nat) : (recordIn e og d i b s r).pending = s.pending := by
  simp only [recordIn]; split <;> (try split) <;> simp
@[simp] theorem recordIn_us (e og d : Nat) (i b : Bool) (s : State) (r : Nat) : (recordIn e og d i b s r).us = s.us := by
  simp only [recordIn]; split <;> (try split) <;> simp
@[simp] theorem recordIn_fresh (e og d : Nat) (i b : Bool) (s : State) (r : Nat) : (recordIn e og d i b s r).fresh = s.fresh := by
  simp only [recordIn]; split <;> (try split) <;> simp
@[simp] theorem recordIn_par (e og d : Nat) (i b : Bool) (s : State) (r : Nat) : (recordIn e og d i b s r).par = s.par := by
  simp only [recordIn]; split <;> (try split) <;> simp
@[simp] theorem recordIn_shadow (e og d : Nat) (i b : Bool) (s : State) (r : Nat) : (recordIn e og d i b s r).shadow = s.shadow := by
  simp only [recordIn]; split <;> (try split) <;> simp
@[simp] theorem recordIn_safShadow (e og d : Nat) (i b : Bool) (s : State) (r : Nat) : (recordIn e og d i b s r).safShadow = s.safShadow := by
  simp only [recordIn]; split <;> (try split) <;> simp
@[simp] theorem recordIn_ax (e og d : Nat) (i b : Bool) (s : State) (r : Nat) : (recordIn e og d i b s r).ax = s.ax := by
  simp only [recordIn]; split <;> (try split) <;> simp
@[simp] theorem recordIn_dw (e og d : Nat) (i b : Bool) (s : State) (r : Nat) : (recordIn e og d i b s r).dw = s.dw := by
  simp only [recordIn]; split <;> (try split) <;> simp
@[simp] theorem recordIn_saf (e og d : Nat) (i b : Bool) (s : State) (r : Nat) : (recordIn e og d i b s r).saf = s.saf := by
  simp only [recordIn]; split <;> (try split) <;> simp
@[simp] theorem recordIn_io (e og d : Nat) (i b : Bool) (s : State) (r : Nat) : (recordIn e og d i b s r).io = s.io := by
  simp only [recordIn]; split <;> (try split) <;> simp
@[simp] theorem recordIn_groups (e og d : Nat) (i b : Bool) (s : State) (r : Nat) : (recordIn e og d i b s r).groups = s.groups := by
  simp only [recordIn]; split <;> (try split) <;> simp
@[simp] theorem recordIn_stations (e og d : Nat) (i b : Bool) (s : State) (r : Nat) : (recordIn e og d i b s r).stations = s.stations := by
  simp only [recordIn]; split <;> (try split) <;> simp
@[simp] theorem recordIn_link (e og d : Nat) (i b : Bool) (s : State) (r : Nat) : (recordIn e og d i b s r).link = s.link := by
  simp only [recordIn]; split <;> (try split) <;> simp
@[simp] theorem recordIn_logic (e og d : Nat) (i b : Bool) (s : State) (r : Nat) : (recordIn e og d i b s r).logic = s.logic := by
  simp only [recordIn]; split <;> (try split) <;> simp
@[simp] theorem recordIn_kcp (e og d : Nat) (i b : Bool) (s : State) (r : Nat) : (recordIn e og d i b s r).kcp = s.kcp := by
  simp only [recordIn]; split <;> (try split) <;> simp
@[simp] theorem recordIn_net (e og d : Nat) (i b : Bool) (s : State) (r : Nat) : (recordIn e og d i b s r).net = s.net := by
  simp only [recordIn]; split <;> (try split) <;> simp
@[simp] theorem recordIn_time (e og d : Nat) (i b : Bool) (s : State) (r : Nat) : (recordIn e og d i b s r).time = s.time := by
  simp only [recordIn]; split <;> (try split) <;> simp
@[simp] theorem recordIn_herd (e og d : Nat) (i b : Bool) (s : State) (r : Nat) : (recordIn e og d i b s r).herd = s.herd := by
  simp only [recordIn]; split <;> (try split) <;> simp
@[simp] theorem recordIn_boot (e og d : Nat) (i b : Bool) (s : State) (r : Nat) : (recordIn e og d i b s r).boot = s.boot := by
  simp only [recordIn]; split <;> (try split) <;> simp
@[simp] theorem recordIn_sup (e og d : Nat) (i b : Bool) (s : State) (r : Nat) : (recordIn e og d i b s r).sup = s.sup := by
  simp only [recordIn]; split <;> (try split) <;> simp
@[simp] theorem recordIn_graze (e og d : Nat) (i b : Bool) (s : State) (r : Nat) : (recordIn e og d i b s r).graze = s.graze := by
  simp only [recordIn]; split <;> (try split) <;> simp
@[simp] theorem recordIn_tab (e og d : Nat) (i b : Bool) (s : State) (r : Nat) : (recordIn e og d i b s r).tab = s.tab := by
  simp only [recordIn]; split <;> (try split) <;> simp
@[simp] theorem recordIn_reqs (e og d : Nat) (i b : Bool) (s : State) (r : Nat) : (recordIn e og d i b s r).reqs = s.reqs := by
  simp only [recordIn]; split <;> (try split) <;> simp
@[simp] theorem recordIn_waitNo (e og d : Nat) (i b : Bool) (s : State) (r : Nat) : (recordIn e og d i b s r).waitNo = s.waitNo := by
  simp only [recordIn]; split <;> (try split) <;> simp
@[simp] theorem recordIn_starts (e og d : Nat) (i b : Bool) (s : State) (r : Nat) : (recordIn e og d i b s r).starts = s.starts := by
  simp only [recordIn]; split <;> (try split) <;> simp
@[simp] theorem recordIn_probeNext (e og d : Nat) (i b : Bool) (s : State) (r : Nat) : (recordIn e og d i b s r).probeNext = s.probeNext := by
  simp only [recordIn]; split <;> (try split) <;> simp
@[simp] theorem recordIn_probe (e og d : Nat) (i b : Bool) (s : State) (r : Nat) : (recordIn e og d i b s r).probe = s.probe := by
  simp only [recordIn]; split <;> (try split) <;> simp

/-! `noteRaise` -/

@[simp] theorem noteRaise_pending (e : Nat) (x y : Bool) (s : State) : (noteRaise e x y s).pending = s.pending := by
  unfold noteRaise; split <;> simp
@[simp] theorem noteRaise_us (e : Nat) (x y : Bool) (s : State) : (noteRaise e x y s).us = s.us := by
  unfold noteRaise; split <;> simp
@[simp] theorem noteRaise_fresh (e : Nat) (x y : Bool) (s : State) : (noteRaise e x y s).fresh = s.fresh := by
  unfold noteRaise; split <;> simp
@[simp] theorem noteRaise_par (e : Nat) (x y : Bool) (s : State) : (noteRaise e x y s).par = s.par := by
  unfold noteRaise; split <;> simp
@[simp] theorem noteRaise_shadow (e : Nat) (x y : Bool) (s : State) : (noteRaise e x y s).shadow = s.shadow := by
  unfold noteRaise; split <;> simp
@[simp] theorem noteRaise_safShadow (e : Nat) (x y : Bool) (s : State) : (noteRaise e x y s).safShadow = s.safShadow := by
  unfold noteRaise; split <;> simp
@[simp] theorem noteRaise_ax (e : Nat) (x y : Bool) (s : State) : (noteRaise e x y s).ax = s.ax := by
  unfold noteRaise; split <;> simp
@[simp] theorem noteRaise_dw (e : Nat) (x y : Bool) (s : State) : (noteRaise e x y s).dw = s.dw := by
  unfold noteRaise; split <;> simp
@[simp] theorem noteRaise_saf (e : Nat) (x y : Bool) (s : State) : (noteRaise e x y s).saf = s.saf := by
  unfold noteRaise; split <;> simp
@[simp] theorem noteRaise_io (e : Nat) (x y : Bool) (s : State) : (noteRaise e x y s).io = s.io := by
  unfold noteRaise; split <;> simp
@[simp] theorem noteRaise_groups (e : Nat) (x y : Bool) (s : State) : (noteRaise e x y s).groups = s.groups := by
  unfold noteRaise; split <;> simp
@[simp] theorem noteRaise_stations (e : Nat) (x y : Bool) (s : State) : (noteRaise e x y s).stations = s.stations := by
  unfold noteRaise; split <;> simp
@[simp] theorem noteRaise_link (e : Nat) (x y : Bool) (s : State) : (noteRaise e x y s).link = s.link := by
  unfold noteRaise; split <;> simp
@[simp] theorem noteRaise_logic (e : Nat) (x y : Bool) (s : State) : (noteRaise e x y s).logic = s.logic := by
  unfold noteRaise; split <;> simp
@[simp] theorem noteRaise_kcp (e : Nat) (x y : Bool) (s : State) : (noteRaise e x y s).kcp = s.kcp := by
  unfold noteRaise; split <;> simp
@[simp] theorem noteRaise_net (e : Nat) (x y : Bool) (s : State) : (noteRaise e x y s).net = s.net := by
  unfold noteRaise; split <;> simp
@[simp] theorem noteRaise_time (e : Nat) (x y : Bool) (s : State) : (noteRaise e x y s).time = s.time := by
  unfold noteRaise; split <;> simp
@[simp] theorem noteRaise_herd (e : Nat) (x y : Bool) (s : State) : (noteRaise e x y s).herd = s.herd := by
  unfold noteRaise; split <;> simp
@[simp] theorem noteRaise_boot (e : Nat) (x y : Bool) (s : State) : (noteRaise e x y s).boot = s.boot := by
  unfold noteRaise; split <;> simp
@[simp] theorem noteRaise_sup (e : Nat) (x y : Bool) (s : State) : (noteRaise e x y s).sup = s.sup := by
  unfold noteRaise; split <;> simp
@[simp] theorem noteRaise_graze (e : Nat) (x y : Bool) (s : State) : (noteRaise e x y s).graze = s.graze := by
  unfold noteRaise; split <;> simp
@[simp] theorem noteRaise_tab (e : Nat) (x y : Bool) (s : State) : (noteRaise e x y s).tab = s.tab := by
  unfold noteRaise; split <;> simp
@[simp] theorem noteRaise_reqs (e : Nat) (x y : Bool) (s : State) : (noteRaise e x y s).reqs = s.reqs := by
  unfold noteRaise; split <;> simp
@[simp] theorem noteRaise_waitNo (e : Nat) (x y : Bool) (s : State) : (noteRaise e x y s).waitNo = s.waitNo := by
  unfold noteRaise; split <;> simp
@[simp] theorem noteRaise_starts (e : Nat) (x y : Bool) (s : State) : (noteRaise e x y s).starts = s.starts := by
  unfold noteRaise; split <;> simp
@[simp] theorem noteRaise_probeNext (e : Nat) (x y : Bool) (s : State) : (noteRaise e x y s).probeNext = s.probeNext := by
  unfold noteRaise; split <;> simp
@[simp] theorem noteRaise_probe (e : Nat) (x y : Bool) (s : State) : (noteRaise e x y s).probe = s.probe := by
  unfold noteRaise; split <;> simp
@[simp] theorem noteRaise_ev (e : Nat) (x y : Bool) (s : State) : (noteRaise e x y s).ev = s.ev := by
  unfold noteRaise; split <;> simp [jrnFlag]

/-! `recordRaise` -/

@[simp] theorem recordRaise_pending (e og d : Nat) (i : Bool) (s : State) : (recordRaise e og d i s).pending = s.pending := by
  have h (l : List Nat) (b : Bool) : (l.foldl (recordIn e og d i b) s).pending = s.pending := foldl_keeps State.pending _ (by simp) l s
  simp only [recordRaise]; split <;> simp only [noteRaise_pending, h]
@[simp] theorem recordRaise_us (e og d : Nat) (i : Bool) (s : State) : (recordRaise e og d i s).us = s.us := by
  have h (l : List Nat) (b : Bool) : (l.foldl (recordIn e og d i b) s).us = s.us := foldl_keeps State.us _ (by simp) l s
  simp only [recordRaise]; split <;> simp only [noteRaise_us, h]
@[simp] theorem recordRaise_fresh (e og d : Nat) (i : Bool) (s : State) : (recordRaise e og d i s).fresh = s.fresh := by
  have h (l : List Nat) (b : Bool) : (l.foldl (recordIn e og d i b) s).fresh = s.fresh := foldl_keeps State.fresh _ (by simp) l s
  simp only [recordRaise]; split <;> simp only [noteRaise_fresh, h]
@[simp] theorem recordRaise_par (e og d : Nat) (i : Bool) (s : State) : (recordRaise e og d i s).par = s.par := by
  have h (l : List Nat) (b : Bool) : (l.foldl (recordIn e og d i b) s).par = s.par := foldl_keeps State.par _ (by simp) l s
  simp only [recordRaise]; split <;> simp only [noteRaise_par, h]
@[simp] theorem recordRaise_shadow (e og d : Nat) (i : Bool) (s : State) : (recordRaise e og d i s).shadow = s.shadow := by
  have h (l : List Nat) (b : Bool) : (l.foldl (recordIn e og d i b) s).shadow = s.shadow := foldl_keeps State.shadow _ (by simp) l s
  simp only [recordRaise]; split <;> simp only [noteRaise_shadow, h]
@[simp] theorem recordRaise_safShadow (e og d : Nat) (i : Bool) (s : State) : (recordRaise e og d i s).safShadow = s.safShadow := by
  have h (l : List Nat) (b : Bool) : (l.foldl (recordIn e og d i b) s).safShadow = s.safShadow := foldl_keeps State.safShadow _ (by simp) l s
  simp only [recordRaise]; split <;> simp only [noteRaise_safShadow, h]
@[simp] theorem recordRaise_ax (e og d : Nat) (i : Bool) (s : State) : (recordRaise e og d i s).ax = s.ax := by
  have h (l : List Nat) (b : Bool) : (l.foldl (recordIn e og d i b) s).ax = s.ax := foldl_keeps State.ax _ (by simp) l s
  simp only [recordRaise]; split <;> simp only [noteRaise_ax, h]
@[simp] theorem recordRaise_dw (e og d : Nat) (i : Bool) (s : State) : (recordRaise e og d i s).dw = s.dw := by
  have h (l : List Nat) (b : Bool) : (l.foldl (recordIn e og d i b) s).dw = s.dw := foldl_keeps State.dw _ (by simp) l s
  simp only [recordRaise]; split <;> simp only [noteRaise_dw, h]
@[simp] theorem recordRaise_saf (e og d : Nat) (i : Bool) (s : State) : (recordRaise e og d i s).saf = s.saf := by
  have h (l : List Nat) (b : Bool) : (l.foldl (recordIn e og d i b) s).saf = s.saf := foldl_keeps State.saf _ (by simp) l s
  simp only [recordRaise]; split <;> simp only [noteRaise_saf, h]
@[simp] theorem recordRaise_io (e og d : Nat) (i : Bool) (s : State) : (recordRaise e og d i s).io = s.io := by
  have h (l : List Nat) (b : Bool) : (l.foldl (recordIn e og d i b) s).io = s.io := foldl_keeps State.io _ (by simp) l s
  simp only [recordRaise]; split <;> simp only [noteRaise_io, h]
@[simp] theorem recordRaise_groups (e og d : Nat) (i : Bool) (s : State) : (recordRaise e og d i s).groups = s.groups := by
  have h (l : List Nat) (b : Bool) : (l.foldl (recordIn e og d i b) s).groups = s.groups := foldl_keeps State.groups _ (by simp) l s
  simp only [recordRaise]; split <;> simp only [noteRaise_groups, h]
@[simp] theorem recordRaise_stations (e og d : Nat) (i : Bool) (s : State) : (recordRaise e og d i s).stations = s.stations := by
  have h (l : List Nat) (b : Bool) : (l.foldl (recordIn e og d i b) s).stations = s.stations := foldl_keeps State.stations _ (by simp) l s
  simp only [recordRaise]; split <;> simp only [noteRaise_stations, h]
@[simp] theorem recordRaise_link (e og d : Nat) (i : Bool) (s : State) : (recordRaise e og d i s).link = s.link := by
  have h (l : List Nat) (b : Bool) : (l.foldl (recordIn e og d i b) s).link = s.link := foldl_keeps State.link _ (by simp) l s
  simp only [recordRaise]; split <;> simp only [noteRaise_link, h]
@[simp] theorem recordRaise_logic (e og d : Nat) (i : Bool) (s : State) : (recordRaise e og d i s).logic = s.logic := by
  have h (l : List Nat) (b : Bool) : (l.foldl (recordIn e og d i b) s).logic = s.logic := foldl_keeps State.logic _ (by simp) l s
  simp only [recordRaise]; split <;> simp only [noteRaise_logic, h]
@[simp] theorem recordRaise_kcp (e og d : Nat) (i : Bool) (s : State) : (recordRaise e og d i s).kcp = s.kcp := by
  have h (l : List Nat) (b : Bool) : (l.foldl (recordIn e og d i b) s).kcp = s.kcp := foldl_keeps State.kcp _ (by simp) l s
  simp only [recordRaise]; split <;> simp only [noteRaise_kcp, h]
@[simp] theorem recordRaise_net (e og d : Nat) (i : Bool) (s : State) : (recordRaise e og d i s).net = s.net := by
  have h (l : List Nat) (b : Bool) : (l.foldl (recordIn e og d i b) s).net = s.net := foldl_keeps State.net _ (by simp) l s
  simp only [recordRaise]; split <;> simp only [noteRaise_net, h]
@[simp] theorem recordRaise_time (e og d : Nat) (i : Bool) (s : State) : (recordRaise e og d i s).time = s.time := by
  have h (l : List Nat) (b : Bool) : (l.foldl (recordIn e og d i b) s).time = s.time := foldl_keeps State.time _ (by simp) l s
  simp only [recordRaise]; split <;> simp only [noteRaise_time, h]
@[simp] theorem recordRaise_herd (e og d : Nat) (i : Bool) (s : State) : (recordRaise e og d i s).herd = s.herd := by
  have h (l : List Nat) (b : Bool) : (l.foldl (recordIn e og d i b) s).herd = s.herd := foldl_keeps State.herd _ (by simp) l s
  simp only [recordRaise]; split <;> simp only [noteRaise_herd, h]
@[simp] theorem recordRaise_boot (e og d : Nat) (i : Bool) (s : State) : (recordRaise e og d i s).boot = s.boot := by
  have h (l : List Nat) (b : Bool) : (l.foldl (recordIn e og d i b) s).boot = s.boot := foldl_keeps State.boot _ (by simp) l s
  simp only [recordRaise]; split <;> simp only [noteRaise_boot, h]
@[simp] theorem recordRaise_sup (e og d : Nat) (i : Bool) (s : State) : (recordRaise e og d i s).sup = s.sup := by
  have h (l : List Nat) (b : Bool) : (l.foldl (recordIn e og d i b) s).sup = s.sup := foldl_keeps State.sup _ (by simp) l s
  simp only [recordRaise]; split <;> simp only [noteRaise_sup, h]
@[simp] theorem recordRaise_graze (e og d : Nat) (i : Bool) (s : State) : (recordRaise e og d i s).graze = s.graze := by
  have h (l : List Nat) (b : Bool) : (l.foldl (recordIn e og d i b) s).graze = s.graze := foldl_keeps State.graze _ (by simp) l s
  simp only [recordRaise]; split <;> simp only [noteRaise_graze, h]
@[simp] theorem recordRaise_tab (e og d : Nat) (i : Bool) (s : State) : (recordRaise e og d i s).tab = s.tab := by
  have h (l : List Nat) (b : Bool) : (l.foldl (recordIn e og d i b) s).tab = s.tab := foldl_keeps State.tab _ (by simp) l s
  simp only [recordRaise]; split <;> simp only [noteRaise_tab, h]
@[simp] theorem recordRaise_reqs (e og d : Nat) (i : Bool) (s : State) : (recordRaise e og d i s).reqs = s.reqs := by
  have h (l : List Nat) (b : Bool) : (l.foldl (recordIn e og d i b) s).reqs = s.reqs := foldl_keeps State.reqs _ (by simp) l s
  simp only [recordRaise]; split <;> simp only [noteRaise_reqs, h]
@[simp] theorem recordRaise_waitNo (e og d : Nat) (i : Bool) (s : State) : (recordRaise e og d i s).waitNo = s.waitNo := by
  have h (l : List Nat) (b : Bool) : (l.foldl (recordIn e og d i b) s).waitNo = s.waitNo := foldl_keeps State.waitNo _ (by simp) l s
  simp only [recordRaise]; split <;> simp only [noteRaise_waitNo, h]
@[simp] theorem recordRaise_starts (e og d : Nat) (i : Bool) (s : State) : (recordRaise e og d i s).starts = s.starts := by
  have h (l : List Nat) (b : Bool) : (l.foldl (recordIn e og d i b) s).starts = s.starts := foldl_keeps State.starts _ (by simp) l s
  simp only [recordRaise]; split <;> simp only [noteRaise_starts, h]
@[simp] theorem recordRaise_probeNext (e og d : Nat) (i : Bool) (s : State) : (recordRaise e og d i s).probeNext = s.probeNext := by
  have h (l : List Nat) (b : Bool) : (l.foldl (recordIn e og d i b) s).probeNext = s.probeNext := foldl_keeps State.probeNext _ (by simp) l s
  simp only [recordRaise]; split <;> simp only [noteRaise_probeNext, h]
@[simp] theorem recordRaise_probe (e og d : Nat) (i : Bool) (s : State) : (recordRaise e og d i s).probe = s.probe := by
  have h (l : List Nat) (b : Bool) : (l.foldl (recordIn e og d i b) s).probe = s.probe := foldl_keeps State.probe _ (by simp) l s
  simp only [recordRaise]; split <;> simp only [noteRaise_probe, h]

/-! `pushTrigger` -/

@[simp] theorem pushTrigger_pending (k tag : Nat) (s : State) : (pushTrigger k tag s).pending = s.pending := by
  simp [pushTrigger]
@[simp] theorem pushTrigger_us (k tag : Nat) (s : State) : (pushTrigger k tag s).us = s.us := by
  simp [pushTrigger]
@[simp] theorem pushTrigger_fresh (k tag : Nat) (s : State) : (pushTrigger k tag s).fresh = s.fresh := by
  simp [pushTrigger]
@[simp] theorem pushTrigger_par (k tag : Nat) (s : State) : (pushTrigger k tag s).par = s.par := by
  simp [pushTrigger]
@[simp] theorem pushTrigger_shadow (k tag : Nat) (s : State) : (pushTrigger k tag s).shadow = s.shadow := by
  simp [pushTrigger]
@[simp] theorem pushTrigger_safShadow (k tag : Nat) (s : State) : (pushTrigger k tag s).safShadow = s.safShadow := by
  simp [pushTrigger]
@[simp] theorem pushTrigger_ax (k tag : Nat) (s : State) : (pushTrigger k tag s).ax = s.ax := by
  simp [pushTrigger]
@[simp] theorem pushTrigger_dw (k tag : Nat) (s : State) : (pushTrigger k tag s).dw = s.dw := by
  simp [pushTrigger]
@[simp] theorem pushTrigger_saf (k tag : Nat) (s : State) : (pushTrigger k tag s).saf = s.saf := by
  simp [pushTrigger]
@[simp] theorem pushTrigger_io (k tag : Nat) (s : State) : (pushTrigger k tag s).io = s.io := by
  simp [pushTrigger]
@[simp] theorem pushTrigger_groups (k tag : Nat) (s : State) : (pushTrigger k tag s).groups = s.groups := by
  simp [pushTrigger]
@[simp] theorem pushTrigger_stations (k tag : Nat) (s : State) : (pushTrigger k tag s).stations = s.stations := by
  simp [pushTrigger]
@[simp] theorem pushTrigger_link (k tag : Nat) (s : State) : (pushTrigger k tag s).link = s.link := by
  simp [pushTrigger]
@[simp] theorem pushTrigger_kcp (k tag : Nat) (s : State) : (pushTrigger k tag s).kcp = s.kcp := by
  simp [pushTrigger]
@[simp] theorem pushTrigger_net (k tag : Nat) (s : State) : (pushTrigger k tag s).net = s.net := by
  simp [pushTrigger]
@[simp] theorem pushTrigger_time (k tag : Nat) (s : State) : (pushTrigger k tag s).time = s.time := by
  simp [pushTrigger]
@[simp] theorem pushTrigger_herd (k tag : Nat) (s : State) : (pushTrigger k tag s).herd = s.herd := by
  simp [pushTrigger]
@[simp] theorem pushTrigger_jrn (k tag : Nat) (s : State) : (pushTrigger k tag s).jrn = s.jrn := by
  simp [pushTrigger]
@[simp] theorem pushTrigger_ev (k tag : Nat) (s : State) : (pushTrigger k tag s).ev = s.ev := by
  simp [pushTrigger]
@[simp] theorem pushTrigger_boot (k tag : Nat) (s : State) : (pushTrigger k tag s).boot = s.boot := by
  simp [pushTrigger]
@[simp] theorem pushTrigger_sup (k tag : Nat) (s : State) : (pushTrigger k tag s).sup = s.sup := by
  simp [pushTrigger]
@[simp] theorem pushTrigger_graze (k tag : Nat) (s : State) : (pushTrigger k tag s).graze = s.graze := by
  simp [pushTrigger]
@[simp] theorem pushTrigger_tab (k tag : Nat) (s : State) : (pushTrigger k tag s).tab = s.tab := by
  simp [pushTrigger]
@[simp] theorem pushTrigger_reqs (k tag : Nat) (s : State) : (pushTrigger k tag s).reqs = s.reqs := by
  simp [pushTrigger]
@[simp] theorem pushTrigger_waitNo (k tag : Nat) (s : State) : (pushTrigger k tag s).waitNo = s.waitNo := by
  simp [pushTrigger]
@[simp] theorem pushTrigger_starts (k tag : Nat) (s : State) : (pushTrigger k tag s).starts = s.starts := by
  simp [pushTrigger]
@[simp] theorem pushTrigger_probeNext (k tag : Nat) (s : State) : (pushTrigger k tag s).probeNext = s.probeNext := by
  simp [pushTrigger]
@[simp] theorem pushTrigger_probe (k tag : Nat) (s : State) : (pushTrigger k tag s).probe = s.probe := by
  simp [pushTrigger]

/-! `releaseTasks` -/

@[simp] theorem releaseTasks_pending (m : Nat) (ok : Nat → Bool) (tag : Nat) (s : State) : (releaseTasks m ok tag s).pending = s.pending := by
  simp only [releaseTasks]; split
  · exact foldl_keeps State.pending _ (by intros; split <;> simp) _ _
  · rfl
@[simp] theorem releaseTasks_us (m : Nat) (ok : Nat → Bool) (tag : Nat) (s : State) : (releaseTasks m ok tag s).us = s.us := by
  simp only [releaseTasks]; split
  · exact foldl_keeps State.us _ (by intros; split <;> simp) _ _
  · rfl
@[simp] theorem releaseTasks_fresh (m : Nat) (ok : Nat → Bool) (tag : Nat) (s : State) : (releaseTasks m ok tag s).fresh = s.fresh := by
  simp only [releaseTasks]; split
  · exact foldl_keeps State.fresh _ (by intros; split <;> simp) _ _
  · rfl
@[simp] theorem releaseTasks_par (m : Nat) (ok : Nat → Bool) (tag : Nat) (s : State) : (releaseTasks m ok tag s).par = s.par := by
  simp only [releaseTasks]; split
  · exact foldl_keeps State.par _ (by intros; split <;> simp) _ _
  · rfl
@[simp] theorem releaseTasks_shadow (m : Nat) (ok : Nat → Bool) (tag : Nat) (s : State) : (releaseTasks m ok tag s).shadow = s.shadow := by
  simp only [releaseTasks]; split
  · exact foldl_keeps State.shadow _ (by intros; split <;> simp) _ _
  · rfl
@[simp] theorem releaseTasks_safShadow (m : Nat) (ok : Nat → Bool) (tag : Nat) (s : State) : (releaseTasks m ok tag s).safShadow = s.safShadow := by
  simp only [releaseTasks]; split
  · exact foldl_keeps State.safShadow _ (by intros; split <;> simp) _ _
  · rfl
@[simp] theorem releaseTasks_ax (m : Nat) (ok : Nat → Bool) (tag : Nat) (s : State) : (releaseTasks m ok tag s).ax = s.ax := by
  simp only [releaseTasks]; split
  · exact foldl_keeps State.ax _ (by intros; split <;> simp) _ _
  · rfl
@[simp] theorem releaseTasks_dw (m : Nat) (ok : Nat → Bool) (tag : Nat) (s : State) : (releaseTasks m ok tag s).dw = s.dw := by
  simp only [releaseTasks]; split
  · exact foldl_keeps State.dw _ (by intros; split <;> simp) _ _
  · rfl
@[simp] theorem releaseTasks_saf (m : Nat) (ok : Nat → Bool) (tag : Nat) (s : State) : (releaseTasks m ok tag s).saf = s.saf := by
  simp only [releaseTasks]; split
  · exact foldl_keeps State.saf _ (by intros; split <;> simp) _ _
  · rfl
@[simp] theorem releaseTasks_io (m : Nat) (ok : Nat → Bool) (tag : Nat) (s : State) : (releaseTasks m ok tag s).io = s.io := by
  simp only [releaseTasks]; split
  · exact foldl_keeps State.io _ (by intros; split <;> simp) _ _
  · rfl
@[simp] theorem releaseTasks_groups (m : Nat) (ok : Nat → Bool) (tag : Nat) (s : State) : (releaseTasks m ok tag s).groups = s.groups := by
  simp only [releaseTasks]; split
  · exact foldl_keeps State.groups _ (by intros; split <;> simp) _ _
  · rfl
@[simp] theorem releaseTasks_stations (m : Nat) (ok : Nat → Bool) (tag : Nat) (s : State) : (releaseTasks m ok tag s).stations = s.stations := by
  simp only [releaseTasks]; split
  · exact foldl_keeps State.stations _ (by intros; split <;> simp) _ _
  · rfl
@[simp] theorem releaseTasks_link (m : Nat) (ok : Nat → Bool) (tag : Nat) (s : State) : (releaseTasks m ok tag s).link = s.link := by
  simp only [releaseTasks]; split
  · exact foldl_keeps State.link _ (by intros; split <;> simp) _ _
  · rfl
@[simp] theorem releaseTasks_kcp (m : Nat) (ok : Nat → Bool) (tag : Nat) (s : State) : (releaseTasks m ok tag s).kcp = s.kcp := by
  simp only [releaseTasks]; split
  · exact foldl_keeps State.kcp _ (by intros; split <;> simp) _ _
  · rfl
@[simp] theorem releaseTasks_net (m : Nat) (ok : Nat → Bool) (tag : Nat) (s : State) : (releaseTasks m ok tag s).net = s.net := by
  simp only [releaseTasks]; split
  · exact foldl_keeps State.net _ (by intros; split <;> simp) _ _
  · rfl
@[simp] theorem releaseTasks_time (m : Nat) (ok : Nat → Bool) (tag : Nat) (s : State) : (releaseTasks m ok tag s).time = s.time := by
  simp only [releaseTasks]; split
  · exact foldl_keeps State.time _ (by intros; split <;> simp) _ _
  · rfl
@[simp] theorem releaseTasks_herd (m : Nat) (ok : Nat → Bool) (tag : Nat) (s : State) : (releaseTasks m ok tag s).herd = s.herd := by
  simp only [releaseTasks]; split
  · exact foldl_keeps State.herd _ (by intros; split <;> simp) _ _
  · rfl
@[simp] theorem releaseTasks_jrn (m : Nat) (ok : Nat → Bool) (tag : Nat) (s : State) : (releaseTasks m ok tag s).jrn = s.jrn := by
  simp only [releaseTasks]; split
  · exact foldl_keeps State.jrn _ (by intros; split <;> simp) _ _
  · rfl
@[simp] theorem releaseTasks_ev (m : Nat) (ok : Nat → Bool) (tag : Nat) (s : State) : (releaseTasks m ok tag s).ev = s.ev := by
  simp only [releaseTasks]; split
  · exact foldl_keeps State.ev _ (by intros; split <;> simp) _ _
  · rfl
@[simp] theorem releaseTasks_boot (m : Nat) (ok : Nat → Bool) (tag : Nat) (s : State) : (releaseTasks m ok tag s).boot = s.boot := by
  simp only [releaseTasks]; split
  · exact foldl_keeps State.boot _ (by intros; split <;> simp) _ _
  · rfl
@[simp] theorem releaseTasks_sup (m : Nat) (ok : Nat → Bool) (tag : Nat) (s : State) : (releaseTasks m ok tag s).sup = s.sup := by
  simp only [releaseTasks]; split
  · exact foldl_keeps State.sup _ (by intros; split <;> simp) _ _
  · rfl
@[simp] theorem releaseTasks_graze (m : Nat) (ok : Nat → Bool) (tag : Nat) (s : State) : (releaseTasks m ok tag s).graze = s.graze := by
  simp only [releaseTasks]; split
  · exact foldl_keeps State.graze _ (by intros; split <;> simp) _ _
  · rfl
@[simp] theorem releaseTasks_tab (m : Nat) (ok : Nat → Bool) (tag : Nat) (s : State) : (releaseTasks m ok tag s).tab = s.tab := by
  simp only [releaseTasks]; split
  · exact foldl_keeps State.tab _ (by intros; split <;> simp) _ _
  · rfl
@[simp] theorem releaseTasks_reqs (m : Nat) (ok : Nat → Bool) (tag : Nat) (s : State) : (releaseTasks m ok tag s).reqs = s.reqs := by
  simp only [releaseTasks]; split
  · exact foldl_keeps State.reqs _ (by intros; split <;> simp) _ _
  · rfl
@[simp] theorem releaseTasks_waitNo (m : Nat) (ok : Nat → Bool) (tag : Nat) (s : State) : (releaseTasks m ok tag s).waitNo = s.waitNo := by
  simp only [releaseTasks]; split
  · exact foldl_keeps State.waitNo _ (by intros; split <;> simp) _ _
  · rfl
@[simp] theorem releaseTasks_starts (m : Nat) (ok : Nat → Bool) (tag : Nat) (s : State) : (releaseTasks m ok tag s).starts = s.starts := by
  simp only [releaseTasks]; split
  · exact foldl_keeps State.starts _ (by intros; split <;> simp) _ _
  · rfl
@[simp] theorem releaseTasks_probeNext (m : Nat) (ok : Nat → Bool) (tag : Nat) (s : State) : (releaseTasks m ok tag s).probeNext = s.probeNext := by
  simp only [releaseTasks]; split
  · exact foldl_keeps State.probeNext _ (by intros; split <;> simp) _ _
  · rfl
@[simp] theorem releaseTasks_probe (m : Nat) (ok : Nat → Bool) (tag : Nat) (s : State) : (releaseTasks m ok tag s).probe = s.probe := by
  simp only [releaseTasks]; split
  · exact foldl_keeps State.probe _ (by intros; split <;> simp) _ _
  · rfl

/-! `raiseBy` -/

@[simp] theorem raiseBy_pending (e og d : Nat) (i : Bool) (s : State) : (raiseBy e og d i s).pending = s.pending := by
  simp only [raiseBy]; split
  · split <;> simp
  · rfl
@[simp] theorem raiseBy_us (e og d : Nat) (i : Bool) (s : State) : (raiseBy e og d i s).us = s.us := by
  simp only [raiseBy]; split
  · split <;> simp
  · rfl
@[simp] theorem raiseBy_fresh (e og d : Nat) (i : Bool) (s : State) : (raiseBy e og d i s).fresh = s.fresh := by
  simp only [raiseBy]; split
  · split <;> simp
  · rfl
@[simp] theorem raiseBy_par (e og d : Nat) (i : Bool) (s : State) : (raiseBy e og d i s).par = s.par := by
  simp only [raiseBy]; split
  · split <;> simp
  · rfl
@[simp] theorem raiseBy_shadow (e og d : Nat) (i : Bool) (s : State) : (raiseBy e og d i s).shadow = s.shadow := by
  simp only [raiseBy]; split
  · split <;> simp
  · rfl
@[simp] theorem raiseBy_safShadow (e og d : Nat) (i : Bool) (s : State) : (raiseBy e og d i s).safShadow = s.safShadow := by
  simp only [raiseBy]; split
  · split <;> simp
  · rfl
@[simp] theorem raiseBy_ax (e og d : Nat) (i : Bool) (s : State) : (raiseBy e og d i s).ax = s.ax := by
  simp only [raiseBy]; split
  · split <;> simp
  · rfl
@[simp] theorem raiseBy_dw (e og d : Nat) (i : Bool) (s : State) : (raiseBy e og d i s).dw = s.dw := by
  simp only [raiseBy]; split
  · split <;> simp
  · rfl
@[simp] theorem raiseBy_saf (e og d : Nat) (i : Bool) (s : State) : (raiseBy e og d i s).saf = s.saf := by
  simp only [raiseBy]; split
  · split <;> simp
  · rfl
@[simp] theorem raiseBy_io (e og d : Nat) (i : Bool) (s : State) : (raiseBy e og d i s).io = s.io := by
  simp only [raiseBy]; split
  · split <;> simp
  · rfl
@[simp] theorem raiseBy_groups (e og d : Nat) (i : Bool) (s : State) : (raiseBy e og d i s).groups = s.groups := by
  simp only [raiseBy]; split
  · split <;> simp
  · rfl
@[simp] theorem raiseBy_stations (e og d : Nat) (i : Bool) (s : State) : (raiseBy e og d i s).stations = s.stations := by
  simp only [raiseBy]; split
  · split <;> simp
  · rfl
@[simp] theorem raiseBy_link (e og d : Nat) (i : Bool) (s : State) : (raiseBy e og d i s).link = s.link := by
  simp only [raiseBy]; split
  · split <;> simp
  · rfl
@[simp] theorem raiseBy_kcp (e og d : Nat) (i : Bool) (s : State) : (raiseBy e og d i s).kcp = s.kcp := by
  simp only [raiseBy]; split
  · split <;> simp
  · rfl
@[simp] theorem raiseBy_net (e og d : Nat) (i : Bool) (s : State) : (raiseBy e og d i s).net = s.net := by
  simp only [raiseBy]; split
  · split <;> simp
  · rfl
@[simp] theorem raiseBy_time (e og d : Nat) (i : Bool) (s : State) : (raiseBy e og d i s).time = s.time := by
  simp only [raiseBy]; split
  · split <;> simp
  · rfl
@[simp] theorem raiseBy_herd (e og d : Nat) (i : Bool) (s : State) : (raiseBy e og d i s).herd = s.herd := by
  simp only [raiseBy]; split
  · split <;> simp
  · rfl
@[simp] theorem raiseBy_boot (e og d : Nat) (i : Bool) (s : State) : (raiseBy e og d i s).boot = s.boot := by
  simp only [raiseBy]; split
  · split <;> simp
  · rfl
@[simp] theorem raiseBy_sup (e og d : Nat) (i : Bool) (s : State) : (raiseBy e og d i s).sup = s.sup := by
  simp only [raiseBy]; split
  · split <;> simp
  · rfl
@[simp] theorem raiseBy_graze (e og d : Nat) (i : Bool) (s : State) : (raiseBy e og d i s).graze = s.graze := by
  simp only [raiseBy]; split
  · split <;> simp
  · rfl
@[simp] theorem raiseBy_tab (e og d : Nat) (i : Bool) (s : State) : (raiseBy e og d i s).tab = s.tab := by
  simp only [raiseBy]; split
  · split <;> simp
  · rfl
@[simp] theorem raiseBy_reqs (e og d : Nat) (i : Bool) (s : State) : (raiseBy e og d i s).reqs = s.reqs := by
  simp only [raiseBy]; split
  · split <;> simp
  · rfl
@[simp] theorem raiseBy_waitNo (e og d : Nat) (i : Bool) (s : State) : (raiseBy e og d i s).waitNo = s.waitNo := by
  simp only [raiseBy]; split
  · split <;> simp
  · rfl
@[simp] theorem raiseBy_starts (e og d : Nat) (i : Bool) (s : State) : (raiseBy e og d i s).starts = s.starts := by
  simp only [raiseBy]; split
  · split <;> simp
  · rfl
@[simp] theorem raiseBy_probeNext (e og d : Nat) (i : Bool) (s : State) : (raiseBy e og d i s).probeNext = s.probeNext := by
  simp only [raiseBy]; split
  · split <;> simp
  · rfl
@[simp] theorem raiseBy_probe (e og d : Nat) (i : Bool) (s : State) : (raiseBy e og d i s).probe = s.probe := by
  simp only [raiseBy]; split
  · split <;> simp
  · rfl

/-! `raise` -/

@[simp] theorem raise_pending (e d : Nat) (s : State) : (raise e d s).pending = s.pending := by
  simp [raise]
@[simp] theorem raise_us (e d : Nat) (s : State) : (raise e d s).us = s.us := by
  simp [raise]
@[simp] theorem raise_fresh (e d : Nat) (s : State) : (raise e d s).fresh = s.fresh := by
  simp [raise]
@[simp] theorem raise_par (e d : Nat) (s : State) : (raise e d s).par = s.par := by
  simp [raise]
@[simp] theorem raise_shadow (e d : Nat) (s : State) : (raise e d s).shadow = s.shadow := by
  simp [raise]
@[simp] theorem raise_safShadow (e d : Nat) (s : State) : (raise e d s).safShadow = s.safShadow := by
  simp [raise]
@[simp] theorem raise_ax (e d : Nat) (s : State) : (raise e d s).ax = s.ax := by
  simp [raise]
@[simp] theorem raise_dw (e d : Nat) (s : State) : (raise e d s).dw = s.dw := by
  simp [raise]
@[simp] theorem raise_saf (e d : Nat) (s : State) : (raise e d s).saf = s.saf := by
  simp [raise]
@[simp] theorem raise_io (e d : Nat) (s : State) : (raise e d s).io = s.io := by
  simp [raise]
@[simp] theorem raise_groups (e d : Nat) (s : State) : (raise e d s).groups = s.groups := by
  simp [raise]
@[simp] theorem raise_stations (e d : Nat) (s : State) : (raise e d s).stations = s.stations := by
  simp [raise]
@[simp] theorem raise_link (e d : Nat) (s : State) : (raise e d s).link = s.link := by
  simp [raise]
@[simp] theorem raise_kcp (e d : Nat) (s : State) : (raise e d s).kcp = s.kcp := by
  simp [raise]
@[simp] theorem raise_net (e d : Nat) (s : State) : (raise e d s).net = s.net := by
  simp [raise]
@[simp] theorem raise_time (e d : Nat) (s : State) : (raise e d s).time = s.time := by
  simp [raise]
@[simp] theorem raise_herd (e d : Nat) (s : State) : (raise e d s).herd = s.herd := by
  simp [raise]
@[simp] theorem raise_boot (e d : Nat) (s : State) : (raise e d s).boot = s.boot := by
  simp [raise]
@[simp] theorem raise_sup (e d : Nat) (s : State) : (raise e d s).sup = s.sup := by
  simp [raise]
@[simp] theorem raise_graze (e d : Nat) (s : State) : (raise e d s).graze = s.graze := by
  simp [raise]
@[simp] theorem raise_tab (e d : Nat) (s : State) : (raise e d s).tab = s.tab := by
  simp [raise]
@[simp] theorem raise_reqs (e d : Nat) (s : State) : (raise e d s).reqs = s.reqs := by
  simp [raise]
@[simp] theorem raise_waitNo (e d : Nat) (s : State) : (raise e d s).waitNo = s.waitNo := by
  simp [raise]
@[simp] theorem raise_starts (e d : Nat) (s : State) : (raise e d s).starts = s.starts := by
  simp [raise]
@[simp] theorem raise_probeNext (e d : Nat) (s : State) : (raise e d s).probeNext = s.probeNext := by
  simp [raise]
@[simp] theorem raise_probe (e d : Nat) (s : State) : (raise e d s).probe = s.probe := by
  simp [raise]

/-! `raiseDoor` -/

@[simp] theorem raiseDoor_pending (d k x : Nat) (i : Bool) (s : State) : (raiseDoor d k x i s).pending = s.pending := by
  simp only [raiseDoor]; split <;> simp
@[simp] theorem raiseDoor_us (d k x : Nat) (i : Bool) (s : State) : (raiseDoor d k x i s).us = s.us := by
  simp only [raiseDoor]; split <;> simp
@[simp] theorem raiseDoor_fresh (d k x : Nat) (i : Bool) (s : State) : (raiseDoor d k x i s).fresh = s.fresh := by
  simp only [raiseDoor]; split <;> simp
@[simp] theorem raiseDoor_par (d k x : Nat) (i : Bool) (s : State) : (raiseDoor d k x i s).par = s.par := by
  simp only [raiseDoor]; split <;> simp
@[simp] theorem raiseDoor_shadow (d k x : Nat) (i : Bool) (s : State) : (raiseDoor d k x i s).shadow = s.shadow := by
  simp only [raiseDoor]; split <;> simp
@[simp] theorem raiseDoor_safShadow (d k x : Nat) (i : Bool) (s : State) : (raiseDoor d k x i s).safShadow = s.safShadow := by
  simp only [raiseDoor]; split <;> simp
@[simp] theorem raiseDoor_ax (d k x : Nat) (i : Bool) (s : State) : (raiseDoor d k x i s).ax = s.ax := by
  simp only [raiseDoor]; split <;> simp
@[simp] theorem raiseDoor_saf (d k x : Nat) (i : Bool) (s : State) : (raiseDoor d k x i s).saf = s.saf := by
  simp only [raiseDoor]; split <;> simp
@[simp] theorem raiseDoor_io (d k x : Nat) (i : Bool) (s : State) : (raiseDoor d k x i s).io = s.io := by
  simp only [raiseDoor]; split <;> simp
@[simp] theorem raiseDoor_groups (d k x : Nat) (i : Bool) (s : State) : (raiseDoor d k x i s).groups = s.groups := by
  simp only [raiseDoor]; split <;> simp
@[simp] theorem raiseDoor_stations (d k x : Nat) (i : Bool) (s : State) : (raiseDoor d k x i s).stations = s.stations := by
  simp only [raiseDoor]; split <;> simp
@[simp] theorem raiseDoor_link (d k x : Nat) (i : Bool) (s : State) : (raiseDoor d k x i s).link = s.link := by
  simp only [raiseDoor]; split <;> simp
@[simp] theorem raiseDoor_kcp (d k x : Nat) (i : Bool) (s : State) : (raiseDoor d k x i s).kcp = s.kcp := by
  simp only [raiseDoor]; split <;> simp
@[simp] theorem raiseDoor_net (d k x : Nat) (i : Bool) (s : State) : (raiseDoor d k x i s).net = s.net := by
  simp only [raiseDoor]; split <;> simp
@[simp] theorem raiseDoor_time (d k x : Nat) (i : Bool) (s : State) : (raiseDoor d k x i s).time = s.time := by
  simp only [raiseDoor]; split <;> simp
@[simp] theorem raiseDoor_herd (d k x : Nat) (i : Bool) (s : State) : (raiseDoor d k x i s).herd = s.herd := by
  simp only [raiseDoor]; split <;> simp
@[simp] theorem raiseDoor_boot (d k x : Nat) (i : Bool) (s : State) : (raiseDoor d k x i s).boot = s.boot := by
  simp only [raiseDoor]; split <;> simp
@[simp] theorem raiseDoor_sup (d k x : Nat) (i : Bool) (s : State) : (raiseDoor d k x i s).sup = s.sup := by
  simp only [raiseDoor]; split <;> simp
@[simp] theorem raiseDoor_graze (d k x : Nat) (i : Bool) (s : State) : (raiseDoor d k x i s).graze = s.graze := by
  simp only [raiseDoor]; split <;> simp
@[simp] theorem raiseDoor_tab (d k x : Nat) (i : Bool) (s : State) : (raiseDoor d k x i s).tab = s.tab := by
  simp only [raiseDoor]; split <;> simp
@[simp] theorem raiseDoor_reqs (d k x : Nat) (i : Bool) (s : State) : (raiseDoor d k x i s).reqs = s.reqs := by
  simp only [raiseDoor]; split <;> simp
@[simp] theorem raiseDoor_waitNo (d k x : Nat) (i : Bool) (s : State) : (raiseDoor d k x i s).waitNo = s.waitNo := by
  simp only [raiseDoor]; split <;> simp
@[simp] theorem raiseDoor_starts (d k x : Nat) (i : Bool) (s : State) : (raiseDoor d k x i s).starts = s.starts := by
  simp only [raiseDoor]; split <;> simp
@[simp] theorem raiseDoor_probeNext (d k x : Nat) (i : Bool) (s : State) : (raiseDoor d k x i s).probeNext = s.probeNext := by
  simp only [raiseDoor]; split <;> simp
@[simp] theorem raiseDoor_probe (d k x : Nat) (i : Bool) (s : State) : (raiseDoor d k x i s).probe = s.probe := by
  simp only [raiseDoor]; split <;> simp

/-! `raiseAxis` -/

@[simp] theorem raiseAxis_pending (a k x : Nat) (i : Bool) (s : State) : (raiseAxis a k x i s).pending = s.pending := by
  simp only [raiseAxis]; split <;> simp
@[simp] theorem raiseAxis_us (a k x : Nat) (i : Bool) (s : State) : (raiseAxis a k x i s).us = s.us := by
  simp only [raiseAxis]; split <;> simp
@[simp] theorem raiseAxis_fresh (a k x : Nat) (i : Bool) (s : State) : (raiseAxis a k x i s).fresh = s.fresh := by
  simp only [raiseAxis]; split <;> simp
@[simp] theorem raiseAxis_par (a k x : Nat) (i : Bool) (s : State) : (raiseAxis a k x i s).par = s.par := by
  simp only [raiseAxis]; split <;> simp
@[simp] theorem raiseAxis_shadow (a k x : Nat) (i : Bool) (s : State) : (raiseAxis a k x i s).shadow = s.shadow := by
  simp only [raiseAxis]; split <;> simp
@[simp] theorem raiseAxis_safShadow (a k x : Nat) (i : Bool) (s : State) : (raiseAxis a k x i s).safShadow = s.safShadow := by
  simp only [raiseAxis]; split <;> simp
@[simp] theorem raiseAxis_ax (a k x : Nat) (i : Bool) (s : State) : (raiseAxis a k x i s).ax = s.ax := by
  simp only [raiseAxis]; split <;> simp
@[simp] theorem raiseAxis_saf (a k x : Nat) (i : Bool) (s : State) : (raiseAxis a k x i s).saf = s.saf := by
  simp only [raiseAxis]; split <;> simp
@[simp] theorem raiseAxis_io (a k x : Nat) (i : Bool) (s : State) : (raiseAxis a k x i s).io = s.io := by
  simp only [raiseAxis]; split <;> simp
@[simp] theorem raiseAxis_groups (a k x : Nat) (i : Bool) (s : State) : (raiseAxis a k x i s).groups = s.groups := by
  simp only [raiseAxis]; split <;> simp
@[simp] theorem raiseAxis_stations (a k x : Nat) (i : Bool) (s : State) : (raiseAxis a k x i s).stations = s.stations := by
  simp only [raiseAxis]; split <;> simp
@[simp] theorem raiseAxis_link (a k x : Nat) (i : Bool) (s : State) : (raiseAxis a k x i s).link = s.link := by
  simp only [raiseAxis]; split <;> simp
@[simp] theorem raiseAxis_kcp (a k x : Nat) (i : Bool) (s : State) : (raiseAxis a k x i s).kcp = s.kcp := by
  simp only [raiseAxis]; split <;> simp
@[simp] theorem raiseAxis_net (a k x : Nat) (i : Bool) (s : State) : (raiseAxis a k x i s).net = s.net := by
  simp only [raiseAxis]; split <;> simp
@[simp] theorem raiseAxis_time (a k x : Nat) (i : Bool) (s : State) : (raiseAxis a k x i s).time = s.time := by
  simp only [raiseAxis]; split <;> simp
@[simp] theorem raiseAxis_herd (a k x : Nat) (i : Bool) (s : State) : (raiseAxis a k x i s).herd = s.herd := by
  simp only [raiseAxis]; split <;> simp
@[simp] theorem raiseAxis_boot (a k x : Nat) (i : Bool) (s : State) : (raiseAxis a k x i s).boot = s.boot := by
  simp only [raiseAxis]; split <;> simp
@[simp] theorem raiseAxis_sup (a k x : Nat) (i : Bool) (s : State) : (raiseAxis a k x i s).sup = s.sup := by
  simp only [raiseAxis]; split <;> simp
@[simp] theorem raiseAxis_graze (a k x : Nat) (i : Bool) (s : State) : (raiseAxis a k x i s).graze = s.graze := by
  simp only [raiseAxis]; split <;> simp
@[simp] theorem raiseAxis_tab (a k x : Nat) (i : Bool) (s : State) : (raiseAxis a k x i s).tab = s.tab := by
  simp only [raiseAxis]; split <;> simp
@[simp] theorem raiseAxis_reqs (a k x : Nat) (i : Bool) (s : State) : (raiseAxis a k x i s).reqs = s.reqs := by
  simp only [raiseAxis]; split <;> simp
@[simp] theorem raiseAxis_waitNo (a k x : Nat) (i : Bool) (s : State) : (raiseAxis a k x i s).waitNo = s.waitNo := by
  simp only [raiseAxis]; split <;> simp
@[simp] theorem raiseAxis_starts (a k x : Nat) (i : Bool) (s : State) : (raiseAxis a k x i s).starts = s.starts := by
  simp only [raiseAxis]; split <;> simp
@[simp] theorem raiseAxis_probeNext (a k x : Nat) (i : Bool) (s : State) : (raiseAxis a k x i s).probeNext = s.probeNext := by
  simp only [raiseAxis]; split <;> simp
@[simp] theorem raiseAxis_probe (a k x : Nat) (i : Bool) (s : State) : (raiseAxis a k x i s).probe = s.probe := by
  simp only [raiseAxis]; split <;> simp

/-! `elapseClocks` -/

@[simp] theorem elapseClocks_pending (us : Nat) (s : State) : (elapseClocks us s).pending = s.pending := by
  simp only [elapseClocks]; split <;> simp
@[simp] theorem elapseClocks_us (us : Nat) (s : State) : (elapseClocks us s).us = s.us := by
  simp only [elapseClocks]; split <;> simp
@[simp] theorem elapseClocks_fresh (us : Nat) (s : State) : (elapseClocks us s).fresh = s.fresh := by
  simp only [elapseClocks]; split <;> simp
@[simp] theorem elapseClocks_par (us : Nat) (s : State) : (elapseClocks us s).par = s.par := by
  simp only [elapseClocks]; split <;> simp
@[simp] theorem elapseClocks_shadow (us : Nat) (s : State) : (elapseClocks us s).shadow = s.shadow := by
  simp only [elapseClocks]; split <;> simp
@[simp] theorem elapseClocks_safShadow (us : Nat) (s : State) : (elapseClocks us s).safShadow = s.safShadow := by
  simp only [elapseClocks]; split <;> simp
@[simp] theorem elapseClocks_ax (us : Nat) (s : State) : (elapseClocks us s).ax = s.ax := by
  simp only [elapseClocks]; split <;> simp
@[simp] theorem elapseClocks_dw (us : Nat) (s : State) : (elapseClocks us s).dw = s.dw := by
  simp only [elapseClocks]; split <;> simp
@[simp] theorem elapseClocks_saf (us : Nat) (s : State) : (elapseClocks us s).saf = s.saf := by
  simp only [elapseClocks]; split <;> simp
@[simp] theorem elapseClocks_io (us : Nat) (s : State) : (elapseClocks us s).io = s.io := by
  simp only [elapseClocks]; split <;> simp
@[simp] theorem elapseClocks_groups (us : Nat) (s : State) : (elapseClocks us s).groups = s.groups := by
  simp only [elapseClocks]; split <;> simp
@[simp] theorem elapseClocks_stations (us : Nat) (s : State) : (elapseClocks us s).stations = s.stations := by
  simp only [elapseClocks]; split <;> simp
@[simp] theorem elapseClocks_link (us : Nat) (s : State) : (elapseClocks us s).link = s.link := by
  simp only [elapseClocks]; split <;> simp
@[simp] theorem elapseClocks_logic (us : Nat) (s : State) : (elapseClocks us s).logic = s.logic := by
  simp only [elapseClocks]; split <;> simp
@[simp] theorem elapseClocks_kcp (us : Nat) (s : State) : (elapseClocks us s).kcp = s.kcp := by
  simp only [elapseClocks]; split <;> simp
@[simp] theorem elapseClocks_net (us : Nat) (s : State) : (elapseClocks us s).net = s.net := by
  simp only [elapseClocks]; split <;> simp
@[simp] theorem elapseClocks_herd (us : Nat) (s : State) : (elapseClocks us s).herd = s.herd := by
  simp only [elapseClocks]; split <;> simp
@[simp] theorem elapseClocks_jrn (us : Nat) (s : State) : (elapseClocks us s).jrn = s.jrn := by
  simp only [elapseClocks]; split <;> simp
@[simp] theorem elapseClocks_ev (us : Nat) (s : State) : (elapseClocks us s).ev = s.ev := by
  simp only [elapseClocks]; split <;> simp
@[simp] theorem elapseClocks_boot (us : Nat) (s : State) : (elapseClocks us s).boot = s.boot := by
  simp only [elapseClocks]; split <;> simp
@[simp] theorem elapseClocks_sup (us : Nat) (s : State) : (elapseClocks us s).sup = s.sup := by
  simp only [elapseClocks]; split <;> simp
@[simp] theorem elapseClocks_graze (us : Nat) (s : State) : (elapseClocks us s).graze = s.graze := by
  simp only [elapseClocks]; split <;> simp
@[simp] theorem elapseClocks_tab (us : Nat) (s : State) : (elapseClocks us s).tab = s.tab := by
  simp only [elapseClocks]; split <;> simp
@[simp] theorem elapseClocks_reqs (us : Nat) (s : State) : (elapseClocks us s).reqs = s.reqs := by
  simp only [elapseClocks]; split <;> simp
@[simp] theorem elapseClocks_waitNo (us : Nat) (s : State) : (elapseClocks us s).waitNo = s.waitNo := by
  simp only [elapseClocks]; split <;> simp
@[simp] theorem elapseClocks_starts (us : Nat) (s : State) : (elapseClocks us s).starts = s.starts := by
  simp only [elapseClocks]; split <;> simp
@[simp] theorem elapseClocks_probeNext (us : Nat) (s : State) : (elapseClocks us s).probeNext = s.probeNext := by
  simp only [elapseClocks]; split <;> simp
@[simp] theorem elapseClocks_probe (us : Nat) (s : State) : (elapseClocks us s).probe = s.probe := by
  simp only [elapseClocks]; split <;> simp

/-! `advanceOp` -/

@[simp] theorem advanceOp_pending (us : Nat) (s : State) : (advanceOp us s).pending = s.pending := by
  simp [advanceOp]
@[simp] theorem advanceOp_us (us : Nat) (s : State) : (advanceOp us s).us = s.us := by
  simp [advanceOp]
@[simp] theorem advanceOp_fresh (us : Nat) (s : State) : (advanceOp us s).fresh = s.fresh := by
  simp [advanceOp]
@[simp] theorem advanceOp_par (us : Nat) (s : State) : (advanceOp us s).par = s.par := by
  simp [advanceOp]
@[simp] theorem advanceOp_shadow (us : Nat) (s : State) : (advanceOp us s).shadow = s.shadow := by
  simp [advanceOp]
@[simp] theorem advanceOp_safShadow (us : Nat) (s : State) : (advanceOp us s).safShadow = s.safShadow := by
  simp [advanceOp]
@[simp] theorem advanceOp_ax (us : Nat) (s : State) : (advanceOp us s).ax = s.ax := by
  simp [advanceOp]
@[simp] theorem advanceOp_dw (us : Nat) (s : State) : (advanceOp us s).dw = s.dw := by
  simp [advanceOp]
@[simp] theorem advanceOp_saf (us : Nat) (s : State) : (advanceOp us s).saf = s.saf := by
  simp [advanceOp]
@[simp] theorem advanceOp_io (us : Nat) (s : State) : (advanceOp us s).io = s.io := by
  simp [advanceOp]
@[simp] theorem advanceOp_groups (us : Nat) (s : State) : (advanceOp us s).groups = s.groups := by
  simp [advanceOp]
@[simp] theorem advanceOp_stations (us : Nat) (s : State) : (advanceOp us s).stations = s.stations := by
  simp [advanceOp]
@[simp] theorem advanceOp_link (us : Nat) (s : State) : (advanceOp us s).link = s.link := by
  simp [advanceOp]
@[simp] theorem advanceOp_logic (us : Nat) (s : State) : (advanceOp us s).logic = s.logic := by
  simp [advanceOp]
@[simp] theorem advanceOp_kcp (us : Nat) (s : State) : (advanceOp us s).kcp = s.kcp := by
  simp [advanceOp]
@[simp] theorem advanceOp_net (us : Nat) (s : State) : (advanceOp us s).net = s.net := by
  simp [advanceOp]
@[simp] theorem advanceOp_time (us : Nat) (s : State) : (advanceOp us s).time = s.time := by
  simp [advanceOp]
@[simp] theorem advanceOp_herd (us : Nat) (s : State) : (advanceOp us s).herd = s.herd := by
  simp [advanceOp]
@[simp] theorem advanceOp_ev (us : Nat) (s : State) : (advanceOp us s).ev = s.ev := by
  simp [advanceOp]
@[simp] theorem advanceOp_boot (us : Nat) (s : State) : (advanceOp us s).boot = s.boot := by
  simp [advanceOp]
@[simp] theorem advanceOp_sup (us : Nat) (s : State) : (advanceOp us s).sup = s.sup := by
  simp [advanceOp]
@[simp] theorem advanceOp_graze (us : Nat) (s : State) : (advanceOp us s).graze = s.graze := by
  simp [advanceOp]
@[simp] theorem advanceOp_tab (us : Nat) (s : State) : (advanceOp us s).tab = s.tab := by
  simp [advanceOp]
@[simp] theorem advanceOp_reqs (us : Nat) (s : State) : (advanceOp us s).reqs = s.reqs := by
  simp [advanceOp]
@[simp] theorem advanceOp_waitNo (us : Nat) (s : State) : (advanceOp us s).waitNo = s.waitNo := by
  simp [advanceOp]
@[simp] theorem advanceOp_starts (us : Nat) (s : State) : (advanceOp us s).starts = s.starts := by
  simp [advanceOp]
@[simp] theorem advanceOp_probeNext (us : Nat) (s : State) : (advanceOp us s).probeNext = s.probeNext := by
  simp [advanceOp]
@[simp] theorem advanceOp_probe (us : Nat) (s : State) : (advanceOp us s).probe = s.probe := by
  simp [advanceOp]

/-! `elapse` -/

@[simp] theorem elapse_pending (us : Nat) (s : State) : (elapse us s).pending = s.pending := by
  simp only [elapse, State.modSup_pending, elapseClocks_pending]; split <;> simp
@[simp] theorem elapse_fresh (us : Nat) (s : State) : (elapse us s).fresh = s.fresh := by
  simp only [elapse, State.modSup_fresh, elapseClocks_fresh]; split <;> simp
@[simp] theorem elapse_par (us : Nat) (s : State) : (elapse us s).par = s.par := by
  simp only [elapse, State.modSup_par, elapseClocks_par]; split <;> simp
@[simp] theorem elapse_shadow (us : Nat) (s : State) : (elapse us s).shadow = s.shadow := by
  simp only [elapse, State.modSup_shadow, elapseClocks_shadow]; split <;> simp
@[simp] theorem elapse_safShadow (us : Nat) (s : State) : (elapse us s).safShadow = s.safShadow := by
  simp only [elapse, State.modSup_safShadow, elapseClocks_safShadow]; split <;> simp
@[simp] theorem elapse_dw (us : Nat) (s : State) : (elapse us s).dw = s.dw := by
  simp only [elapse, State.modSup_dw, elapseClocks_dw]; split <;> simp
@[simp] theorem elapse_saf (us : Nat) (s : State) : (elapse us s).saf = s.saf := by
  simp only [elapse, State.modSup_saf, elapseClocks_saf]; split <;> simp
@[simp] theorem elapse_io (us : Nat) (s : State) : (elapse us s).io = s.io := by
  simp only [elapse, State.modSup_io, elapseClocks_io]; split <;> simp
@[simp] theorem elapse_groups (us : Nat) (s : State) : (elapse us s).groups = s.groups := by
  simp only [elapse, State.modSup_groups, elapseClocks_groups]; split <;> simp
@[simp] theorem elapse_stations (us : Nat) (s : State) : (elapse us s).stations = s.stations := by
  simp only [elapse, State.modSup_stations, elapseClocks_stations]; split <;> simp
@[simp] theorem elapse_link (us : Nat) (s : State) : (elapse us s).link = s.link := by
  simp only [elapse, State.modSup_link, elapseClocks_link]; split <;> simp
@[simp] theorem elapse_logic (us : Nat) (s : State) : (elapse us s).logic = s.logic := by
  simp only [elapse, State.modSup_logic, elapseClocks_logic]; split <;> simp
@[simp] theorem elapse_kcp (us : Nat) (s : State) : (elapse us s).kcp = s.kcp := by
  simp only [elapse, State.modSup_kcp, elapseClocks_kcp]; split <;> simp
@[simp] theorem elapse_net (us : Nat) (s : State) : (elapse us s).net = s.net := by
  simp only [elapse, State.modSup_net, elapseClocks_net]; split <;> simp
@[simp] theorem elapse_herd (us : Nat) (s : State) : (elapse us s).herd = s.herd := by
  simp only [elapse, State.modSup_herd, elapseClocks_herd]; split <;> simp
@[simp] theorem elapse_ev (us : Nat) (s : State) : (elapse us s).ev = s.ev := by
  simp only [elapse, State.modSup_ev, elapseClocks_ev]; split <;> simp
@[simp] theorem elapse_boot (us : Nat) (s : State) : (elapse us s).boot = s.boot := by
  simp only [elapse, State.modSup_boot, elapseClocks_boot]; split <;> simp
@[simp] theorem elapse_graze (us : Nat) (s : State) : (elapse us s).graze = s.graze := by
  simp only [elapse, State.modSup_graze, elapseClocks_graze]; split <;> simp
@[simp] theorem elapse_tab (us : Nat) (s : State) : (elapse us s).tab = s.tab := by
  simp only [elapse, State.modSup_tab, elapseClocks_tab]; split <;> simp
@[simp] theorem elapse_reqs (us : Nat) (s : State) : (elapse us s).reqs = s.reqs := by
  simp only [elapse, State.modSup_reqs, elapseClocks_reqs]; split <;> simp
@[simp] theorem elapse_waitNo (us : Nat) (s : State) : (elapse us s).waitNo = s.waitNo := by
  simp only [elapse, State.modSup_waitNo, elapseClocks_waitNo]; split <;> simp
@[simp] theorem elapse_starts (us : Nat) (s : State) : (elapse us s).starts = s.starts := by
  simp only [elapse, State.modSup_starts, elapseClocks_starts]; split <;> simp
@[simp] theorem elapse_probeNext (us : Nat) (s : State) : (elapse us s).probeNext = s.probeNext := by
  simp only [elapse, State.modSup_probeNext, elapseClocks_probeNext]; split <;> simp
@[simp] theorem elapse_probe (us : Nat) (s : State) : (elapse us s).probe = s.probe := by
  simp only [elapse, State.modSup_probe, elapseClocks_probe]; split <;> simp

/-! `forwardTo` -/

@[simp] theorem forwardTo_pending (t : Option Nat) (s : State) : (forwardTo t s).pending = s.pending := by
  unfold forwardTo; split <;> (try split) <;> simp
@[simp] theorem forwardTo_fresh (t : Option Nat) (s : State) : (forwardTo t s).fresh = s.fresh := by
  unfold forwardTo; split <;> (try split) <;> simp
@[simp] theorem forwardTo_par (t : Option Nat) (s : State) : (forwardTo t s).par = s.par := by
  unfold forwardTo; split <;> (try split) <;> simp
@[simp] theorem forwardTo_shadow (t : Option Nat) (s : State) : (forwardTo t s).shadow = s.shadow := by
  unfold forwardTo; split <;> (try split) <;> simp
@[simp] theorem forwardTo_safShadow (t : Option Nat) (s : State) : (forwardTo t s).safShadow = s.safShadow := by
  unfold forwardTo; split <;> (try split) <;> simp
@[simp] theorem forwardTo_dw (t : Option Nat) (s : State) : (forwardTo t s).dw = s.dw := by
  unfold forwardTo; split <;> (try split) <;> simp
@[simp] theorem forwardTo_saf (t : Option Nat) (s : State) : (forwardTo t s).saf = s.saf := by
  unfold forwardTo; split <;> (try split) <;> simp
@[simp] theorem forwardTo_io (t : Option Nat) (s : State) : (forwardTo t s).io = s.io := by
  unfold forwardTo; split <;> (try split) <;> simp
@[simp] theorem forwardTo_groups (t : Option Nat) (s : State) : (forwardTo t s).groups = s.groups := by
  unfold forwardTo; split <;> (try split) <;> simp
@[simp] theorem forwardTo_stations (t : Option Nat) (s : State) : (forwardTo t s).stations = s.stations := by
  unfold forwardTo; split <;> (try split) <;> simp
@[simp] theorem forwardTo_link (t : Option Nat) (s : State) : (forwardTo t s).link = s.link := by
  unfold forwardTo; split <;> (try split) <;> simp
@[simp] theorem forwardTo_logic (t : Option Nat) (s : State) : (forwardTo t s).logic = s.logic := by
  unfold forwardTo; split <;> (try split) <;> simp
@[simp] theorem forwardTo_kcp (t : Option Nat) (s : State) : (forwardTo t s).kcp = s.kcp := by
  unfold forwardTo; split <;> (try split) <;> simp
@[simp] theorem forwardTo_net (t : Option Nat) (s : State) : (forwardTo t s).net = s.net := by
  unfold forwardTo; split <;> (try split) <;> simp
@[simp] theorem forwardTo_herd (t : Option Nat) (s : State) : (forwardTo t s).herd = s.herd := by
  unfold forwardTo; split <;> (try split) <;> simp
@[simp] theorem forwardTo_ev (t : Option Nat) (s : State) : (forwardTo t s).ev = s.ev := by
  unfold forwardTo; split <;> (try split) <;> simp
@[simp] theorem forwardTo_boot (t : Option Nat) (s : State) : (forwardTo t s).boot = s.boot := by
  unfold forwardTo; split <;> (try split) <;> simp
@[simp] theorem forwardTo_graze (t : Option Nat) (s : State) : (forwardTo t s).graze = s.graze := by
  unfold forwardTo; split <;> (try split) <;> simp
@[simp] theorem forwardTo_tab (t : Option Nat) (s : State) : (forwardTo t s).tab = s.tab := by
  unfold forwardTo; split <;> (try split) <;> simp
@[simp] theorem forwardTo_reqs (t : Option Nat) (s : State) : (forwardTo t s).reqs = s.reqs := by
  unfold forwardTo; split <;> (try split) <;> simp
@[simp] theorem forwardTo_waitNo (t : Option Nat) (s : State) : (forwardTo t s).waitNo = s.waitNo := by
  unfold forwardTo; split <;> (try split) <;> simp
@[simp] theorem forwardTo_starts (t : Option Nat) (s : State) : (forwardTo t s).starts = s.starts := by
  unfold forwardTo; split <;> (try split) <;> simp
@[simp] theorem forwardTo_probeNext (t : Option Nat) (s : State) : (forwardTo t s).probeNext = s.probeNext := by
  unfold forwardTo; split <;> (try split) <;> simp
@[simp] theorem forwardTo_probe (t : Option Nat) (s : State) : (forwardTo t s).probe = s.probe := by
  unfold forwardTo; split <;> (try split) <;> simp

/-! ## What raising and passing time do -/

@[simp] theorem elapse_us (us : Nat) (s : State) : (elapse us s).us = s.us + us := by
  simp only [elapse, State.modSup_us, elapseClocks_us]

/-- The clock is moved to a moment that has not passed, and never back. -/
@[simp] theorem forwardTo_us (t : Nat) (s : State) : (forwardTo (some t) s).us = max s.us t := by
  simp only [forwardTo]; split
  · simp; omega
  · omega

theorem setFold_keeps (v : Events) (r : Nat) (f : Option Fold) :
    (v.setFold r f).raiseSeq = v.raiseSeq ∧ (v.setFold r f).sticky = v.sticky ∧ (v.setFold r f).pending = v.pending ∧
    (v.setFold r f).lastRaise = v.lastRaise ∧ (v.setFold r f).injVec = v.injVec := by
  simp only [Events.setFold]; split <;> simp

/-- Writing the record of a raise changes no vector and no counter of the event sources. -/
theorem recordRaise_keeps {β : Type} (g : Events → β) (hg : ∀ v r f, g (v.setFold r f) = g v) (e og d : Nat) (i : Bool)
    (s : State) : g (recordRaise e og d i s).ev = g s.ev := by
  have h (l : List Nat) (b : Bool) : g (l.foldl (recordIn e og d i b) s).ev = g s.ev :=
    foldl_keeps (fun s => g s.ev) _ (by
      intro s r; simp only [recordIn]; split
      · simp [foldInto, rewriteRec, hg]
      · split <;> simp [newEvent, hg]) l s
  simp only [recordRaise]; split <;> simp only [noteRaise_ev, h]

/-- A raise of a source that is on: counted once, STICKY set, the time of the raise noted (R458). -/
theorem raise_raisedOnce {e : Nat} (d : Nat) {s : State} (he : e < 256) (h : sourceOn s e = true) :
    RaisedOnce e s (raise e d s) := by
  unfold raise raiseBy
  rw [if_pos h]
  refine ⟨?_, ?_, ?_⟩
  · rw [recordRaise_keeps Events.raiseSeq (fun v r f => (setFold_keeps v r f).1)]; split <;> simp
  · rw [recordRaise_keeps (fun v => vget v.sticky e false) (fun v r f => by simp [(setFold_keeps v r f).2.1])]
    split <;> simp [vget, vset, he]
  · have h1 (t : State) := recordRaise_keeps Events.lastRaise (fun v r f => (setFold_keeps v r f).2.2.2.1) e 0 d false t
    have h2 (t : State) := recordRaise_keeps Events.raiseSeq (fun v r f => (setFold_keeps v r f).1) e 0 d false t
    rw [h1, h2]; split <;> simp

/-- A source that is not on is not raised (R457). -/
theorem raise_off {e : Nat} (d : Nat) {s : State} (h : sourceOn s e = false) : raise e d s = s := by
  simp [raise, raiseBy, h]

end Sys2Proof.Machine
end

