-- ==== Sys2Proof/Laws/Sending.lean ====
section
/-! SUPPORT. Everything that sending a frame or a reply can change: the counters of the ports and the frames sent, and for a
reply the outbox of the protocol. -/

namespace Sys2Proof.Machine


/-! `netCount` -/

@[simp] theorem netCount_pending (p k : Nat) (s : State) : (netCount p k s).pending = s.pending := by
  simp [netCount]
@[simp] theorem netCount_us (p k : Nat) (s : State) : (netCount p k s).us = s.us := by
  simp [netCount]
@[simp] theorem netCount_fresh (p k : Nat) (s : State) : (netCount p k s).fresh = s.fresh := by
  simp [netCount]
@[simp] theorem netCount_par (p k : Nat) (s : State) : (netCount p k s).par = s.par := by
  simp [netCount]
@[simp] theorem netCount_shadow (p k : Nat) (s : State) : (netCount p k s).shadow = s.shadow := by
  simp [netCount]
@[simp] theorem netCount_safShadow (p k : Nat) (s : State) : (netCount p k s).safShadow = s.safShadow := by
  simp [netCount]
@[simp] theorem netCount_ax (p k : Nat) (s : State) : (netCount p k s).ax = s.ax := by
  simp [netCount]
@[simp] theorem netCount_dw (p k : Nat) (s : State) : (netCount p k s).dw = s.dw := by
  simp [netCount]
@[simp] theorem netCount_saf (p k : Nat) (s : State) : (netCount p k s).saf = s.saf := by
  simp [netCount]
@[simp] theorem netCount_io (p k : Nat) (s : State) : (netCount p k s).io = s.io := by
  simp [netCount]
@[simp] theorem netCount_groups (p k : Nat) (s : State) : (netCount p k s).groups = s.groups := by
  simp [netCount]
@[simp] theorem netCount_stations (p k : Nat) (s : State) : (netCount p k s).stations = s.stations := by
  simp [netCount]
@[simp] theorem netCount_link (p k : Nat) (s : State) : (netCount p k s).link = s.link := by
  simp [netCount]
@[simp] theorem netCount_logic (p k : Nat) (s : State) : (netCount p k s).logic = s.logic := by
  simp [netCount]
@[simp] theorem netCount_kcp (p k : Nat) (s : State) : (netCount p k s).kcp = s.kcp := by
  simp [netCount]
@[simp] theorem netCount_time (p k : Nat) (s : State) : (netCount p k s).time = s.time := by
  simp [netCount]
@[simp] theorem netCount_herd (p k : Nat) (s : State) : (netCount p k s).herd = s.herd := by
  simp [netCount]
@[simp] theorem netCount_jrn (p k : Nat) (s : State) : (netCount p k s).jrn = s.jrn := by
  simp [netCount]
@[simp] theorem netCount_ev (p k : Nat) (s : State) : (netCount p k s).ev = s.ev := by
  simp [netCount]
@[simp] theorem netCount_boot (p k : Nat) (s : State) : (netCount p k s).boot = s.boot := by
  simp [netCount]
@[simp] theorem netCount_sup (p k : Nat) (s : State) : (netCount p k s).sup = s.sup := by
  simp [netCount]
@[simp] theorem netCount_graze (p k : Nat) (s : State) : (netCount p k s).graze = s.graze := by
  simp [netCount]
@[simp] theorem netCount_tab (p k : Nat) (s : State) : (netCount p k s).tab = s.tab := by
  simp [netCount]
@[simp] theorem netCount_reqs (p k : Nat) (s : State) : (netCount p k s).reqs = s.reqs := by
  simp [netCount]
@[simp] theorem netCount_waitNo (p k : Nat) (s : State) : (netCount p k s).waitNo = s.waitNo := by
  simp [netCount]
@[simp] theorem netCount_starts (p k : Nat) (s : State) : (netCount p k s).starts = s.starts := by
  simp [netCount]
@[simp] theorem netCount_probeNext (p k : Nat) (s : State) : (netCount p k s).probeNext = s.probeNext := by
  simp [netCount]
@[simp] theorem netCount_probe (p k : Nat) (s : State) : (netCount p k s).probe = s.probe := by
  simp [netCount]

/-! `countWires` -/

@[simp] theorem countWires_pending (l : List Wire) (s : State) : (countWires l s).pending = s.pending := by
  unfold countWires
  have h := foldl_keeps State.pending (fun s (w : Wire) => netCount w.port 1 s) (by simp) l s
  simp only []
  split <;> simp [h]
@[simp] theorem countWires_us (l : List Wire) (s : State) : (countWires l s).us = s.us := by
  unfold countWires
  have h := foldl_keeps State.us (fun s (w : Wire) => netCount w.port 1 s) (by simp) l s
  simp only []
  split <;> simp [h]
@[simp] theorem countWires_fresh (l : List Wire) (s : State) : (countWires l s).fresh = s.fresh := by
  unfold countWires
  have h := foldl_keeps State.fresh (fun s (w : Wire) => netCount w.port 1 s) (by simp) l s
  simp only []
  split <;> simp [h]
@[simp] theorem countWires_par (l : List Wire) (s : State) : (countWires l s).par = s.par := by
  unfold countWires
  have h := foldl_keeps State.par (fun s (w : Wire) => netCount w.port 1 s) (by simp) l s
  simp only []
  split <;> simp [h]
@[simp] theorem countWires_shadow (l : List Wire) (s : State) : (countWires l s).shadow = s.shadow := by
  unfold countWires
  have h := foldl_keeps State.shadow (fun s (w : Wire) => netCount w.port 1 s) (by simp) l s
  simp only []
  split <;> simp [h]
@[simp] theorem countWires_safShadow (l : List Wire) (s : State) : (countWires l s).safShadow = s.safShadow := by
  unfold countWires
  have h := foldl_keeps State.safShadow (fun s (w : Wire) => netCount w.port 1 s) (by simp) l s
  simp only []
  split <;> simp [h]
@[simp] theorem countWires_ax (l : List Wire) (s : State) : (countWires l s).ax = s.ax := by
  unfold countWires
  have h := foldl_keeps State.ax (fun s (w : Wire) => netCount w.port 1 s) (by simp) l s
  simp only []
  split <;> simp [h]
@[simp] theorem countWires_dw (l : List Wire) (s : State) : (countWires l s).dw = s.dw := by
  unfold countWires
  have h := foldl_keeps State.dw (fun s (w : Wire) => netCount w.port 1 s) (by simp) l s
  simp only []
  split <;> simp [h]
@[simp] theorem countWires_saf (l : List Wire) (s : State) : (countWires l s).saf = s.saf := by
  unfold countWires
  have h := foldl_keeps State.saf (fun s (w : Wire) => netCount w.port 1 s) (by simp) l s
  simp only []
  split <;> simp [h]
@[simp] theorem countWires_io (l : List Wire) (s : State) : (countWires l s).io = s.io := by
  unfold countWires
  have h := foldl_keeps State.io (fun s (w : Wire) => netCount w.port 1 s) (by simp) l s
  simp only []
  split <;> simp [h]
@[simp] theorem countWires_groups (l : List Wire) (s : State) : (countWires l s).groups = s.groups := by
  unfold countWires
  have h := foldl_keeps State.groups (fun s (w : Wire) => netCount w.port 1 s) (by simp) l s
  simp only []
  split <;> simp [h]
@[simp] theorem countWires_stations (l : List Wire) (s : State) : (countWires l s).stations = s.stations := by
  unfold countWires
  have h := foldl_keeps State.stations (fun s (w : Wire) => netCount w.port 1 s) (by simp) l s
  simp only []
  split <;> simp [h]
@[simp] theorem countWires_link (l : List Wire) (s : State) : (countWires l s).link = s.link := by
  unfold countWires
  have h := foldl_keeps State.link (fun s (w : Wire) => netCount w.port 1 s) (by simp) l s
  simp only []
  split <;> simp [h]
@[simp] theorem countWires_logic (l : List Wire) (s : State) : (countWires l s).logic = s.logic := by
  unfold countWires
  have h := foldl_keeps State.logic (fun s (w : Wire) => netCount w.port 1 s) (by simp) l s
  simp only []
  split <;> simp [h]
@[simp] theorem countWires_kcp (l : List Wire) (s : State) : (countWires l s).kcp = s.kcp := by
  unfold countWires
  have h := foldl_keeps State.kcp (fun s (w : Wire) => netCount w.port 1 s) (by simp) l s
  simp only []
  split <;> simp [h]
@[simp] theorem countWires_time (l : List Wire) (s : State) : (countWires l s).time = s.time := by
  unfold countWires
  have h := foldl_keeps State.time (fun s (w : Wire) => netCount w.port 1 s) (by simp) l s
  simp only []
  split <;> simp [h]
@[simp] theorem countWires_herd (l : List Wire) (s : State) : (countWires l s).herd = s.herd := by
  unfold countWires
  have h := foldl_keeps State.herd (fun s (w : Wire) => netCount w.port 1 s) (by simp) l s
  simp only []
  split <;> simp [h]
@[simp] theorem countWires_jrn (l : List Wire) (s : State) : (countWires l s).jrn = s.jrn := by
  unfold countWires
  have h := foldl_keeps State.jrn (fun s (w : Wire) => netCount w.port 1 s) (by simp) l s
  simp only []
  split <;> simp [h]
@[simp] theorem countWires_ev (l : List Wire) (s : State) : (countWires l s).ev = s.ev := by
  unfold countWires
  have h := foldl_keeps State.ev (fun s (w : Wire) => netCount w.port 1 s) (by simp) l s
  simp only []
  split <;> simp [h]
@[simp] theorem countWires_boot (l : List Wire) (s : State) : (countWires l s).boot = s.boot := by
  unfold countWires
  have h := foldl_keeps State.boot (fun s (w : Wire) => netCount w.port 1 s) (by simp) l s
  simp only []
  split <;> simp [h]
@[simp] theorem countWires_sup (l : List Wire) (s : State) : (countWires l s).sup = s.sup := by
  unfold countWires
  have h := foldl_keeps State.sup (fun s (w : Wire) => netCount w.port 1 s) (by simp) l s
  simp only []
  split <;> simp [h]
@[simp] theorem countWires_graze (l : List Wire) (s : State) : (countWires l s).graze = s.graze := by
  unfold countWires
  have h := foldl_keeps State.graze (fun s (w : Wire) => netCount w.port 1 s) (by simp) l s
  simp only []
  split <;> simp [h]
@[simp] theorem countWires_tab (l : List Wire) (s : State) : (countWires l s).tab = s.tab := by
  unfold countWires
  have h := foldl_keeps State.tab (fun s (w : Wire) => netCount w.port 1 s) (by simp) l s
  simp only []
  split <;> simp [h]
@[simp] theorem countWires_reqs (l : List Wire) (s : State) : (countWires l s).reqs = s.reqs := by
  unfold countWires
  have h := foldl_keeps State.reqs (fun s (w : Wire) => netCount w.port 1 s) (by simp) l s
  simp only []
  split <;> simp [h]
@[simp] theorem countWires_waitNo (l : List Wire) (s : State) : (countWires l s).waitNo = s.waitNo := by
  unfold countWires
  have h := foldl_keeps State.waitNo (fun s (w : Wire) => netCount w.port 1 s) (by simp) l s
  simp only []
  split <;> simp [h]
@[simp] theorem countWires_starts (l : List Wire) (s : State) : (countWires l s).starts = s.starts := by
  unfold countWires
  have h := foldl_keeps State.starts (fun s (w : Wire) => netCount w.port 1 s) (by simp) l s
  simp only []
  split <;> simp [h]
@[simp] theorem countWires_probeNext (l : List Wire) (s : State) : (countWires l s).probeNext = s.probeNext := by
  unfold countWires
  have h := foldl_keeps State.probeNext (fun s (w : Wire) => netCount w.port 1 s) (by simp) l s
  simp only []
  split <;> simp [h]
@[simp] theorem countWires_probe (l : List Wire) (s : State) : (countWires l s).probe = s.probe := by
  unfold countWires
  have h := foldl_keeps State.probe (fun s (w : Wire) => netCount w.port 1 s) (by simp) l s
  simp only []
  split <;> simp [h]

/-! `send` -/

@[simp] theorem send_pending (x : Sent) (s : State) : (send x s).pending = s.pending := by
  simp [send]
@[simp] theorem send_us (x : Sent) (s : State) : (send x s).us = s.us := by
  simp [send]
@[simp] theorem send_fresh (x : Sent) (s : State) : (send x s).fresh = s.fresh := by
  simp [send]
@[simp] theorem send_par (x : Sent) (s : State) : (send x s).par = s.par := by
  simp [send]
@[simp] theorem send_shadow (x : Sent) (s : State) : (send x s).shadow = s.shadow := by
  simp [send]
@[simp] theorem send_safShadow (x : Sent) (s : State) : (send x s).safShadow = s.safShadow := by
  simp [send]
@[simp] theorem send_ax (x : Sent) (s : State) : (send x s).ax = s.ax := by
  simp [send]
@[simp] theorem send_dw (x : Sent) (s : State) : (send x s).dw = s.dw := by
  simp [send]
@[simp] theorem send_saf (x : Sent) (s : State) : (send x s).saf = s.saf := by
  simp [send]
@[simp] theorem send_io (x : Sent) (s : State) : (send x s).io = s.io := by
  simp [send]
@[simp] theorem send_groups (x : Sent) (s : State) : (send x s).groups = s.groups := by
  simp [send]
@[simp] theorem send_stations (x : Sent) (s : State) : (send x s).stations = s.stations := by
  simp [send]
@[simp] theorem send_link (x : Sent) (s : State) : (send x s).link = s.link := by
  simp [send]
@[simp] theorem send_logic (x : Sent) (s : State) : (send x s).logic = s.logic := by
  simp [send]
@[simp] theorem send_kcp (x : Sent) (s : State) : (send x s).kcp = s.kcp := by
  simp [send]
@[simp] theorem send_time (x : Sent) (s : State) : (send x s).time = s.time := by
  simp [send]
@[simp] theorem send_herd (x : Sent) (s : State) : (send x s).herd = s.herd := by
  simp [send]
@[simp] theorem send_jrn (x : Sent) (s : State) : (send x s).jrn = s.jrn := by
  simp [send]
@[simp] theorem send_ev (x : Sent) (s : State) : (send x s).ev = s.ev := by
  simp [send]
@[simp] theorem send_boot (x : Sent) (s : State) : (send x s).boot = s.boot := by
  simp [send]
@[simp] theorem send_sup (x : Sent) (s : State) : (send x s).sup = s.sup := by
  simp [send]
@[simp] theorem send_graze (x : Sent) (s : State) : (send x s).graze = s.graze := by
  simp [send]
@[simp] theorem send_tab (x : Sent) (s : State) : (send x s).tab = s.tab := by
  simp [send]
@[simp] theorem send_reqs (x : Sent) (s : State) : (send x s).reqs = s.reqs := by
  simp [send]
@[simp] theorem send_waitNo (x : Sent) (s : State) : (send x s).waitNo = s.waitNo := by
  simp [send]
@[simp] theorem send_starts (x : Sent) (s : State) : (send x s).starts = s.starts := by
  simp [send]
@[simp] theorem send_probeNext (x : Sent) (s : State) : (send x s).probeNext = s.probeNext := by
  simp [send]
@[simp] theorem send_probe (x : Sent) (s : State) : (send x s).probe = s.probe := by
  simp [send]

/-! `emit` -/

@[simp] theorem emit_pending (r : Reply) (s : State) : (emit r s).pending = s.pending := by
  simp [emit]
@[simp] theorem emit_us (r : Reply) (s : State) : (emit r s).us = s.us := by
  simp [emit]
@[simp] theorem emit_fresh (r : Reply) (s : State) : (emit r s).fresh = s.fresh := by
  simp [emit]
@[simp] theorem emit_par (r : Reply) (s : State) : (emit r s).par = s.par := by
  simp [emit]
@[simp] theorem emit_shadow (r : Reply) (s : State) : (emit r s).shadow = s.shadow := by
  simp [emit]
@[simp] theorem emit_safShadow (r : Reply) (s : State) : (emit r s).safShadow = s.safShadow := by
  simp [emit]
@[simp] theorem emit_ax (r : Reply) (s : State) : (emit r s).ax = s.ax := by
  simp [emit]
@[simp] theorem emit_dw (r : Reply) (s : State) : (emit r s).dw = s.dw := by
  simp [emit]
@[simp] theorem emit_saf (r : Reply) (s : State) : (emit r s).saf = s.saf := by
  simp [emit]
@[simp] theorem emit_io (r : Reply) (s : State) : (emit r s).io = s.io := by
  simp [emit]
@[simp] theorem emit_groups (r : Reply) (s : State) : (emit r s).groups = s.groups := by
  simp [emit]
@[simp] theorem emit_stations (r : Reply) (s : State) : (emit r s).stations = s.stations := by
  simp [emit]
@[simp] theorem emit_link (r : Reply) (s : State) : (emit r s).link = s.link := by
  simp [emit]
@[simp] theorem emit_logic (r : Reply) (s : State) : (emit r s).logic = s.logic := by
  simp [emit]
@[simp] theorem emit_time (r : Reply) (s : State) : (emit r s).time = s.time := by
  simp [emit]
@[simp] theorem emit_herd (r : Reply) (s : State) : (emit r s).herd = s.herd := by
  simp [emit]
@[simp] theorem emit_jrn (r : Reply) (s : State) : (emit r s).jrn = s.jrn := by
  simp [emit]
@[simp] theorem emit_ev (r : Reply) (s : State) : (emit r s).ev = s.ev := by
  simp [emit]
@[simp] theorem emit_boot (r : Reply) (s : State) : (emit r s).boot = s.boot := by
  simp [emit]
@[simp] theorem emit_sup (r : Reply) (s : State) : (emit r s).sup = s.sup := by
  simp [emit]
@[simp] theorem emit_graze (r : Reply) (s : State) : (emit r s).graze = s.graze := by
  simp [emit]
@[simp] theorem emit_tab (r : Reply) (s : State) : (emit r s).tab = s.tab := by
  simp [emit]
@[simp] theorem emit_reqs (r : Reply) (s : State) : (emit r s).reqs = s.reqs := by
  simp [emit]
@[simp] theorem emit_waitNo (r : Reply) (s : State) : (emit r s).waitNo = s.waitNo := by
  simp [emit]
@[simp] theorem emit_starts (r : Reply) (s : State) : (emit r s).starts = s.starts := by
  simp [emit]
@[simp] theorem emit_probeNext (r : Reply) (s : State) : (emit r s).probeNext = s.probeNext := by
  simp [emit]
@[simp] theorem emit_probe (r : Reply) (s : State) : (emit r s).probe = s.probe := by
  simp [emit]

@[simp] theorem emit_sessions (r : Reply) (s : State) : (emit r s).kcp.sessions = s.kcp.sessions := by
  simp [emit]
@[simp] theorem emit_outbox (r : Reply) (s : State) :
    (emit r s).kcp.outbox = s.kcp.outbox ++ [{ r with wires := replyWires s r }] := by
  simp [emit]

/-- A frame that the module sends stands at the end of the frames sent, with its copies. -/
theorem send_sent (x : Sent) (s : State) : (send x s).net.sent = s.net.sent ++ [(x, wiresOf s x)] := by
  have h : ∀ (l : List Wire) (s : State), (countWires l s).net.sent = s.net.sent := by
    intro l s
    have h1 := foldl_keeps (fun s : State => s.net.sent) (fun s (w : Wire) => netCount w.port 1 s) (by intro s w; rfl) l s
    unfold countWires
    simp only []
    split
    · exact h1
    · exact h1
  simp [send, h]

end Sys2Proof.Machine
end

