-- ==== Sys2Proof/WellFormed.lean ====
section
/-! DEFINITION. Which commands are well formed: every operand fits the field, the frame or the list it stands for. -/

namespace Sys2Proof

/-- A number that fits a field of so many bits. -/
def fits (bits n : Nat) : Bool := decide (n < 2 ^ bits)

/-- A KCP request whose header fields fit R286 and whose payload fits R285. -/
def reqOk (q : Req) : Bool :=
  fits 32 q.src && fits 16 q.srcPort && fits 16 q.seq && fits 32 q.session && fits 16 q.target && decide (q.payload.length ≤ 1428)
    && q.rest.length = 8

/-- A scalar write: the request, and a value of at most 32 bits, signed or not (R319). -/
def regOk (w : RegWrite) : Bool := reqOk w.req && decide (-2147483648 ≤ w.value) && decide (w.value < 4294967296)

/-- The bytes of a block or of a received frame. -/
def bytesOk (b : Bytes) : Bool := fits 16 b.length

/-- What a lane reads in a slot: four safe output pairs and at most 24 axes. -/
def slotOk (m : SlotIn) : Bool :=
  m.hsSense.length = 4 && m.lsSense.length = 4 && m.soCurrent.length = 4 && decide (m.axisCurrent.length ≤ 24)

/-- The phase currents of at most 24 axes and the samples of at most 112 pins. -/
def tickOk (m : TickIn) : Bool := decide (m.currents.length ≤ 24) && decide (m.bridges.length ≤ 24) && decide (m.pins.length ≤ 112)

/-- A frame of at most 1,500 bytes of content with header fields that fit. -/
def frameOk (f : Frame) : Bool :=
  fits 32 f.src && fits 16 f.srcPort && fits 16 f.prpSeq && decide (f.data.length ≤ 1500)

/-- A command is well formed. -/
def Instr.wellFormed : Instr → Bool
  | .hello q => reqOk q
  | .login q => reqOk q
  | .logout q => reqOk q
  | .keepalive q => reqOk q
  | .paramRead q => reqOk q
  | .paramWrite q => reqOk q
  | .blockRead q => reqOk q
  | .blockWrite q => reqOk q
  | .safVerify q => reqOk q
  | .safVerifyDone => true
  | .safCommit q => reqOk q
  | .revertOwnerShadow q => reqOk q
  | .revertAllShadows q => reqOk q
  | .revertSafetyShadow q => reqOk q
  | .revertDefaultSet q => reqOk q
  | .eventPoll q => reqOk q
  | .eventAck q => reqOk q
  | .eventInject q => reqOk q
  | .openRequest q => reqOk q
  | .closeRequest q => reqOk q
  | .holdOpen q => reqOk q
  | .isolate q => reqOk q
  | .deisolate q => reqOk q
  | .doorStatus q => reqOk q
  | .moveAbs q => reqOk q
  | .moveRel q => reqOk q
  | .stop q => reqOk q
  | .quickStop q => reqOk q
  | .home q => reqOk q
  | .jog q => reqOk q
  | .park q => reqOk q
  | .enable q => reqOk q
  | .disable q => reqOk q
  | .planLoad q => reqOk q
  | .planLoadCheckDone => true
  | .planExchange q => reqOk q
  | .logicRunWarm q => reqOk q
  | .logicRunCold q => reqOk q
  | .logicStop q => reqOk q
  | .logicHold q => reqOk q
  | .logicStep q => reqOk q
  | .varRead q => reqOk q
  | .varForce q => reqOk q
  | .varForceRelease q => reqOk q
  | .jrnRead q => reqOk q
  | .jrnStats q => reqOk q
  | .jrnSeal q => reqOk q
  | .jrnStreamOpen q => reqOk q
  | .jrnStreamCredit q => reqOk q
  | .jrnStreamClose q => reqOk q
  | .streamPacket => true
  | .timeStatus q => reqOk q
  | .timeAcceptStep q => reqOk q
  | .herdStatus q => reqOk q
  | .herdModePrepare q => reqOk q
  | .herdModeAbort q => reqOk q
  | .grazeNow q => reqOk q
  | .grazeReport q => reqOk q
  | .fwBegin q => reqOk q
  | .fwChunk q => reqOk q
  | .fwVerify q => reqOk q
  | .fwVerifyDone => true
  | .fwActivateAtPowerUp q => reqOk q
  | .fwActivateNow q => reqOk q
  | .kcpForwardReply member seq status detail body => decide (member < 32) && fits 16 seq && fits 16 status && fits 16 detail && bytesOk body.bytes
  | .kcpForwardTimeout member seq => decide (member < 32) && fits 16 seq
  | .sessionKeepaliveExpiry session => fits 32 session
  | .loginLockoutEnd src => fits 32 src
  | .jogRefreshTimeout _ => true
  | .teach _ w => regOk w
  | .restart w => regOk w
  | .recheck w => regOk w
  | .cntClear w => regOk w
  | .stageFaultClear _ w => regOk w
  | .soStatusClear _ w => regOk w
  | .soClearTest _ _ => true
  | .ioStatusClear _ w => regOk w
  | .ioModeWrite _ w => regOk w
  | .ioOutWrite _ w => regOk w
  | .powerModeRun q => reqOk q
  | .powerModeStandby q => reqOk q
  | .powerModeSleep q => reqOk q
  | .grazeFastWrite w => regOk w
  | .herdConfigWrite _ w => regOk w
  | .herdEligibleWrite w => regOk w
  | .netPortWrite _ w => regOk w
  | .fsEnableWrite _ w => regOk w
  | .latchCfgWrite _ _ w => regOk w
  | .cmpWrite _ _ q data => reqOk q && bytesOk data
  | .lcTableWrite _ q data => reqOk q && bytesOk data
  | .camWrite _ q data => reqOk q && bytesOk data
  | .sineWrite _ q data => reqOk q && bytesOk data
  | .keyWrite _ q data => reqOk q && bytesOk data
  | .laneSlot _ m => slotOk m
  | .crossLaneExchange => true
  | .laneDisagreement => true
  | .laneTickWindow _ cycles => fits 32 cycles
  | .laneTickMissing _ => true
  | .lockstepMismatch => true
  | .ibexWatchdog => true
  | .chamoisWatchdog => true
  | .safeContactChange _ _ _ _ => true
  | .contactFilterExpiry _ _ _ => true
  | .discrepancyExpiry _ _ => true
  | .resetStuck _ => true
  | .dlOnDelayExpiry _ => true
  | .soTestPulse => true
  | .soTestPulseEnd _ _ => true
  | .soSwitchFail _ _ _ => true
  | .soOverload _ mA => fits 32 mA
  | .soOpenLoad _ mA => fits 32 mA
  | .closingCurrentTrip _ => true
  | .safeStopTimeout _ => true
  | .kscCopyRx _ _ src data => fits 32 src && bytesOk data
  | .kscPairWindowEnd _ => true
  | .kscWatchdogExpiry _ => true
  | .kscTxCycle => true
  | .fabricTick m => tickOk m
  | .encoderEdge _ _ => true
  | .wireDisagreement _ _ => true
  | .indexEdge _ _ => true
  | .latchEdgeCapture _ _ _ ageNs => fits 32 ageNs
  | .ssiFrameStart _ _ => true
  | .ssiFrameEnd _ value status _ => fits 32 value && fits 16 status
  | .envelopeBreach _ => true
  | .deviation _ => true
  | .energyCapHit _ => true
  | .loadAngleMeasurement _ _ => true
  | .homeStopReached _ => true
  | .homeSwitchEdge _ _ => true
  | .homeMaxDistExceeded _ => true
  | .homeSettleEnd _ => true
  | .homeRetryDelayEnd _ => true
  | .profileEnd _ => true
  | .stopRampEnd _ => true
  | .holdDelayExpiry _ => true
  | .enableRampEnd _ => true
  | .parkRampEnd _ => true
  | .parkWriteConfirmed _ => true
  | .disableRampEnd _ => true
  | .stoReadback _ _ _ => true
  | .stoDwellEnd _ => true
  | .deratingRecompute _ => true
  | .overcurrent _ => true
  | .shortToGround _ _ => true
  | .shortToDrive _ _ => true
  | .openPhase _ _ => true
  | .overtemperatureWarning _ _ => true
  | .overtemperature _ _ => true
  | .driveUndervoltage mV => fits 32 mV
  | .driveOvervoltage mV => fits 32 mV
  | .sequencerPass => true
  | .dwellEnd _ => true
  | .warnEnd _ => true
  | .sequencerTimeout _ => true
  | .staggerMaxExpiry _ => true
  | .lockTimeExpiry _ => true
  | .coilPulseEnd _ => true
  | .dwellOverrun _ => true
  | .obstPauseEnd _ => true
  | .parkDelayEnd _ => true
  | .sealContactCheck _ => true
  | .sealStepEnd _ => true
  | .fieldInputFiltered _ _ => true
  | .countEdge _ _ => true
  | .outputOverload _ => true
  | .outputOvertemp _ => true
  | .outputFailOn _ => true
  | .outputOpenLoad p => fits 32 p.mA
  | .demagEnd _ => true
  | .demagOver _ => true
  | .shortCandidate _ => true
  | .reverseCurrent _ => true
  | .probePulse _ _ => true
  | .fieldSupplyMissing _ mV => fits 32 mV
  | .fieldSupplyLow _ mV => fits 32 mV
  | .fieldSupplyRecovered _ mV => fits 32 mV
  | .fgCurrentWarning _ mA => fits 32 mA
  | .fieldCycle => true
  | .frameReturn _ => true
  | .frameReturnTimeout => true
  | .logicSlot => true
  | .taskRunEnd _ us => fits 32 us
  | .taskOverrun _ _ => true
  | .journalWriteDone _ => true
  | .storeNoResponse => true
  | .storeRecheck _ => true
  | .sealPeriodExpiry => true
  | .opTimeStore => true
  | .netFrameRx f => frameOk f
  | .linkLoss _ => true
  | .linkUp _ _ => true
  | .prpSupervisionTx => true
  | .singleLanTimeout _ _ => true
  | .ptpSyncRx _ _ => true
  | .ptpFollowUpRx _ _ => true
  | .ptpDelayRespRx _ rawNs => fits 32 rawNs
  | .ptpAnnounceRx _ _ => true
  | .announceTimeout _ => true
  | .ptpSyncTx _ => true
  | .ptpDelayReqTx _ => true
  | .abDecision => true
  | .stepConfirmExpiry => true
  | .abRecoverExpiry => true
  | .herdCycleBoundary => true
  | .bleatTx => true
  | .bleatRx _ src data => fits 32 src && bytesOk data
  | .bleatWindowClose => true
  | .holdExpiry => true
  | .joinCyclesExpiry => true
  | .voteReqRx _ src data => fits 32 src && bytesOk data
  | .voteRx _ src data => fits 32 src && bytesOk data
  | .voteDeadline => true
  | .masterStepDown => true
  | .mirrorTx => true
  | .mirrorRx _ src data => fits 32 src && bytesOk data
  | .shadowFault => true
  | .powerOn => true
  | .wake => true
  | .logicInterruption => true
  | .logicBridged ms => fits 32 ms
  | .powerFailWarning => true
  | .holdupRelease => true
  | .lowLogic mV => fits 32 mV
  | .prechargeComplete mV ms => fits 32 mV && fits 32 ms
  | .prechargeTimeout => true
  | .prechargeRetry => true
  | .driveInputLoss dischargeMs => fits 32 dischargeMs
  | .driveInputReturn => true
  | .driveBreakerTrip dischargeMs => fits 32 dischargeMs
  | .regenEpisodeEnd mJ => fits 32 mJ
  | .regenLockExpiry => true
  | .insulationMeasurement kOhm => fits 32 kOhm
  | .contactFeedDarkPulse _ _ => true
  | .contactFeedOverload _ => true
  | .contactFeedRetry _ => true
  | .encoderSupplyOverload _ => true
  | .baseTempWarn _ => true
  | .baseTempLimit _ => true
  | .logicTempHot _ => true
  | .laneBootDone _ => true
  | .storeCheckDone _ => true
  | .storeCheckTimeout => true
  | .contactDarkTestEnd _ => true
  | .startStep7 => true
  | .trialConfirmation => true
  | .laneRestartDone _ => true
  | .grazeItemRun _ _ _ => true
  | .grazeStoTestStep _ _ => true
  | .grazeOverdue _ => true
  | .encoderSupplyRetry _ => true
  | .storeMonitorFault => true
  | .parkRecordTimeout _ => true
  | .baseLimitCleared _ => true
  | .otWarnCleared _ _ => true

end Sys2Proof
end

