-- ==== Sys2Proof/Tests/Slice0.lean ====
section
/-! SUPPORT. Tests: ill-formed commands are refused, the premises of the statements are met by concrete states, and single
commands do what the rules say. -/

open Sys2Proof Sys2Proof.Machine

namespace Sys2Proof.Tests

set_option Elab.async false

/-! ## States to test on -/

/-- A session of the SAFETY role, open for the requests below. -/
def session7 : Session :=
  { id := 7, role := 3, port := .netA, src := 1, key := [], nonce := [], h := 0, seen := [], cache := [],
    aliveUntil := 2000000000 }

/-- A module that has started, alone in its herd, in MAINTENANCE, 1,000 s after power-up. -/
def up : State :=
  { State.reset with
    us := 1000000000
    boot := { State.reset.boot with step := 0 }
    herd := { State.reset.herd with mode := .maintenance }
    kcp := { State.reset.kcp with sessions := [session7] } }

/-- A request of session 7 with a target and a payload. -/
def rq (target : Nat) (b : Bytes) : Req :=
  { port := .netA, src := 1, srcPort := 17000, trailer := false, seq := 1, session := 7, auth := true, more := false,
    fwd := false, target := target, payload := b }

/-- A request without a session. -/
def rq0 (b : Bytes) : Req := { rq 0 b with session := 0, auth := false }

/-- Pair p as both lanes evaluate it. -/
def withPair (p : Nat) (r : PairResult) (s : State) : State :=
  { s with saf := { s.saf with
      pairsI := s.saf.pairsI.setIfInBounds p { (s.pair .ibex p) with result := r }
      pairsC := s.saf.pairsC.setIfInBounds p { (s.pair .chamois p) with result := r } } }

/-- The isolation key is turned. -/
def keyed : State := withPair 28 .active up

def withDoor (d : Nat) (x : DState) (s : State) : State := s.modDoor d fun y => { y with leaf := x }

/-- Axis a is energised, at rest, with a valid position, and no lane demands STO of it. -/
def withAxis (a : Nat) (s : State) : State :=
  s.modAxis a fun x => { x with
    drive := { x.drive with state := .standstill, enIbex := true, enChamois := true, demandIbex := false, demandChamois := false }
    fb := { x.fb with status := 0x8000 } }

/-- Axis a runs a profile of the sequencer or of whoever moves it. -/
def withMove (a : Nat) (k : MoveKind) (by_ : MoveBy) (s : State) : State :=
  s.modAxis a fun x => { x with elapsed := some 0, by_ := by_, plan := { x.plan with kind := k, base := k } }

/-! ## States and operands that meet the premises of the statements -/

theorem witness_step : step { up with pending := [.laneDisagreement] } = exec .laneDisagreement up := by rfl

theorem witness_gated : OutputsGated (takeSafeState 0 up) := by
  intro _ o ho
  have h : ∀ o < 4, ((takeSafeState 0 up).out o).hsCmd = false ∧ ((takeSafeState 0 up).out o).lsCmd = false := by decide +kernel
  exact h o ho

theorem witness_unlit : State.lit { up with boot := { up.boot with power := .off } } = false
    ∧ State.lit { up with boot := { up.boot with power := .sleep } } = false := by decide +kernel

/-- A nonce that the module has handed out. -/
def nonceOf : Bytes := [1, 2, 3, 4, 5, 6, 7, 8]

/-- A module with keys for the roles and a nonce waiting for its LOGIN. -/
def atLogin : State :=
  { keyed with
    net := { keyed.net with keys := .replicate 4 (some (zeros 32)) }
    kcp := { keyed.kcp with sessions := [], nonces := [(nonceOf, 1000000001)] } }

def loginReq (role : Nat) : Req := rq0 (le 1 role ++ zeros 3 ++ nonceOf ++ zeros 8)

theorem witness_session :
    Ready up opHello (rq0 []) ∧
    (∀ role ∈ [1, 3], Ready atLogin opLogin (loginReq role) ∧
      loginRefuses (touch 0 atLogin) 1 (loginReq role).payload = none ∧
      keyTurned (useNonce nonceOf (touch 0 atLogin)) = true ∧ (useNonce nonceOf (touch 0 atLogin)).kcp.sessions = []) ∧
    Ready up opLogout (rq 0 []) ∧ Ready up opKeepalive (rq 0 []) ∧
    up.kcp.sessions.find? (fun y => y.id = 7) = some session7 ∧
    get ({ up with kcp := { up.kcp with lockouts := [(1, 1060000000)] } }).kcp.lockouts 1 = some 1060000000 ∧
    forwardOf { up with kcp := { up.kcp with forwards := [(3, 9, rq 0 [], opHello, 1000000000)] } } 3 9
      = some (3, 9, rq 0 [], opHello, 1000000000) := by
  unfold Ready; decide +kernel

/-- One entry of a PARAM_READ or, with a value, of a PARAM_WRITE. -/
def oneEntry (k : Nat) : Bytes := le 2 1 ++ le 2 0 ++ le 4 k

theorem witness_parameter :
    Ready up opParamRead (rq 0 (oneEntry 0x01000001)) ∧ countBad (oneEntry 0x01000001) = false ∧
    Ready up opParamRead (rq 0 (le 2 64 ++ zeros 258)) ∧ countBad (le 2 64 ++ zeros 258) = false ∧
    Ready up opParamWrite (rq 0 (onePayload (.dw 2 .dwellMs) 500)) ∧
    countBad (onePayload (.dw 2 .dwellMs) 500) = false ∧
    Ready up opBlockRead (rq 0 (zeros 12)) ∧
    Ready up opBlockWrite (rq 0 (zeros 16)) := by
  unfold Ready; decide +kernel

theorem witness_safety_configuration :
    Ready keyed opSafVerify (rq 0 []) ∧ ((touch 7 keyed).kcp.progress.any fun e => e.1 = opSafVerify) = false ∧
    keyTurned (touch 7 keyed) = true ∧
    (let s := { keyed with kcp := { keyed.kcp with progress := [(opSafVerify, rq 0 [])] } }
     inProgress s opSafVerify = some (rq 0 []) ∧ (sessionOf s 7).isSome = true ∧ verifyRefuses s = none) ∧
    (let s := { keyed with saf := { keyed.saf with verified := some (7, [], 0) } }
     Ready s opSafCommit (rq 0 (zeros 4)) ∧ commitRefuses (touch 7 s) 7 0 = none) ∧
    (let s := { keyed with saf := { keyed.saf with commit := some (rq 0 (zeros 4), []) } }
     s.saf.commit = some (rq 0 (zeros 4), []) ∧ s.boot.power = .on ∧ laneUp s .ibex = true ∧ laneUp s .chamois = true ∧
     (let s1 := crossLaneExchange s
      (sessionOf (commitDo [] { s1 with saf := { s1.saf with commit := none } }) 7).isSome = true)) ∧
    (∀ t ∈ [0, 0x102, 0x206], Ready up opRevert (rq t (zeros 4))) ∧
    (∀ k ∈ [1, 2], Ready up opRevert (rq 0 (le 4 k))) ∧
    (∀ set ∈ [1, 2], Ready up opRevert (rq 0 (le 1 3 ++ le 3 set)) ∧ rd (le 1 3 ++ le 3 set) 1 1 = set) ∧
    (touch 7 up).effMode = .maintenance ∧ storeFailed (touch 7 up) = false := by
  unfold Ready; decide +kernel

theorem witness_event :
    Ready up opEventPoll (rq 0 []) ∧ Ready up opEventAck (rq 0 (zeros 72)) ∧ ackTooNew (touch 7 up) 0 = false ∧
    (∀ e ∈ [0, 95, 192, 218], Ready up opEventInject (rq (0x500 + e) (zeros 4)) ∧ injectCase (touch 7 up) e = 0 ∧
      sourceOn up e = true) := by
  unfold Ready; decide +kernel

theorem witness_register_cause : bit (up.evN 192 .cfg) 15 = true ∧
    bit ({ up with par := [((Par.ev 192 .cfg).key, 0)] }.evN 192 .cfg) 15 = false := by decide +kernel

theorem witness_door :
    (∀ op ∈ [opOpen, opClose, opHold, opIsolate, opDeisolate, opDoorStatus], ∀ d ∈ [0, 7], Ready up op (rq (0x100 + d) [])) ∧
    Ready up opDoorStatus (rq 0 []) ∧ sequencerRuns up = true ∧ (sessionOf up 7).isSome = true ∧
    ({ up with reqs := [⟨.kcp opOpen (rq 0x102 []), .open_, 2⟩] }).reqs = [⟨.kcp opOpen (rq 0x102 []), .open_, 2⟩] := by
  unfold Ready; decide +kernel

/-- A door whose side is released, in a leaf state, in SERVICE or in another mode. -/
def released (d : Nat) (x : DState) (m : Mode) : State :=
  ({ up with herd := { up.herd with mode := m } }).modDoor d fun y => { y with leaf := x, released := true }

theorem witness_door_requests :
    (released 0 .released .wash).effMode = .wash ∧
    ((released 0 .released .service).door 0).released = true ∧ ((released 0 .released .service).door 0).leaf = .released ∧
    ((released 0 .released .service).door 0).heldOpen = false ∧ grazeOn (released 0 .released .service) 0 = false ∧
    ((released 7 .openDwell .service).door 7).leaf = .openDwell ∧
    ((released 0 .closing .service).door 0).leaf = .closing ∧
    ({ released 0 .closing .service with par := [((Par.dw 0 .reopenOnReq).key, 0)] }).dwp 0 .reopenOnReq ≠ 1 ∧
    ((released 0 .closedNotLocked .service).door 0).leaf = .closedNotLocked ∧
    ((withDoor 7 .faultHold up).door 7).leaf = .faultHold ∧ ((withDoor 7 .isolated up).door 7).leaf = .isolated ∧
    (let s := withPair 0 .active (withPair 1 .active (withPair 2 .active (withDoor 0 .isolated up)))
     provenBoth (setIsolated 0 false s) 0 = true) ∧
    provenBoth (setIsolated 0 false (withDoor 0 .isolated up)) 0 = false := by
  decide +kernel

/-- Doorway 2 isolated in MAINTENANCE, its two leaf axes energised and at rest. -/
def handDoor : State := withAxis 6 (withAxis 7 (withDoor 2 .isolated { up with sup := { up.sup with precharged := true } }))

def movePayload (target : Int) : Bytes := zeros 4 ++ leI 4 100000 ++ leI 4 500000 ++ leI 4 2000000 ++ leI 4 target ++ zeros 8

theorem witness_motion :
    Ready handDoor opMoveAbs (rq 0x206 (movePayload 300000)) ∧ moveShapeOk (rq 0x206 (movePayload 300000)) = true ∧
    Ready handDoor opMoveRel (rq 0x206 (movePayload 300000)) ∧ Ready handDoor opHome (rq 0x206 (zeros 4)) ∧
    Ready handDoor opJog (rq 0x206 (leI 4 50000 ++ zeros 4)) ∧
    (∀ op ∈ [opStop, opQuickStop, opPark, opEnable, opDisable], Ready handDoor op (rq 0x206 [])) ∧
    isMotion .moveAbs = true ∧ conflicts .close .moveAbs = true ∧ conflicts .stop .moveAbs = false ∧
    (sessionOf handDoor 7).isSome = true ∧ (motionRequest .moveAbs (rq 0x206 (movePayload 300000)) handDoor).2.good = true := by
  unfold Ready; decide +kernel

theorem witness_motion_stop :
    tKind (rq 0x206 []).target = 2 ∧ tKind (rq 0x102 []).target ≠ 2 ∧
    (((withMove 6 .point .host handDoor).axesOf 2).filter fun b => moving (withMove 6 .point .host handDoor) b) = [6] ∧
    driveGate handDoor 6 = none ∧ driveGate handDoor 5 = some .doorwayStateForbids ∧ handDoor.sup.precharged = true ∧
    ((withAxis 6 (withDoor 2 .isolated up)).axis 6).drive.energised = true ∧
    ((handDoor.modAxis 6 fun x => { x with jog := some (7, 1000000000, []) }).axis 6).jog = some (7, 1000000000, []) := by
  decide +kernel

/-- A plan of one cyclic task of 1 ms with a budget of 100 µs and one instance, number 5. -/
def plan1 : PlanImg :=
  { id := 1, version := 1, crc := 0, tasks := [⟨false, 0, 0, 100, 0, 0, 1⟩], nCyclic := 1, errorTask := none, insts := [⟨5, 1, 0, 1, false, 0, 0, 0, 0⟩],
    conns := [], safetyPins := .replicate 112 false, dataLen := 0, retainLen := 0 }

def withLogic (f : Logic → Logic) (s : State) : State := { s with logic := f s.logic }

theorem witness_logic :
    (let b : Bytes := le 4 0 ++ le 4 4 ++ le 2 4 ++ zeros 2 ++ zeros 4
     Ready up opPlanLoad (rq 0 b) ∧ ((touch 7 up).kcp.transfers.any fun t => t.key = planKey && t.session ≠ 7) = false ∧
     inProgress (touch 7 up) opPlanLoad = none ∧ rd b 8 2 = 4 ∧
     (stage 7 planKey 4 0 false (zeros 4) (touch 7 up)).2 = some (some (zeros 4)) ∧
     (stage 7 planKey 8 0 true (zeros 4) (touch 7 up)).2 = some none) ∧
    (let s := { up with kcp := { up.kcp with progress := [(opPlanLoad, rq 0 [])], transfers := [⟨7, planKey, 4, zeros 4⟩] } }
     inProgress s opPlanLoad = some (rq 0 []) ∧ (sessionOf s 7).isSome = true ∧
     transferOf s 7 planKey = some ⟨7, planKey, 4, zeros 4⟩) := by
  unfold Ready; decide +kernel

theorem witness_logic_states :
    (let s := withLogic (fun g => { g with staged := some plan1 }) up
     Ready s opPlanExchange (rq 0 []) ∧ (planExchange 7 (touch 7 s)).2.status = .ok) ∧
    (let s := withLogic (fun g => { g with active := some plan1, retained := some (1, 1, 0, []) }) up
     Ready s opLogicRun (rq 0 (zeros 4)) ∧ (logicRun true (touch 7 s)).2.status = .ok ∧
     (logicRun false (touch 7 s)).2.status = .ok ∧ s.logic.state = .stop ∧ s.logic.active.isSome = true ∧
     Ready s opLogicStop (rq 0 []) ∧ s.sup.powerMode = 0) ∧
    (let s := withLogic (fun g => { g with active := some plan1, state := .run }) up
     Ready s opLogicHold (rq 0 []) ∧ (logicHold (touch 7 s)).2.status = .ok ∧ s.logic.running = []) ∧
    (let s := withLogic (fun g => { g with active := some plan1, state := .hold }) up
     Ready s opLogicStep (rq 0x600 []) ∧ (logicStep 0 (touch 7 s)).2.status = .ok) ∧
    Ready up opVarRead (rq 0 (le 2 1 ++ zeros 10)) ∧ countBad (le 2 1 ++ zeros 10) = false ∧
    (let s := withLogic (fun g => { g with active := some plan1 }) up
     let b : Bytes := le 4 5 ++ zeros 4 ++ le 4 1
     Ready s opVarForce (rq 0 b) ∧ (varForce (rd b 0 4) (rd b 4 1) true 1 s).2.status = .ok ∧
     (varForce (rd b 0 4) (rd b 4 1) false 1 s).2.status = .ok) := by
  unfold Ready; decide +kernel

theorem witness_journal :
    Ready up opJrnRead (rq 0 (zeros 16)) ∧ Ready up opJrnStats (rq 0 []) ∧ Ready up opJrnSeal (rq 0 (zeros 4)) ∧
    regFailed (touch 7 up) 3 = false ∧
    (∀ decim ∈ [1, 250], ∀ credit ∈ [1, 65535],
      let b := le 1 0 ++ le 1 decim ++ zeros 2 ++ le 4 1 ++ le 4 credit
      Ready up opJrnStream (rq 0 b) ∧ streamBad b = false ∧ rd b 8 4 = credit) ∧ (touch 7 up).kcp.stream = none := by
  unfold Ready; decide +kernel

/-- A stream that session 7 has open, with one sample. -/
def stream7 : Stream :=
  { session := 7, req := rq 0 [], op := opJrnStream, mask := 1, decim := 1, credit := 2, seq := 0, lost := 0, baseS := 0,
    baseNs := 0, samples := [zeros 8], ticks := 0 }

def streaming : State := { up with kcp := { up.kcp with stream := some stream7 } }

theorem witness_stream :
    (let b : Bytes := le 1 1 ++ zeros 7 ++ le 4 1
     Ready streaming opJrnStream (rq 0 b) ∧ rd b 8 4 = 1) ∧
    (touch 7 streaming).kcp.stream = some stream7 ∧ stream7.session = 7 ∧ stream7.samples ≠ [] ∧ stream7.credit ≠ 0 := by
  unfold Ready; decide +kernel

theorem witness_time_herd_graze :
    (∀ op ∈ [opTimeStatus, opHerdStatus, opGrazeReport], Ready up op (rq 0 [])) ∧
    (∀ n ∈ [0, 1], let b : Bytes := le 4 n ++ leI 8 1500
      let s := up.modClock n fun c => { c with refused := some (500, 0) }
      Ready s opTimeAccept (rq 0 b) ∧ rd b 0 1 = n ∧ ((touch 7 s).clock n).refused = some (500, 0) ∧
      absI (rdI b 4 8 - 500) ≤ 1000) ∧
    (let b : Bytes := le 4 4 ++ le 8 6
     Ready up opHerdPrepare (rq 0 b) ∧ up.herd.role = .solo ∧ rd b 0 1 = 4 ∧ up.herd.cycle + 6 ≤ rd b 4 8 ∧ up.herd.pendMode = none) ∧
    (let s := { up with herd := { up.herd with pendMode := some .depot, pendEpoch := 1, applyAt := 6 } }
     Ready s opHerdAbort (rq 0 (le 4 1)) ∧ s.herd.committed = false ∧ s.herd.cycle + 5 < s.herd.applyAt) ∧
    (∀ i ∈ [1, 12, 0xFFFF], Ready up opGrazeNow (rq 0 (le 4 i)) ∧ rd (le 4 i) 0 2 = i) := by
  unfold Ready; decide +kernel

theorem witness_firmware :
    (∀ n ∈ [1, 16777216], Ready up opFwBegin (rq 0 (le 4 n ++ zeros 4)) ∧ rd (le 4 n ++ zeros 4) 0 4 = n) ∧
    fwRefuses (touch 7 up) (rq 0 []) = none ∧
    (let s := { up with boot := { up.boot with fwSize := some (2, 7) } }
     Ready s opFwChunk (rq 0 (le 4 0 ++ le 4 1 ++ [9])) ∧ fwRefuses (touch 7 s) (rq 0 []) = none ∧
     s.boot.fwVerifying = false ∧ s.boot.fwImage.length + 1 ≤ 2) ∧
    Ready up opFwVerify (rq 0 []) ∧ inProgress (touch 7 up) opFwVerify = none ∧
    (let s := { up with boot := { up.boot with fwVerified := true } }
     Ready s opFwActivate (rq 0 (zeros 4)) ∧ restartOk (touch 7 s) = true ∧ (touch 7 s).effMode = .maintenance) := by
  unfold Ready; decide +kernel

/-- The check of a firmware image passes wherever its signature does (log entry 10: the verdict is a free value). -/
theorem witness_firmware_verified (h : Config.signatureOk [9#8] = true) :
    let s := { up with boot := { up.boot with fwSize := some (1, 7), fwImage := [9] },
                       kcp := { up.kcp with progress := [(opFwVerify, rq 0 [])] } }
    fwCheck s = none ∧ inProgress s opFwVerify = some (rq 0 []) ∧ (sessionOf s 7).isSome = true := by
  refine ⟨?_, by decide +kernel, by decide +kernel⟩
  have e : State.reset.boot.minSec = 0 := rfl
  simp [fwCheck, h, up, e]

/-- The premises of the statement about one register's row: the request is ready, and its write is accepted. -/
def writable (s : State) (p : Par) (v : Int) : Bool :=
  let q := rq 0 (onePayload p v)
  let s0 := touch 7 s
  s.lit && listens s && (gate s0 opParamWrite q).isNone &&
    (writeCheck s0 (writerOf s0 q) p (readValue p (toWord 32 v))).1.good

theorem ready_of_writable (s : State) (p : Par) (v : Int) (h : writable s p v = true) :
    Ready s opParamWrite (regReq p ⟨rq 0 [], v⟩) ∧
    (writeCheck (touch 7 s) (writerOf (touch 7 s) (regReq p ⟨rq 0 [], v⟩)) p (readValue p (toWord 32 v))).1.good = true := by
  simp only [writable, Bool.and_eq_true] at h
  exact ⟨⟨h.1.1.1, h.1.1.2, Option.isNone_iff_eq_none.mp h.1.2⟩, h.2⟩

/-- The module in another mode, its doors locked closed. -/
def inMode (m : Mode) : State :=
  { up with herd := { up.herd with mode := m }, dw := .replicate 8 { Doorway.reset with leaf := .lockedClosed } }

theorem witness_register_rows :
    (∀ d ∈ [0, 7], writable (inMode .maintenance) (.dw d .teach) 1 = true) ∧
    writable (inMode .maintenance) (.mod .restart) 1 = true ∧ writable up (.jrn .recheck) 1 = true ∧
    writable up (.net .cntClear) 1 = true ∧ (∀ a ∈ [0, 22], writable up (.ax a .stageFault) 0x0EFE = true) ∧
    (∀ o ∈ [0, 3], writable up (.saf (.soStatus o)) 0x00F0 = true) ∧
    (∀ n ∈ [0, 111], writable up (.io n .status) 0xFFFF = true) ∧ (∀ n ∈ [4, 111], writable up (.io n .mode) 1 = true) ∧
    writable { up with par := [((Par.io 96 .mode).key, 2), ((Par.io 96 .owner).key, 3)] } (.io 96 .out) 1 = true ∧
    writable (inMode .test) (.mod .grazeFast) 1 = true := by decide +kernel

theorem witness_register_rows_net :
    writable up (herdPar .member) 0 = true ∧ (∀ r ∈ [HerdReg.configMask, .trainId], writable up (herdPar r) 1 = true) ∧
    writable up (herdPar .extRefId) 31 = true ∧ writable up (.herd .eligible) 0 = true ∧
    (∀ r ∈ [NetReg.ipAddr 0, .ipAddr 2, .ipMask 1, .gateway 2], writable up (netPar r) 0x0A000001 = true) ∧
    writable up (netPar .prpMode) 1 = true ∧ writable up (netPar .prpWindow) 64 = true ∧ writable up (netPar .prpAge) 400 = true ∧
    writable up (netPar .prpSup) 2000 = true ∧
    (∀ f ∈ [0, 15], writable up (.fs f .enable) 1 = true) ∧
    (∀ a ∈ [0, 22], ∀ l ∈ [0, 1], writable up (.ax a (.latchCfg l)) 0x9100 = true) ∧
    writable up (.mod .powerMode) 0 = true ∧ (∀ v ∈ [1, 2], writable (inMode .depot) (.mod .powerMode) v = true) := by
  decide +kernel

/-- The request that carries a block whole. -/
def blockReq (b : Blk) (data : Bytes) : Req :=
  rq 0 (le 4 b.key ++ le 4 0 ++ le 4 data.length ++ le 2 data.length ++ [0, 0] ++ data)

/-- The premises of the statement about one block's row. -/
def blockTaken (s : State) (b : Blk) (q : Req) (data : Bytes) : Bool :=
  let s0 := touch 7 s
  s.lit && listens s && (gate s0 opBlockWrite q).isNone && (blockRefuses s0 (writerOf s0 q) b q.more).isNone &&
    data.length = blockSize s0 b && blockOk s0 b data && (blockState s0 b data).isNone

/-- A cam that follows its master one to one. -/
def camBlock : Bytes := leI 4 0 ++ leI 4 255000 ++ zeros 8 ++ (List.range 256).flatMap fun i => leI 4 (1000 * i)

theorem witness_block_rows :
    (∀ a ∈ [0, 22], ∀ u ∈ [0, 3], blockTaken up (.cmp a u) (blockReq (.cmp a u) (zeros 16)) (zeros 16) = true) ∧
    (∀ a ∈ [0, 22], blockTaken up (.lcTable a) (blockReq (.lcTable a) (zeros 256)) (zeros 256) = true) ∧
    (∀ t ∈ [1, 3], blockTaken up (.sine t) (blockReq (.sine t) (zeros 512)) (zeros 512) = true) ∧
    (∀ r ∈ [1, 3], blockTaken keyed (.roleKey r) { blockReq (.roleKey r) (zeros 32) with port := .svc } (zeros 32) = true) := by
  decide +kernel

theorem witness_block_cam : (∀ t ∈ [0, 7], blockTaken up (.cam t) (blockReq (.cam t) camBlock) camBlock = true) := by
  decide +kernel

def withLanes (f : Lanes → Lanes) (s : State) : State := { s with saf := { s.saf with lanes := f s.saf.lanes } }

theorem witness_lane :
    up.boot.power = .on ∧ laneUp up .ibex = true ∧ laneUp up .chamois = true ∧ up.lit = true ∧
    ((withLanes (fun l => { l with disagree := [(0, 10)] }) up).saf.lanes.disagree.any fun e => 10 ≤ e.2) = true ∧
    windowBad .ibex 1980000 = false ∧ windowBad .ibex 2020000 = false ∧ windowBad .chamois 990000 = false ∧
    windowBad .chamois 1010000 = false ∧ windowBad .ibex 1979999 = true ∧ windowBad .chamois 1010001 = true ∧
    up.saf.lanes.badWindowsIbex = 0 ∧ (withLanes (fun l => { l with badWindowsIbex := 1 }) up).saf.lanes.badWindowsIbex = 1 ∧
    up.boot.laneDown = [] ∧ up.saf.commit = none ∧ trial up = false ∧
    (up.saf.lanes.restartTimes.filter fun t => up.jrn.opTime ≤ t + 600000).length = 0 := by decide +kernel

/-- Both contacts of pair p have been closed since the start, and the filter has not run. -/
def pairRaw (p : Nat) : State :=
  let x : PairLane := { PairLane.reset with c1 := ⟨true, false, 5⟩, c2 := ⟨true, false, 5⟩ }
  { up with saf := { up.saf with pairsI := up.saf.pairsI.setIfInBounds p x, pairsC := up.saf.pairsC.setIfInBounds p x } }

theorem witness_contact :
    (∀ p ∈ [0, 31], ∀ second ∈ [true, false], ∀ lane ∈ [Lane.ibex, .chamois],
      (((pairRaw p).pair lane p).contact second).raw ≠ (((pairRaw p).pair lane p).contact second).filt ∧
      (((pairRaw p).pair lane p).contact second).raw = true ∧ feedOff (pairRaw p) p second = false ∧
      feedOff { pairRaw p with sup := { up.sup with cfOff := 0x3FFFF } } p second = true) ∧
    (let s := { up with saf := { up.saf with pairsI := up.saf.pairsI.setIfInBounds 3 { PairLane.reset with timer := some 9 } } }
     (s.pair .ibex 3).timer = some 9) ∧
    (let s := { up with saf := { up.saf with resetC := { up.saf.resetC with activeSince := some 9 } } }
     (resetOf s .chamois).activeSince = some 9) := by decide +kernel

def withOut (o : Nat) (f : SafeOut → SafeOut) (s : State) : State :=
  { s with saf := { s.saf with outs := s.saf.outs.setIfInBounds o (f (s.out o)) } }

theorem witness_safe_output :
    (let s := { up with saf := { up.saf with dlSinceI := some 5 } }
     dlSince s .ibex = some 5 ∧ s.saf.dlReady .ibex = false) ∧
    started up = true ∧ up.saf.lanes.safe = false ∧ up.saf.pulse = none ∧ up.saf.pulseAt + 1000000 ≤ up.us ∧
    rotationDone up = false ∧
    rotationDone { up with saf := { up.saf with testPlace := 0, testFrom := some 1000000000 } } = true ∧
    heldOpen (up.out 0) true = false ∧ heldOpen ((withOut 0 (fun x => { x with status := 0x80 }) up).out 0) true = true ∧
    (up.out 0).changedAt + 100000 ≤ up.us ∧ up.us < ((withOut 0 (fun x => { x with changedAt := 999900001 }) up).out 0).changedAt + 100000 ∧
    ({ up with saf := { up.saf with pulse := some (3, true, 999999900, true) } }).saf.pulse = some (3, true, 999999900, true) ∧
    (∀ o ∈ [0, 3], underTest up o true = false ∧ (up.out o).hsCmd ≠ true ∧ (up.out o).lsCmd ≠ true ∧
      ((withOut o (fun x => { x with hsCmd := true, lsCmd := true }) up).out o).hsCmd ≠ false ∧
      ((withOut o (fun x => { x with hsCmd := true, lsCmd := true }) up).out o).lsCmd ≠ false ∧
      (∀ n ∈ [0, 1], ((withOut o (fun x => { x with clearMask := some 0x10, clearPassed := n }) up).out o).clearMask = some 0x10 ∧
        ((withOut o (fun x => { x with clearMask := some 0x10, clearPassed := n }) up).out o).clearPassed = n)) := by decide +kernel

theorem witness_closing_current :
    (let s := (withAxis 6 up).modAxis 6 fun x => { x with det := { x.det with iSlots := 5 } }
     monitored s 6 = true ∧ limitApplies s 6 = true ∧ 5 ≤ (s.axis 6).det.iSlots) ∧
    (let s := (withMove 6 .closing .sequencer (withAxis 6 up)).modAxis 6 fun x => { x with safeStop := some (5, 400000, 400000) }
     let s0 := (withAxis 6 up).modAxis 6 fun x => { x with safeStop := some (5, 400000, 400000) }
     (s.axis 6).safeStop = some (5, 400000, 400000) ∧ stillMoving (forwardTo (some (5 + 1000 * s.safN .ssTmaxMs)) s) 6 = true ∧
     stillMoving (forwardTo (some (5 + 1000 * s0.safN .ssTmaxMs)) s0) 6 = false) ∧
    up.saf.lanes.safe = false ∧ (takeSafeState 1 up).saf.lanes.safe = true := by decide +kernel

/-- A telegram of the peer on connection 1, with its CRC. -/
def kscTelegram (seq : Nat) : Bytes := kscHead 0 1 seq (le 1 3 ++ zeros 31) ++ le 4 (kscCrc 0x2F3A (kscHead 0 1 seq (le 1 3 ++ zeros 31)))

/-- Connection 1 is configured, and each lane waits for its first telegram. -/
def kscUp : State :=
  { up with
    par := [((Par.saf .kscConnId).key, 1), ((Par.saf .kscCode).key, 0x2F3A), ((Par.saf .kscPeerA).key, 77), ((Par.saf .kscPeerB).key, 78)]
    saf := { up.saf with kscI := { up.saf.kscI with state := .lost }, kscC := { up.saf.kscC with state := .lost } } }

def kscWindow (data : Bytes) : State :=
  { kscUp with saf := { kscUp.saf with kscI := { kscUp.saf.kscI with windows := [(5, data, false, 1000000000)] } } }

theorem witness_ksc :
    laneUp kscUp .ibex = true ∧ (kscOf kscUp .ibex).state ≠ .off ∧
    kscFormOk (kscOverdue .ibex kscUp) false 78 (kscTelegram 5) = false ∧
    kscFormOk (kscOverdue .ibex kscUp) false 77 (kscTelegram 5) = true ∧
    kscFormOk (kscOverdue .ibex kscUp) true 78 (kscTelegram 5) = true ∧
    kscSeqOk kscUp (kscOf kscUp .ibex) 5 = true ∧ ((kscOf kscUp .ibex).windows.find? fun w => w.1 = 5) = none ∧
    (let s := { kscUp with saf := { kscUp.saf with kscI := { kscUp.saf.kscI with state := .run, lastSeq := 9 } } }
     kscSeqOk s (kscOf s .ibex) 5 = false ∧ kscFormOk (kscOverdue .ibex s) false 77 (kscTelegram 5) = true ∧
     rd (kscTelegram 5) 8 4 = 5) ∧
    (∀ data ∈ [kscTelegram 5, zeros 48], let s1 := kscOverdue .ibex (kscWindow data)
      ((kscOf s1 .ibex).windows.find? fun w => w.1 = 5) = some (5, data, false, 1000000000) ∧
      kscFormOk s1 true 78 (kscTelegram 5) = true ∧ kscSeqOk s1 (kscOf s1 .ibex) 5 = true) ∧
    ({ kscUp with saf := { kscUp.saf with kscC := { kscUp.saf.kscC with wd := some 7 } } }.saf.kscC).wd = some 7 ∧
    kscUp.safN .kscConnId ≠ 0 ∧ started kscUp = true := by decide +kernel

theorem witness_time : State.axis (withAxis 23 up) 23 = (withAxis 23 up).axis 23 ∧ ((withAxis 23 up).axis 23).drive.energised = true ∧
    ((up.axis 0).drive.energised = false) ∧ (forwardTo (some 5) up).us = 1000000000 ∧ (forwardTo (some 2000000000) up).us = 2000000000 := by
  decide +kernel

theorem witness_quadrature : up.axOn 22 = true ∧ up.axN 22 .encMode = 0 ∧
    edgeCount 0 ⟨false, false, true, true⟩ = none ∧ edgeCount 0 ⟨false, false, true, false⟩ = some 1 ∧
    (up.axis 22).fb.episodeRaised = false ∧
    ((up.modFb 22 fun b => { b with episodeRaised := true }).axis 22).fb.episodeRaised = true := by decide +kernel

/-- Axis 6 has an index in use, and the doorway an SSI encoder on its first slot. -/
def indexed : State :=
  { withAxis 6 up with par := [((Par.ax 6 .indexUse).key, 1), ((Par.dw 2 .ssiAxis).key, 0), ((Par.dw 2 .ssiStatBits).key, 1)] }

theorem witness_feedback :
    up.axp 22 .encMode ≠ 3 ∧ indexed.axOn 6 = true ∧ indexed.axp 6 .indexUse = 1 ∧ ssiAxisOf indexed (doorOf 6) = some 6 ∧
    indexSeenNow indexed 6 true = true ∧ (indexed.axis 6).home.phase ≠ .creep ∧
    indexSeenNow (indexed.modHome 6 fun h => { h with phase := .creep }) 6 true = true ∧
    (∀ l ∈ [0, 1], ∀ src ∈ [1, 2, 4], ∀ edge ∈ [1, 2, 3],
      let s := indexed.modFb 6 fun b => { b with latches := vset b.latches l { Latch.reset with
        cfg := BitVec.ofNat 16 (0x8000 + 4096 * edge + 256 * src) } }
      (latchOf s 6 l).armed = true ∧ (latchOf s 6 l).src = src ∧ (latchOf s 6 l).edge = edge) ∧
    (∀ clean ∈ [true, false], let s := indexed.modFb 6 fun b => { b with ssiCapture := some (12, clean) }
      (s.axis 6).fb.ssiCapture = some (12, clean) ∧ s.dwN 2 .ssiStatBits = 1 ∧
      ((ssiBad 6 (s.modFb 6 fun b => { b with ssiCapture := none })).axis 6).home.phase ≠ .ssiWait) := by decide +kernel

/-- The closing of axis 6 by the sequencer, its detections all but complete or complete. -/
def closing6 (n : Nat) : State :=
  (withDoor 2 .closing (withMove 6 .closing .sequencer (withAxis 6 up))).modDet 6 fun x => { x with envTicks := n, devTicks := n }

theorem witness_detection :
    breachDue (closing6 60000) 6 = true ∧ deviationDue (closing6 60000) 6 = true ∧ breachDue (closing6 0) 6 = false ∧
    deviationDue (closing6 0) 6 = false ∧
    (let s := (closing6 0).modDoor 2 fun x => { x with energyTicks := 50 }
     capDue s 2 = true) ∧ capDue (closing6 0) 2 = false := by decide +kernel

/-- Axis 6 runs at 400 mm/s in its first move, and the measurement before reached the threshold. -/
def stalling (k : MoveKind) (by_ : MoveBy) : State :=
  ({ withMove 6 k by_ (withAxis 6 up) with par := [((Par.ax 6 .ke).key, 1000), ((Par.ax 6 .homeType).key, 1)] }).modAxis 6 fun x =>
    { x with cmdV := -400000, drive := { x.drive with state := .moving, laPrev := some 900, laLeft := 8 },
             home := { x.home with phase := if k = MoveKind.homing then .search else .idle } }

theorem witness_load_angle :
    (let r := takeLoadAngle 6 (.replicate 8 100000000) ((stalling .closing .sequencer).axp 6 .laStall) (stalling .closing .sequencer)
     let n := takeLoadAngle 6 (.replicate 8 (-100000000)) ((stalling .closing .sequencer).axp 6 .laStall) (stalling .closing .sequencer)
     (r.2 || n.2) = true ∧ stallRow (stalling .closing .sequencer) 6 = true ∧ moving r.1 6 = true ∧
     seeksStop (stalling .closing .sequencer) 6 = false ∧ bemfMeasures (stalling .closing .sequencer) 6 = true) ∧
    (let s := stalling .homing .homing
     seeksStop s 6 = true ∧ ((takeLoadAngle 6 (.replicate 8 100000000) (s.axp 6 .homeLaStop) s).2 ||
       (takeLoadAngle 6 (.replicate 8 (-100000000)) (s.axp 6 .homeLaStop) s).2) = true) ∧
    (takeLoadAngle 6 [] (up.axp 6 .laStall) up).2 = false := by decide +kernel

/-- Axis 6 in a phase of homing by the host or with its doorway, moving or at rest. -/
def homing (p : HomePhase) (type : Int) : State :=
  ({ withMove 6 .homing .homing (withAxis 6 up) with par := [((Par.ax 6 .homeType).key, type)] }).modHome 6
    fun h => { h with phase := p, until_ := some 5 }

theorem witness_homing :
    (let s := (homing .search 1).modHome 7 fun h => { h with phase := .search }
     (s.axis 6).home.phase = .search ∧ moving s 6 = true ∧ s.axN 6 .homeType = 1 ∧ homedWith s 6 = [6, 7] ∧
     (s.axis 7).home.phase = .search ∧ lagsBehind s 6 = false ∧
     lagsBehind (s.modFb 6 fun b => { b with count := 1000000 }) 6 = true) ∧
    (let s := homing .search 1
     let far := s.modAxis 6 fun x => { x with plan := { x.plan with startPos := 9000000 } }
     searching s 6 = true ∧ absR ((planNow (s.axis 6)).1 - (s.axis 6).plan.startPos) < (s.axp 6 .homeMaxDist : Rat) ∧
     searching far 6 = true ∧ (far.axp 6 .homeMaxDist : Rat) ≤ absR ((planNow (far.axis 6)).1 - (far.axis 6).plan.startPos)) ∧
    (∀ t ∈ [2, 3], (homing .search t).axN 6 .homeType = t ∧ (homing .openSwitch t).axN 6 .homeType = t ∧
      moving (homing .openSwitch t) 6 = true ∧ ((homing .openSwitch t).axis 6).home.cleared = false) ∧
    (∀ p ∈ [HomePhase.search, .openSwitch, .creepBack, .creep], ((homing p 1).axis 6).home.phase = p) ∧
    ((homing .settle 1).axis 6).home.phase = .settle ∧ stopAgrees (withPair 6 .active (homing .settle 1)) 6 = true ∧
    stopAgrees (homing .settle 1) 6 = false ∧
    (∀ p ∈ [HomePhase.retryWait, .backOff], ((homing p 1).axis 6).home.phase = p ∧
      ((homing p 1).axis 6).home.until_.isSome = true) := by decide +kernel

def record0 : PhaseRec := ⟨zeros 16, true, 0, 0, false, 0, false⟩

def withDrive (f : Drive → Drive) : State := (withAxis 22 up).modDrive 22 f

/-- The main store has failed. -/
def storeLost (s : State) : State := s.modRegion 0 fun r => { r with state := .failed }

theorem witness_ramp :
    moving (withMove 22 .closing .sequencer (withAxis 22 up)) 22 = true ∧
    ((withMove 22 .closing .sequencer (withAxis 22 up)).axis 22).ramp = none ∧
    (((withMove 22 .closing .sequencer (withAxis 22 up)).modAxis 22 fun x => { x with ramp := some .own }).axis 22).ramp ≠ none ∧
    ((withDrive fun x => { x with holdAt := some 5 }).axis 22).drive.holdAt = some 5 ∧
    ((withDrive id).axis 22).drive.state = .standstill ∧ isLeaf 22 = true ∧
    ((withDrive id).door 7).leaf ≠ .sealTest ∧ ((withDrive id).door 7).leaf ≠ .locking ∧
    ((withDrive id).door 7).leaf ≠ .closedNotLocked ∧
    (∀ r ∈ [CurRamp.enable, .park, .disable],
      ((withDrive fun x => { x with ramp := some (r, 1000000000) }).axis 22).drive.ramp = some (r, 1000000000)) ∧
    ((withDrive fun x => { x with recordDue := some (record0, 5) }).axis 22).drive.recordDue = some (record0, 5) ∧
    ((withDrive id).axis 22).drive.enableQueued = false ∧ ((withDrive id).axis 22).drive.disableAtRest = false ∧
    planDone ((actDetections (withMove 22 .closing .sequencer (withAxis 22 up))).axis 22) = true ∧
    storeFailed (storeLost (withDrive fun x => { x with recordDue := some (record0, 5) })) = true := by decide +kernel

theorem witness_sto :
    (up.axis 22).drive.state = .sto ∧
    (let s := up.modDrive 22 fun x => { x with stoSince := some 999960000, stoDone := false }
     (s.axis 22).drive.stoSince = some 999960000 ∧ (s.axis 22).drive.stoDone = false ∧
     (s.axis 22).drive.enableQueued = false ∧ (s.axis 22).drive.recordDue = none) ∧
    up.axOn 22 = true ∧ moving up 22 = false ∧ up.axOn 23 = false ∧
    moving (withMove 22 .closing .sequencer up) 22 = true ∧ deratingOf 1250 = 5000 := by decide +kernel

/-- Doorway d in a leaf state, with one of its timers armed. -/
def timed (d : Nat) (x : DState) (f : Doorway → Doorway) : State := up.modDoor d fun y => f { y with leaf := x }

theorem witness_doorway_timers :
    ((timed 7 .openDwell fun y => { y with dwellEnd := some 5 }).door 7).dwellEnd = some 5 ∧
    ((timed 7 .closeWarning fun y => { y with warnEnd := some 5 }).door 7).warnEnd = some 5 ∧
    (let s := timed 7 .opening fun y => { y with timeout := some 5 }
     (s.door 7).timeout = some 5 ∧ (s.door 7).stepTimeout = none) ∧
    (let s := timed 7 .opening fun y => { y with stepTimeout := some 5 }
     (s.door 7).timeout = none ∧ (s.door 7).stepTimeout = some 5) ∧
    (let s := timed 7 .locking fun y => { y with lockEnd := some 5 }
     (s.door 7).leaf = .locking ∧ (s.door 7).lockEnd = some 5 ∧ lockProven s 7 = false) ∧
    ((timed 7 .openDwell fun y => { y with suspendSince := some 5 }).door 7).suspendSince = some 5 ∧
    (let s := timed 7 .obstacleStop fun y => { y with obstPauseEnd := some 5 }
     (s.door 7).leaf = .obstacleStop ∧ (s.door 7).obstPauseEnd = some 5) ∧
    (∀ l ∈ [DState.lockedClosed, .released, .isolated], ((timed 7 l fun y => { y with parkAt := some 5 }).door 7).leaf = l) ∧
    ((up.modPin 111 fun x => { x with pulseEnd := some 5 }).pin 111).pulseEnd = some 5 := by decide +kernel

/-- Doorway 2 waits for its start, its axes ready. -/
def staggered : State :=
  (withAxis 6 (withAxis 7 (timed 2 .opening fun y => { y with waitSince := some 5 })))

theorem witness_stagger :
    (staggered.door 2).waitSince = some 5 ∧
    (let s1 := forwardTo (some (5 + 1000 * staggered.modN .staggerMaxMs)) staggered
     let s2 := s1.modDoor 2 fun x => { x with staggerForce := true }
     waitingReady s2 2 = true ∧ (s2.door 2).armedOn = none) := by decide +kernel

/-- Doorway 2 in SEAL_TEST at a step, its axes at a position of 20,000 µm, settled or not. -/
def sealing (k : Nat) (fastAt : Nat) : State :=
  timed 2 .sealTest fun y => { y with sealTest :=
    { y.sealTest with step := some k, started := 999000000, fastAt := fastAt, absolute := true, window := [40000] } }

theorem witness_seal :
    (∀ k ∈ [0, 1, 4], ((sealing k 0).door 2).leaf = .sealTest ∧ ((sealing k 0).door 2).sealTest.step = some k) ∧
    (let s := sealing 0 0
     (s.door 2).sealTest.fastAt + 10000 ≤ max s.us ((s.door 2).sealTest.started + 1000 * s.dwN 2 .sealContactMs)) ∧
    (let s := sealing 1 1999999999
     max s.us ((s.door 2).sealTest.started + 1000 * (s.dwN 2 .sealContactMs + s.dwN 2 .sealStepMs))
       < (s.door 2).sealTest.fastAt + 10000) ∧
    sealForceOk (sealing 0 0) 2 1 = false ∧
    (let s := (testedAxes (sealing 0 0) 2).foldl (fun s a => s.modDrive a fun x => { x with iApplied := 10000 })
       { sealing 0 0 with par := [((Par.ax 6 .kf).key, 65535), ((Par.ax 7 .kf).key, 65535)] }
     sealForceOk s 2 1 = true ∧ sealForceOk s 2 4 = true) ∧
    (sealing 1 0).dwp 2 .sealGapMax + (sealing 1 0).dwp 2 .sealAbortGap < rnd (meanL [40000]) := by decide +kernel

/-- Pin 2 and pin 3, both outputs, conduct since a time. -/
def pinsOn (at2 at3 : Nat) : State :=
  (up.modPin 2 fun x => { x with on := true, onAt := at2 }).modPin 3 fun x => { x with on := true, onAt := at3 }

theorem witness_field_pin :
    pinMode up 4 = 1 ∧ pinMode up 111 = 1 ∧ groupBad up 8 = false ∧
    (∀ m ∈ [3, 4], pinMode { up with par := [((Par.io 4 .mode).key, m)] } 4 = m) ∧
    checked (pinsOn 0 0) 2 = true ∧ ((pinsOn 0 0).pin 2).on = true ∧
    ((up.modPin 2 fun x => { x with status := 0x1000 }).pin 2).demag = true ∧
    ((up.modPin 2 fun x => { x with status := 0x1000, modeNext := some 1 }).pin 2).modeNext = some 1 ∧
    ((up.modPin 2 fun x => { x with status := 0x1000 }).pin 2).status.getLsbD 7 = false ∧
    ((up.modPin 2 fun x => { x with status := 0x1000 }).pin 2).on = false := by decide +kernel

/-- What a candidate is resolved with: the output pins that came on 100 µs to 150 µs before. -/
def together (s : State) (n k : Nat) : Bool :=
  k != n && isOutput s k && (s.pin k).on && decide (s.us ≤ (s.pin k).onAt + 150) && decide ((s.pin k).onAt + 100 ≤ s.us)

theorem witness_short_candidate :
    checked up 2 = true ∧ (up.pin 2).on = false ∧ (up.pin 2).demag = false ∧ (up.pin 2).status.getLsbD 11 = false ∧
    (up.pin 2).status.getLsbD 5 = false ∧ (up.pin 2).offAt + 500 ≤ up.us ∧
    (∀ at_ ∈ [999999850, 999999900], let s := up.modPin 3 fun x => { x with on := true, onAt := at_ }
      (List.range 112).filter (together s 2) = [3]) ∧
    (let s := up.modPin 3 fun x => { x with on := true, onAt := 999999849 }
     (List.range 112).filter (together s 2) = [] ∧ s.modp .ioProbe ≠ 0 ∧ probeList s 2 = [3]) ∧
    (List.range 112).filter (together up 2) = [] ∧ probeList up 2 = [] ∧
    ({ up with par := [(Par.key (.mod .ioProbe), 0)] }).modp .ioProbe = 0 := by decide +kernel

theorem witness_probe :
    (let s : State := { pinsOn 0 0 with probe := [(14, [2, 3])] }
     probing s = some (14, 2 :: [3], []) ∧ checked s 14 = true ∧ s.probeNext ≤ s.us) ∧
    (let s : State := { pinsOn 0 0 with probe := [(14, [2])] }
     probing s = some (14, [2], []) ∧ checked s 14 = true) := by decide +kernel

def withGroup (g : Nat) (st : BitVec 8) : State := up.modGroup g fun x => { x with status := st }

theorem witness_group_supply :
    (∀ g ∈ [0, 8], groupMissing up g = false ∧ groupLow up g = false ∧ groupMissing (withGroup g 1) g = true ∧
      groupLow (withGroup g 2) g = true ∧ groupBad (withGroup g 1) g = true ∧ groupBad (withGroup g 2) g = true ∧
      up.modN (.fgCurrLimit g) < 65535) := by decide +kernel

/-- Station 0 is enabled and a field cycle is due. -/
def fieldDue : State := { up with par := [((Par.fs 0 .enable).key, 1)], link := { up.link with due := true } }

def withStation (x : StationState) (m : Nat) (g : Nat) : State :=
  { fieldDue with stations := fieldDue.stations.setIfInBounds 15 { Station.reset with state := x, missed := m, goodRun := g } }

theorem witness_field_link :
    fieldDue.lit = true ∧ ibexRuns fieldDue = true ∧ fieldDue.sup.powerMode = 0 ∧ anyStation fieldDue = true ∧
    ({ fieldDue with link := { fieldDue.link with sentAt := some 5 } }).link.sentAt = some 5 ∧
    (∀ x ∈ [StationState.joining, .run, .missing, .lost], ((withStation x 2 1).station 15).state = x ∧
      ((withStation x 2 1).station 15).missed = 2 ∧ ((withStation x 2 1).station 15).goodRun = 1 ∧
      ((withStation x 0 0).station 15).goodRun = 0) := by decide +kernel

/-- The logic runs its plan, with a run of task 0 under way. -/
def running1 : State :=
  withLogic (fun g => { g with state := .run, active := some plan1, running := [⟨0, 0, [], [], false⟩], late := [0] }) up

theorem witness_logic_task :
    running1.logic.state = .run ∧ running1.logic.active = some plan1 ∧ running1.logic.running = [⟨0, 0, [], [], false⟩] ∧
    ((plan1.taskOf 0).map Task.budget).getD 0 = 100 ∧ runningTask running1.logic 0 = true ∧
    (let s1 := handOver ⟨0, 0, [], [], false⟩ 100 { running1 with logic := { running1.logic with running := [] } }
     s1.logic.exchQueued = none ∧ s1.logic.holdPending = false) ∧
    (let s := withLogic (fun g => { g with holdPending := true }) running1
     let s1 := handOver ⟨0, 0, [], [], false⟩ 0 { s with logic := { s.logic with running := [] } }
     s1.logic.holdPending = true ∧ s1.logic.running = []) ∧
    lateTask running1 = some 0 ∧ lateTask (withLogic (fun g => { g with late := [] }) running1) = none := by decide +kernel

def withQueue (q : List JWrite) (s : State) : State := { s with jrn := { s.jrn with queue := q } }

theorem witness_journal_engine :
    nextWrite (withQueue [.record 0 5] up) = some (.record 0 5) ∧ writeRegion (.record 0 5) = 0 ∧
    nextWrite (withQueue [.phase 22] up) = some (.phase 22) ∧ nextWrite (withQueue [.stored] up) = some .stored ∧
    nextWrite (withQueue [.record 0 5, .record 4 2] (storeLost up)) = some (.record 4 2) ∧ writeRegion (.record 4 2) = 4 ∧
    up.jrn.failRun + 1 < up.jrnN .failLimit ∧ storeFailed up = false ∧ storeFailed (storeLost up) = true ∧
    up.jrnN .sealPeriodH ≠ 0 ∧ 0 < up.jrn.spare ∧ ({ up with jrn := { up.jrn with spare := 0 } }).jrn.spare = 0 := by decide +kernel

/-- A frame of a class at a port, without a trailer. -/
def frame (p : Port) (c : FrameClass) : Frame :=
  { port := p, cls := c, src := 1, srcPort := 17000, trailer := false, prpSeq := 0, lanB := false, data := [] }

theorem witness_network_port :
    (∀ p ∈ [Port.netA, .netB, .svc], bit (up.netN .portEnable) (Port.index p) = true ∧
      ((up.modPort (Port.index p) fun x => { x with link := 1 }).port (Port.index p)).link ≠ 0) ∧
    (∀ c ∈ [FrameClass.ptp, .ksc, .herd], otherClass c = false) ∧
    (∀ c ∈ [FrameClass.kcpUdp, .kcpL2, .otherIp], otherClass c = true ∧ (takeIn 2 (netCount 2 0 up)).2 = true ∧ c ≠ .prpSupervision) ∧
    (let s := { up with us := 1000000 * up.us }.modPort 0 fun x => { x with frames := 100000, framesSec := 1000000000 }
     (takeIn 0 (netCount 0 0 s)).2 = false) ∧
    prpOn { up with par := [((Par.net .prpMode).key, 1)] } = true ∧ prpOn { up with par := [((Par.net .prpMode).key, 0)] } = false ∧
    (∀ n ∈ [0, 1], ptpOn up n = true ∧ ((up.modClock n fun c => { c with state := 3 }).clock n).state = 3) ∧
    rd [0x11, 0x02] 0 1 % 16 = 1 ∧ rd [0x10, 0x02] 0 1 % 16 ≠ 1 := by
  decide +kernel

def sync0 : SyncMsg := ⟨true, true, false, 5, 6, 0, 0⟩

def announce0 (p : Nat) : AnnounceMsg := ⟨p, 6, 0x20, 0, 128, 7 + p, 0, 37⟩

theorem witness_ptp :
    (∀ n ∈ [0, 1], ptpOn up n = true ∧ ((up.modClock n fun c => { c with state := 2 }).clock n).state = 2 ∧
      ((up.modClock n fun c => { c with pendingSync := some (sync0, 999999999) }).clock n).pendingSync = some (sync0, 999999999) ∧
      ((up.modClock n fun c => { c with best := some (announce0 1) }).clock n).best = some (announce0 1) ∧
      (up.clock n).best = none ∧ (up.clock n).state ≠ 3 ∧
      ((up.modClock n fun c => { c with state := 3 }).clock n).state = 3) ∧
    betterClock (announce0 0) (announce0 1) = true ∧ betterClock (announce0 2) (announce0 1) = false ∧
    (announce0 1).gmId ≠ (announce0 2).gmId ∧
    up.us ≤ 999999999 + 1000000 * 2 ^ sync0.logInterval.toNat ∧
    ({ up with time := { up.time with deciding := some 5, recoverSince := some 6, confirmSince := some 7 } }).time.deciding = some 5 := by
  decide +kernel

/-- A herd of members 0 to 2, this module being member 0. -/
def herdUp (r : Role) : State :=
  { up with
    par := [((Par.herd .configMask).key, 7)]
    time := { up.time with valid := true, ns := 50000000 }
    herd := { up.herd with role := r, cycle := 4, boundaryAt := 999990000 } }

/-- A bleat of member m in cycle 5 as received. -/
def bleatFrom (m role : Nat) : Bytes :=
  sealRec ([0x4B, 0x48, 1, 1] ++ le 4 ((herdUp .referee).herdN .trainId) ++ le 1 m ++ le 1 role ++ le 2 5 ++ le 4 0 ++ le 8 4
    ++ le 4 0 ++ [0, 255, 255, 255] ++ zeros 56)

theorem witness_herd_cycle :
    (∀ r ∈ [Role.referee, .standby, .member], let s := herdUp r
      s.time.pendingStep = none ∧ s.herd.writes = [] ∧ s.herd.pendMode = none ∧ s.time.valid = true ∧ s.herd.role ≠ .master ∧
      cycleNow s ≠ s.herd.cycle ∧ s.herd.windowClosed = false ∧ s.lit = true ∧ listens s = true) ∧
    (∀ role ∈ [0, 2], let b := readBleat (bleatFrom 2 role)
      b.role = role ∧ b.member = 2 ∧ (herdUp .referee).herd.term ≤ b.term ∧ (herdUp .referee).herd.counted = [] ∧
      b.cycle = (herdUp .referee).herd.cycle ∧ bit b.flags 0 = true) := by decide +kernel

theorem witness_bleat (role : Nat) (h : role = 0 ∨ role = 2) : herdOk (herdUp .referee) 1 92 0 (bleatFrom 2 role) = true := by
  have hc : crc32c ((bleatFrom 2 role).take (92 - 4)) = rd (bleatFrom 2 role) (92 - 4) 4 := crc_sealRec _ 88 (by rcases h with rfl | rfl <;> decide +kernel)
  unfold herdOk herdForm
  simp only [hc, decide_true, Bool.and_true]
  rcases h with rfl | rfl <;> decide +kernel

/-- A request for a vote and a vote, as received from member 2. -/
def voteReq (t : Nat) : Bytes :=
  sealRec ([0x4B, 0x48, 1, 2] ++ le 4 ((herdUp .referee).herdN .trainId) ++ [2, 2] ++ le 2 5 ++ le 4 t ++ le 8 4 ++ [2, 0] ++ zeros 6)

def voteOf2 (t : Nat) : Bytes :=
  sealRec ([0x4B, 0x48, 1, 3] ++ le 4 ((herdUp .referee).herdN .trainId) ++ [2, 2] ++ le 2 5 ++ le 4 t ++ le 8 4 ++ [0, 1] ++ zeros 6)

/-- A referee that has counted the bleat of member 2 and has seen no master for long. -/
def electing : State :=
  { herdUp .referee with
    par := [((Par.herd .configMask).key, 7), ((Par.herd .eligible).key, 1)]
    herd := { (herdUp .referee).herd with counted := [readBleat (bleatFrom 2 2)], noMaster := 1000, windowClosed := true } }

theorem witness_herd_election :
    ({ herdUp .referee with herd := { (herdUp .referee).herd with holdUntil := some 4 } }).herd.holdUntil = some 4 ∧
    (herdUp .member).herd.joinLeft = 0 ∧ (herdUp .member).herd.role = .member ∧ (herdUp .member).time.valid = true ∧
    (let s := { electing with herd := { electing.herd with counted := [ownBleat electing] } }
     s.herd.role = .referee ∧ s.herdN .joinCycles ≤ s.herd.noMaster ∧ s.herd.candidate = none ∧ s.herd.windowClosed = true ∧
     mayStand s = true ∧ bestCandidate s s.herd.counted = some (selfM s)) := by decide +kernel

theorem witness_votes :
    herdOk electing 2 36 0 (voteReq 9) = true ∧ rd (voteReq 9) 8 1 = rd (voteReq 9) 24 1 ∧ rd (voteReq 9) 12 4 = 9 ∧
    storeFailed electing = false ∧ electing.herd.grantedTo = none ∧ voteFails electing 2 0 9 = none ∧
    voteFails electing 2 0 0 = some 0 ∧
    (let s := { electing with herd := { electing.herd with candidate := some (9, 0, 0) } }
     herdOk s 3 36 0 (voteOf2 9) = true ∧ s.herd.candidate = some (9, 0, 0) ∧ rd (voteOf2 9) 12 4 = 9 ∧
     rd (voteOf2 9) 24 1 = selfM s ∧ rd (voteOf2 9) 25 1 = 1 ∧ s.herd.votes = [] ∧ s.us ≤ s.herd.boundaryAt + 10000 ∧
     s.herd.votes.length < quorum (forwardTo (some (s.herd.boundaryAt + 9000)) s)) ∧
    (let s := { electing with us := 999999000, herd := { electing.herd with candidate := some (9, 0, 1), votes := [2, 0] } }
     quorum (forwardTo (some (s.herd.boundaryAt + 9000)) s) ≤ s.herd.votes.length ∧ s.us ≤ s.herd.boundaryAt + 9000) ∧
    (let s := { herdUp .master with herd := { (herdUp .master).herd with noQuorum := 3 } }
     s.herd.role = .master ∧ 3 ≤ s.herd.noQuorum) := by decide +kernel

/-- A mirror fragment of the master, member 2: part k of n. -/
def mirrorPart (k n : Nat) (part : Bytes) : Bytes :=
  sealRec ([0x4B, 0x48, 1, 4] ++ le 4 ((herdUp .standby).herdN .trainId) ++ [2, 0] ++ le 2 5 ++ le 4 0 ++ le 8 4 ++ le 4 1 ++ le 1 k
    ++ le 1 n ++ le 2 part.length ++ part)

/-- A snapshot of 68 bytes. -/
def snap68 : Bytes := sealRec (zeros 56 ++ le 2 68 ++ zeros 6)

theorem witness_herd_mirror :
    (let s := herdUp .master
     s.herd.fragment = 0 ∧ snapshotOf (forwardTo (some (s.herd.boundaryAt + 1000)) s) ≠ []) ∧
    (let s := { herdUp .standby with herd := { (herdUp .standby).herd with master := 2 } }
     herdOk s 4 (36 + 5) 0 (mirrorPart 0 2 (zeros 5)) = true ∧ rd (mirrorPart 0 2 (zeros 5)) 8 1 = s.herd.master ∧
     s.herd.partialM = none ∧ assemble ⟨1, 0, 2, [(0, zeros 5)], []⟩ = none ∧
     herdOk s 4 (36 + 68) 0 (mirrorPart 0 1 snap68) = true ∧ assemble ⟨1, 0, 1, [(0, snap68)], []⟩ = some snap68) ∧
    (let s := { herdUp .standby with herd := { (herdUp .standby).herd with shadowRun := 1000 } }
     s.herdN .shadowMissMax ≤ s.herd.shadowRun ∧ shadowFault s = false) := by decide +kernel

def withSup (f : Supply → Supply) : State := { up with sup := f up.sup }

theorem witness_supply :
    (withSup fun x => { x with precharging := some 5 }).sup.precharging = some 5 ∧ 600 * nomFor up 72000 < 72000 ∧
    (withSup fun x => { x with retryAt := some 5 }).sup.retryAt = some 5 ∧ up.sup.powerMode = 0 ∧
    up.sup.precharged = false ∧ up.sup.precharging = none ∧
    (withSup fun x => { x with regenLockEnd := some 5 }).sup.regenLockEnd = some 5 ∧
    (withSup fun x => { x with precharged := true }).sup.precharged = true ∧ 1 ≤ up.modN .insulLimitKohm ∧
    (∀ n ∈ [1, 2], (withSup fun x => { x with insulLow := n }).sup.insulLow = n) ∧ supBit up 11 = false ∧
    get (withSup fun x => { x with cfRetry := [(17, 5)] }).sup.cfRetry 17 = some 5 ∧
    get (withSup fun x => { x with encRetry := [(7, 5)] }).sup.encRetry 7 = some 5 ∧
    up.modp .baseTempWarn ≤ 1300 ∧ tempBit up 7 = false ∧ tempBit up 6 = false ∧ tempBit up 4 = false := by decide +kernel

def withPower (p : Power) : State := { up with boot := { up.boot with power := p } }

theorem witness_power :
    (∀ p ∈ [Power.off, .sleep, .halted], (withPower p).boot.power = p) ∧
    (withSup fun x => { x with powerMode := 1 }).sup.powerMode = 1 ∧ up.boot.power = .on ∧ up.sup.holdupSince = none ∧
    (withSup fun x => { x with holdupSince := some 5 }).sup.holdupSince = some 5 ∧
    (withPower .shutdown).boot.power = .shutdown ∧ 700 * (takeLogicVolt 5 up).sup.logicNom = 16800 ∧ supBit up 15 = false ∧
    (withSup fun x => { x with nomDue := true }).sup.nomDue = true := by decide +kernel

def atStep (n : Nat) : State := { State.reset with boot := { State.reset.boot with step := n } }

def report (ok : Bool) (ms : Nat) : StoreReport := ⟨ok, ms, false, false, false, []⟩

theorem witness_start :
    (∀ n ∈ [1, 3, 5, 6], (atStep n).boot.power = .on ∧ (atStep n).boot.step = n) ∧ heardHerd (atStep 6) = true ∧
    (let s := { up with boot := { up.boot with confirmFrom := some 5, bankState := #v[2, 3] } }
     s.boot.confirmFrom = some 5 ∧ trial s = true ∧ s.boot.activeBank < 2) ∧
    (∀ l ∈ [Lane.ibex, .chamois],
      (({ up with boot := { up.boot with laneDown := [(.ibex, 5), (.chamois, 7)] } }).boot.laneDown.find? fun x => x.1 == l)
        = some (l, if l = .ibex then 5 else 7)) := by decide +kernel

/-- Doorway 0 closed for a long time in DEPOT, its axes parked, its doorway proven. -/
def idleDoor : State :=
  withPair 0 .active (withPair 1 .active (withPair 2 .active
    ((({ inMode .depot with sup := { up.sup with precharged := true } }).modDrive 0 fun x =>
        { x with state := .parked, demandIbex := false, demandChamois := false }).modDrive 1 fun x =>
        { x with state := .parked, demandIbex := false, demandChamois := false })))

theorem witness_graze :
    (∀ x ∈ [(1, 0), (1, 16383), (9, 0), (10, 16777215), (11, 8191)], grazeMay up x.1 x.2 = true) ∧
    grazeMay idleDoor 5 1 = true ∧ idleDoor.graze.sto = none ∧ idleDoor.graze.stepCheck = none ∧
    (idleDoor.axis 0).drive.demandIbex = false ∧ (idleDoor.axis 0).drive.demandChamois = false ∧
    (∀ k ∈ [1, 2, 3, 4, 5, 6, 7],
      ({ idleDoor with graze := { idleDoor.graze with sto := some (0, k, 5) } }).graze.sto = some (0, k, 5)) ∧
    (∀ i ∈ [1, 12], itemOn up i = true ∧ (grazeItem up i).overdue = false) := by decide +kernel

/-- Doorway 0 has a step, and it is idle. -/
def idleStep : State :=
  ({ idleDoor with par := [((Par.dw 0 .stepMode).key, 1)] }).modDrive 2 fun x =>
    { x with state := .parked, demandIbex := false, demandChamois := false }

theorem witness_graze_step : grazeMay idleStep 6 0 = true ∧ idleStep.graze.stepCheck = none ∧ heldAtPark idleStep 0 = true ∧
    up.herd.role ≠ .standby ∧ grazeMay { inMode .depot with herd := { (inMode .depot).herd with role := .standby } } 12 0 = true := by
  decide +kernel

/-! ## Rules over all states -/

theorem witness_proof :
    up.doorOn 7 = true ∧ idleDoor.doorOn 0 = true ∧ (idleDoor.door 0).held = (up.door 0).held ∧ proven idleDoor .ibex 0 = true ∧ proven up .ibex 0 = false ∧
    idleStep.slotOn 0 2 = true ∧ (∀ p ∈ [0, 1, 2], pairResult idleDoor .ibex p = pairResult idleDoor .chamois p) := by decide +kernel

/-- Four failed logins of an address, 59.999999 s and 60 s ago. -/
def failed4 (at_ : Nat) : State := { up with kcp := { up.kcp with logins := .replicate 4 (1, at_) } }

theorem witness_lockout :
    lockedOut (failed4 940000001) 1 = false ∧
    4 ≤ ((failed4 940000001).kcp.logins.filter fun x => x.1 = 1 && up.us < x.2 + 60000000).length ∧
    ((failed4 940000000).kcp.logins.filter fun x => x.1 = 1 && up.us < x.2 + 60000000).length < 4 ∧
    (let s := { up with kcp := { up.kcp with lockouts := [(1, 1000000001)] } }
     lockedOut s 1 = true ∧ Ready s opLogin (rq0 (zeros 20))) := by
  unfold Ready; decide +kernel

/-! ## What commands leave alone -/

theorem gated_up : OutputsGated up := fun h => absurd h (by decide +kernel)

theorem witness_reads : up.boot.restartPending = none ∧ up.sup.powerMode ≠ 2 ∧ (rq 0 []).seq ≠ 0xFFFF := by decide +kernel

/-- A command answers a next state here. -/
def goesOn (c : Instr) (s : State) : Bool := match exec c s with | .next _ => true | _ => false

theorem witness_next :
    ([Instr.hello (rq 0 []), .doorStatus (rq 0 []), .fieldInputFiltered 4 true, .shortCandidate 2, .fieldSupplyMissing 0 5,
      .driveInputReturn, .lowLogic 5, .linkLoss .netA, .ptpSyncRx 0 sync0, .voteReqRx false 0 [], .encoderEdge 0 ⟨true, true, false, false⟩,
      .safeContactChange 0 true .ibex true].all fun c => goesOn c up) = true := by decide +kernel

theorem witness_unarmed :
    (∀ d ∈ [0, 7], (up.door d).suspendSince = none ∧ (up.door d).parkAt = none ∧ (up.door d).warnEnd = none ∧
      (up.door d).dwellEnd = none ∧ (up.door d).timeout = none ∧ (up.door d).stepTimeout = none ∧ (up.door d).waitSince = none ∧
      get up.sup.encRetry d = none) ∧
    (∀ a ∈ [0, 23], (up.axis a).jog = none ∧ (up.axis a).drive.holdAt = none ∧ (up.axis a).drive.ramp = none ∧
      (up.axis a).safeStop = none) ∧
    (up.pin 111).pulseEnd = none ∧ (kscOf up .ibex).wd = none ∧ (kscOf up .chamois).windows = [] ∧ (up.pair .ibex 31).timer = none ∧
    get up.sup.cfRetry 17 = none ∧ up.time.deciding = none ∧ up.time.recoverSince = none ∧ up.time.confirmSince = none ∧
    up.herd.holdUntil = none ∧ up.herd.candidate = none ∧ up.sup.retryAt = none ∧ up.sup.precharging = none ∧
    up.sup.regenLockEnd = none ∧ up.boot.confirmFrom = none ∧ up.link.sentAt = none := by decide +kernel

/-! ## Well-formed commands: each check refuses a term that breaks it -/

theorem test_good_commands_are_well_formed :
    ([Instr.hello (rq 0 []), .teach 7 ⟨rq 0 [], 5⟩, .cmpWrite 0 0 (rq 0 []) (zeros 16), .fabricTick ⟨[(1, 2)], [], []⟩,
      .laneSlot .ibex ⟨.replicate 4 false, .replicate 4 false, .replicate 4 0, []⟩,
      .netFrameRx ⟨.netA, .ptp, 1, 2, false, 3, false, zeros 1500⟩, .soOverload 3 2501].all Instr.wellFormed) = true := by
  decide +kernel

theorem test_bad_requests_are_refused :
    ([{ rq 0 [] with src := 2 ^ 32 }, { rq 0 [] with srcPort := 65536 }, { rq 0 [] with seq := 65536 },
      { rq 0 [] with session := 2 ^ 32 }, { rq 0 [] with target := 65536 }, { rq 0 [] with payload := zeros 1429 }].all
        fun q => !(Instr.hello q).wellFormed && !(Instr.paramWrite q).wellFormed && !(Instr.teach 0 ⟨q, 0⟩).wellFormed &&
          !(Instr.camWrite 0 q []).wellFormed) = true := by decide +kernel

theorem test_bad_values_and_lengths_are_refused :
    (Instr.teach 0 ⟨rq 0 [], 4294967296⟩).wellFormed = false ∧ (Instr.teach 0 ⟨rq 0 [], -2147483649⟩).wellFormed = false ∧
    fits 16 65536 = false ∧ fits 16 65535 = true ∧ bytesOk (zeros 5) = true ∧
    slotOk ⟨.replicate 3 false, .replicate 4 false, .replicate 4 0, []⟩ = false ∧
    slotOk ⟨.replicate 4 false, .replicate 5 false, .replicate 4 0, []⟩ = false ∧
    slotOk ⟨.replicate 4 false, .replicate 4 false, .replicate 3 0, []⟩ = false ∧
    slotOk ⟨.replicate 4 false, .replicate 4 false, .replicate 4 0, .replicate 25 0⟩ = false ∧
    tickOk ⟨.replicate 25 (0, 0), [], []⟩ = false ∧ frameOk ⟨.netA, .ptp, 2 ^ 32, 2, false, 3, false, []⟩ = false ∧
    frameOk ⟨.netA, .ptp, 1, 65536, false, 3, false, []⟩ = false ∧ frameOk ⟨.netA, .ptp, 1, 2, false, 65536, false, []⟩ = false ∧
    frameOk ⟨.netA, .ptp, 1, 2, false, 3, false, zeros 1501⟩ = false := by decide +kernel

theorem test_bad_operands_are_refused :
    ([Instr.kcpForwardReply 32 0 0 0 ⟨false, []⟩, .kcpForwardReply 0 65536 0 0 ⟨false, []⟩, .kcpForwardReply 0 0 65536 0 ⟨false, []⟩,
      .kcpForwardReply 0 0 0 65536 ⟨false, []⟩, .kcpForwardTimeout 32 0, .kcpForwardTimeout 0 65536, .sessionKeepaliveExpiry (2 ^ 32),
      .loginLockoutEnd (2 ^ 32), .laneTickWindow .ibex (2 ^ 32), .soOverload 0 (2 ^ 32), .soOpenLoad 0 (2 ^ 32),
      .kscCopyRx .ibex false (2 ^ 32) [], .latchEdgeCapture 0 0 true (2 ^ 32), .ssiFrameEnd 0 (2 ^ 32) 0 false,
      .ssiFrameEnd 0 0 65536 false, .driveUndervoltage (2 ^ 32), .driveOvervoltage (2 ^ 32), .fieldSupplyMissing 0 (2 ^ 32),
      .fieldSupplyLow 0 (2 ^ 32), .fieldSupplyRecovered 0 (2 ^ 32), .fgCurrentWarning 0 (2 ^ 32), .taskRunEnd 0 (2 ^ 32),
      .ptpDelayRespRx 0 (2 ^ 32), .bleatRx false (2 ^ 32) [], .voteReqRx false (2 ^ 32) [], .voteRx false (2 ^ 32) [],
      .mirrorRx false (2 ^ 32) [], .logicBridged (2 ^ 32), .lowLogic (2 ^ 32), .prechargeComplete (2 ^ 32) 0,
      .prechargeComplete 0 (2 ^ 32), .driveInputLoss (2 ^ 32), .driveBreakerTrip (2 ^ 32), .regenEpisodeEnd (2 ^ 32),
      .insulationMeasurement (2 ^ 32)].all fun c => !c.wellFormed) = true := by decide +kernel

/-! ## Single commands, with results worked out from the rules -/

/-- The state after a command. -/
def after (c : Instr) (s : State) : State := match exec c s with | .next t => t | _ => State.reset

/-- R11's own example. -/
theorem test_key_example : (match keyOf 0x02050104 with | some (.scalar (.ax a x)) => (a, x.idx) | _ => (0, 0)) = (5, 0x0104) := by
  decide +kernel

/-- R107: full current up to 105.0 °C, half of it at 125.0 °C. -/
theorem test_derating : deratingOf 1050 = 10000 ∧ deratingOf 1150 = 7500 ∧ deratingOf 1250 = 5000 ∧ deratingOf 1300 = 5000 := by
  decide +kernel

/-- R16: 1 % of the expected cycles is 20,000 for Ibex and 10,000 for Chamois. -/
theorem test_tick_window :
    windowBad .ibex 2020001 = true ∧ windowBad .ibex 2020000 = false ∧ windowBad .chamois 989999 = true ∧
    windowBad .chamois 990000 = false := by decide +kernel

/-- R130: an impossible change of A and B sets QERR and takes POS_VALID, and the count stays. -/
theorem test_quadrature_error :
    let t := after (.encoderEdge 6 ⟨false, false, true, true⟩) (withAxis 6 up)
    (t.axis 6).fb.has 3 = true ∧ posValid t 6 = false ∧ (t.axis 6).fb.count = 0 := by decide +kernel

/-- R128: in QUADRATURE the count goes up while A leads B, and down while B leads. -/
theorem test_edges_count :
    ((after (.encoderEdge 6 ⟨false, false, true, false⟩) up).axis 6).fb.count = 1 ∧
    ((after (.encoderEdge 6 ⟨false, false, false, true⟩) up).axis 6).fb.raw = -1 := by decide +kernel

/-- R120: an overcurrent opens the bridges at once and ends in FAULT. -/
theorem test_overcurrent :
    let t := after (.overcurrent 6) (withMove 6 .closing .sequencer (withAxis 6 up))
    (t.axis 6).drive.state = .fault ∧ moving t 6 = false ∧ (t.axis 6).drive.enIbex = false := by decide +kernel

/-- R112 step 3: an enable that reads back on takes the module safe state, and every safe output is open. -/
theorem test_bad_readback :
    let t := after (.stoReadback 6 true false) (withOut 0 (fun x => { x with hsCmd := true, lsCmd := true }) up)
    t.saf.lanes.safe = true ∧ (t.out 0).hsCmd = false ∧ (t.out 0).lsCmd = false := by decide +kernel

/-- R201: a closed pair without load reads less than 5 mA. -/
theorem test_open_load :
    let s := withOut 3 (fun x => { x with hsCmd := true, lsCmd := true }) up
    ((after (.soOpenLoad 3 4) s).out 3).status.getLsbD 9 = true ∧ ((after (.soOpenLoad 3 5) s).out 3).status.getLsbD 9 = false := by
  decide +kernel

/-- R245: LOW below 19.2 V, MISSING below 12.0 V, and back at 20.4 V. -/
theorem test_group_supply :
    let low := after (.fieldSupplyLow 8 19199) up
    let gone := after (.fieldSupplyMissing 8 11999) low
    groupLow low 8 = true ∧ groupMissing gone 8 = true ∧ groupLow gone 8 = false ∧
    groupBad (after (.fieldSupplyRecovered 8 20400) gone) 8 = false := by decide +kernel

/-- R236: COUNT counts rising edges, and COUNT of both edges both. -/
theorem test_counting_pin :
    let s (m : Int) : State := { up with par := [((Par.io 4 .mode).key, m)] }
    ((after (.countEdge 4 true) (s 3)).pin 4).counter = 1 ∧ ((after (.countEdge 4 false) (s 3)).pin 4).counter = 0 ∧
    ((after (.countEdge 4 false) (s 4)).pin 4).counter = 1 := by decide +kernel

/-- R253: a station that runs and misses a frame is MISSING; two good frames bring one that was lost back. -/
theorem test_station :
    ((missFrame 15 (withStation .run 0 0)).station 15).state = .missing ∧
    ((goodFrame 15 [] (withStation .lost 0 0)).station 15).state = .joining ∧
    ((goodFrame 15 [] (withStation .joining 0 1)).station 15).state = .run := by decide +kernel

/-- R338: both LANs, A only, B only, neither. -/
theorem test_single_lan :
    let s : State := { up with par := [((Par.net .prpMode).key, 1)] }
    (after (.singleLanTimeout true true) s).net.prpStatus = 1 ∧ (after (.singleLanTimeout true false) s).net.prpStatus = 2 ∧
    (after (.singleLanTimeout false true) s).net.prpStatus = 3 ∧ (after (.singleLanTimeout false false) s).net.prpStatus = 4 := by
  decide +kernel

/-- R434: LOW_LOGIC is below 0.7 of 24 V. -/
theorem test_low_logic : supBit (after (.lowLogic 16799) up) 15 = true ∧ supBit (after (.lowLogic 16800) up) 15 = false := by
  decide +kernel

/-- R437: an episode of more than 30 J locks regeneration for 60 s. -/
theorem test_regen_lock :
    (after (.regenEpisodeEnd 30000) up).sup.regenLockEnd = none ∧
    (after (.regenEpisodeEnd 30001) up).sup.regenLockEnd = some 1060000000 := by decide +kernel

/-- R405: the steps of a start come in their order. -/
theorem test_start_steps :
    (after (.laneBootDone true) (atStep 1)).boot.step = 3 ∧ (after (.contactDarkTestEnd []) (atStep 5)).boot.step = 6 := by
  decide +kernel

/-- R60: in WASH every open request is refused with MODE_FORBIDS. -/
theorem test_wash_refuses_opening : (doorRequest .auto .open_ 0 (released 0 .released .wash)).2 = .modeForbids := by decide +kernel

/-- R42: a close request in OPEN_DWELL gives the warning. -/
theorem test_close_warns :
    ((doorRequest .auto .close 0 (released 0 .openDwell .service)).1.door 0).leaf = .closeWarning := by decide +kernel

/-- R12: a write to a register of class RO is refused with READ_ONLY. -/
theorem test_read_only :
    (writeCheck up ⟨7, 3, .netA⟩ (.mod .orderCode) 1).1 = .readOnly := by decide +kernel

/-- R297: the fifth failed LOGIN within 60 s locks the address out for 60 s. -/
theorem test_lockout :
    get (loginFailed 1 (failed4 940000001)).kcp.lockouts 1 = some 1060000000 ∧
    lockedOut (loginFailed 1 (failed4 940000000)) 1 = false := by decide +kernel

/-- R339: a member that is master of its clock sends Sync, a slave Delay_Req. -/
theorem test_ptp_sends :
    (after (.ptpDelayReqTx 1) (up.modClock 1 fun c => { c with state := 2 })).net.sent.map Prod.fst = [.delayReq 1] ∧
    (after (.ptpSyncTx 1) (up.modClock 1 fun c => { c with state := 2 })).net.sent = [] := by decide +kernel

end Sys2Proof.Tests
end

section
/-! PROOF. Keys and what they name (R11, R319): the index tables of the ten groups, the scalars and the blocks that
the three fields of a key name, and the obligation on keys (O7). -/

namespace Sys2Proof.Machine

/-! ## The index tables

Each table is a list of runs written out in the model, so that its runs give the scalars their own indices is a finite check; that
every look-up then answers a scalar of the index looked up is proved once, over any table. -/

/-- Run `r` of a group's index table gives each offset a scalar whose index is the run's first index plus that offset. -/
abbrev RunNames {P : Type} (idx : P → Nat) (r : Nat × Nat × (Nat → P)) : Prop := ∀ o < r.2.1, idx (r.2.2 o) = r.1 + o

/-- A look-up in a table of such runs finds a scalar of the index looked up. -/
theorem idx_of_findSome_runs {P : Type} {idx : P → Nat} {segs : List (Nat × Nat × (Nat → P))} {x : Nat} {p : P}
    (hruns : ∀ r ∈ segs, RunNames idx r)
    (h : (segs.findSome? fun r => if r.1 ≤ x ∧ x < r.1 + r.2.1 then some (r.2.2 (x - r.1)) else none) = some p) :
    idx p = x := by
  obtain ⟨r, hr, hfound⟩ := List.exists_of_findSome?_eq_some h
  split at hfound
  · next hx =>
    obtain rfl := Option.some.inj hfound
    have hidx := hruns r hr (x - r.1) (by omega)
    omega
  · cases hfound

theorem ModP.idx_of_ofIdx {x : Nat} {p : ModP} : ModP.ofIdx x = some p → p.idx = x :=
  idx_of_findSome_runs (by decide +kernel)

theorem AxP.idx_of_ofIdx {x : Nat} {p : AxP} : AxP.ofIdx x = some p → p.idx = x :=
  idx_of_findSome_runs (by decide +kernel)

theorem DwP.idx_of_ofIdx {x : Nat} {p : DwP} : DwP.ofIdx x = some p → p.idx = x :=
  idx_of_findSome_runs (by decide +kernel)

theorem IoP.idx_of_ofIdx {x : Nat} {p : IoP} : IoP.ofIdx x = some p → p.idx = x :=
  idx_of_findSome_runs (by decide +kernel)

theorem FsP.idx_of_ofIdx {x : Nat} {p : FsP} : FsP.ofIdx x = some p → p.idx = x :=
  idx_of_findSome_runs (by decide +kernel)

theorem EvP.idx_of_ofIdx {x : Nat} {p : EvP} : EvP.ofIdx x = some p → p.idx = x :=
  idx_of_findSome_runs (by decide +kernel)

theorem SafP.idx_of_ofIdx {x : Nat} {p : SafP} : SafP.ofIdx x = some p → p.idx = x :=
  idx_of_findSome_runs (by decide +kernel)

theorem NetP.idx_of_ofIdx {x : Nat} {p : NetP} : NetP.ofIdx x = some p → p.idx = x :=
  idx_of_findSome_runs (by decide +kernel)

theorem HerdP.idx_of_ofIdx {x : Nat} {p : HerdP} : HerdP.ofIdx x = some p → p.idx = x :=
  idx_of_findSome_runs (by decide +kernel)

theorem JrnP.idx_of_ofIdx {x : Nat} {p : JrnP} : JrnP.ofIdx x = some p → p.idx = x :=
  idx_of_findSome_runs (by decide +kernel)

/-! ## What the three fields of a key name -/

/-- The groups are 1 to 10, and MOD, SAF and the groups after SAF have the one member 0 (R318). -/
theorem group_inst_of_lt_groupInsts {g i : Nat} (hi : i < groupInsts g) : 1 ≤ g ∧ g ≤ 10 ∧ (g = 1 ∨ 7 ≤ g → i = 0) := by
  unfold groupInsts at hi
  split_ifs at hi <;> omega

theorem scalarOf_fields {g i x : Nat} {p : Par} (hi : i < groupInsts g) (h : scalarOf g i x = some p) :
    p.group = g ∧ p.inst = i ∧ p.idx = x := by
  obtain ⟨hlow, hhigh, hzero⟩ := group_inst_of_lt_groupInsts hi
  interval_cases g <;> obtain ⟨q, hq, rfl⟩ := Option.map_eq_some_iff.mp h
  · exact ⟨rfl, (hzero (by decide)).symm, ModP.idx_of_ofIdx hq⟩
  · exact ⟨rfl, rfl, AxP.idx_of_ofIdx hq⟩
  · exact ⟨rfl, rfl, DwP.idx_of_ofIdx hq⟩
  · exact ⟨rfl, rfl, IoP.idx_of_ofIdx hq⟩
  · exact ⟨rfl, rfl, FsP.idx_of_ofIdx hq⟩
  · exact ⟨rfl, rfl, EvP.idx_of_ofIdx hq⟩
  · exact ⟨rfl, (hzero (by decide)).symm, SafP.idx_of_ofIdx hq⟩
  · exact ⟨rfl, (hzero (by decide)).symm, NetP.idx_of_ofIdx hq⟩
  · exact ⟨rfl, (hzero (by decide)).symm, HerdP.idx_of_ofIdx hq⟩
  · exact ⟨rfl, (hzero (by decide)).symm, JrnP.idx_of_ofIdx hq⟩

theorem blockOf_fields {g i x : Nat} {b : Blk} (hi : i < groupInsts g) (h : blockOf g i x = some b) :
    b.group = g ∧ b.inst = i ∧ b.idx = x := by
  obtain ⟨-, -, hzero⟩ := group_inst_of_lt_groupInsts hi
  unfold blockOf at h
  split_ifs at h
  all_goals
    obtain rfl := Option.some.inj h
    simp only [Blk.group, Blk.inst, Blk.idx, true_and]
    omega

/-! ## Keys -/

/-- A key that names a scalar has a member of its group in bits 23 to 16, and its three fields name the scalar (R319). -/
theorem scalarOf_of_keyOf {k : Nat} {p : Par} (h : keyOf k = some (.scalar p)) :
    k / 65536 % 256 < groupInsts (k / 16777216) ∧
      scalarOf (k / 16777216) (k / 65536 % 256) (k % 65536) = some p := by
  simp only [keyOf] at h
  split_ifs at h with hi hx
  · obtain ⟨b, -, hb⟩ := Option.map_eq_some_iff.mp h
    cases hb
  · exact ⟨hi, by simpa using h⟩

/-- A key that names a block has a member of its group in bits 23 to 16, and its three fields name the block (R319). -/
theorem blockOf_of_keyOf {k : Nat} {b : Blk} (h : keyOf k = some (.block b)) :
    k / 65536 % 256 < groupInsts (k / 16777216) ∧
      blockOf (k / 16777216) (k / 65536 % 256) (k % 65536) = some b := by
  simp only [keyOf] at h
  split_ifs at h with hi hx
  · exact ⟨hi, by simpa using h⟩
  · obtain ⟨p, -, hp⟩ := Option.map_eq_some_iff.mp h
    cases hp

/-- The three fields of R11 make up the whole key. -/
theorem key_of_fields (k : Nat) : k / 16777216 * 16777216 + k / 65536 % 256 * 65536 + k % 65536 = k := by omega

/-- A key of an existing group is 32 bits wide: the groups end at 10. -/
theorem key_lt_of_lt_groupInsts {k i : Nat} (hi : i < groupInsts (k / 16777216)) : k < 2 ^ 32 := by
  obtain ⟨-, hhigh, -⟩ := group_inst_of_lt_groupInsts hi
  omega

/-- Settles O7: what a key names has the group, the number within the group and the index that the key's fields hold. -/
theorem keysNameWhatTheySay : Obligations.KeysNameWhatTheySay := by
  unfold Obligations.KeysNameWhatTheySay
  refine ⟨fun k p h => ?_, fun k b h => ?_, .jerkClose, by decide +kernel, rfl⟩
  · obtain ⟨hi, hof⟩ := scalarOf_of_keyOf h
    obtain ⟨hgroup, hinst, hidx⟩ := scalarOf_fields hi hof
    refine ⟨key_lt_of_lt_groupInsts hi, hgroup, hinst, hidx, ?_, ?_⟩
    · rw [Par.key, hgroup, hinst, hidx, key_of_fields]
    · obtain ⟨-, -, hzero⟩ := group_inst_of_lt_groupInsts hi
      rwa [hgroup, hinst]
  · obtain ⟨hi, hof⟩ := blockOf_of_keyOf h
    obtain ⟨hgroup, hinst, hidx⟩ := blockOf_fields hi hof
    refine ⟨key_lt_of_lt_groupInsts hi, hgroup, hinst, hidx, ?_⟩
    rw [Blk.key, hgroup, hinst, hidx, key_of_fields]

end Sys2Proof.Machine
end

section
/-! PROOF. Proof of closed and locked (R34): what it says, the inputs that it reads, and the obligation on it (O52). -/

namespace Sys2Proof.Machine

/-! ## What a lane's proof says -/

theorem laneActive_iff (s : State) (lane : Lane) (p : Nat) :
    laneActive s lane p = true ↔ pairResult s lane p = .active := by simp [laneActive]

theorem stepIn_iff (s : State) (d : Nat) :
    stepIn s d = true ↔ (s.slotOn d 2 = true →
      posAt s (3 * d + 2) (s.axis (3 * d + 2)).fb.count ≤ (s.dwp d .stepSafePos : Rat) ∧
      posAt s (3 * d + 2) (s.axis (3 * d + 2)).fb.dup ≤ (s.dwp d .stepSafePos : Rat)) := by
  cases hstep : s.slotOn d 2 with
  | false => simp [stepIn, State.hasStep, hstep]
  | true =>
    simp only [stepIn, State.hasStep, hstep, axisOf, Bool.not_true, Bool.false_or, Bool.and_eq_true, true_imp_iff]
    exact and_congr decide_eq_true_iff decide_eq_true_iff

theorem proven_iff (s : State) (lane : Lane) (d : Nat) :
    proven s lane d = true ↔
      s.doorOn d = true ∧ laneActive s lane (3 * d) = true ∧ laneActive s lane (3 * d + 1) = true ∧
        laneActive s lane (3 * d + 2) = true ∧ stepIn s d = true := by
  simp only [proven, Bool.and_eq_true, and_assoc]

/-! ## The inputs of a proof

Of the doorway itself, a proof reads only the parameter values that the doorway holds over (R94, R229): they are part of the
configuration in force. -/

/-- A doorway's value in force depends on the stored differences and on what that doorway holds over alone. -/
theorem dwp_congr_held {s t : State} {d : Nat} (hpar : s.par = t.par) (hheld : (s.door d).held = (t.door d).held) (p : DwP) :
    s.dwp d p = t.dwp d p := by
  rw [State.dwp, State.dwp, hheld, inForce_congr hpar]

theorem slotOn_congr_held {s t : State} {d : Nat} (hpar : s.par = t.par) (hheld : (s.door d).held = (t.door d).held) (sl : Nat) :
    s.slotOn d sl = t.slotOn d sl := by
  simp only [State.slotOn, State.dtype, dwp_congr_held hpar hheld]

theorem doorOn_congr_held {s t : State} {d : Nat} (hpar : s.par = t.par) (hheld : (s.door d).held = (t.door d).held) :
    s.doorOn d = t.doorOn d := by
  rw [State.doorOn, State.doorOn, State.dtype, State.dtype, dwp_congr_held hpar hheld]

theorem axis_congr {s t : State} (hax : s.ax = t.ax) (a : Nat) : s.axis a = t.axis a := by
  rw [State.axis, State.axis, hax]

/-- The position of a count depends on the stored differences and on its axis alone. -/
theorem posAt_congr {s t : State} (hpar : s.par = t.par) (hax : s.ax = t.ax) (a : Nat) (count : Int) :
    posAt s a count = posAt t a count := by
  simp only [posAt, umCount, State.axp, axis_congr hax, inForce_congr hpar]

theorem stepIn_congr {s t : State} {d : Nat} (hpar : s.par = t.par) (hax : s.ax = t.ax)
    (hheld : (s.door d).held = (t.door d).held) : stepIn s d = stepIn t d := by
  simp only [stepIn, State.hasStep, slotOn_congr_held hpar hheld, dwp_congr_held hpar hheld, posAt_congr hpar hax, axis_congr hax]

theorem laneActive_congr {s t : State} {lane other : Lane} {p : Nat} (hpair : pairResult s lane p = pairResult t other p) :
    laneActive s lane p = laneActive t other p := by rw [laneActive, laneActive, hpair]

/-- R34: two states with the same configuration in force, the same axes and the same pairs, each as a lane of its own sees them,
give that doorway the same proof. -/
theorem proven_congr {s t : State} {lane other : Lane} {d : Nat} (hpar : s.par = t.par) (hax : s.ax = t.ax)
    (hheld : (s.door d).held = (t.door d).held) (hpairs : ∀ p, pairResult s lane p = pairResult t other p) :
    proven s lane d = proven t other d := by
  simp only [proven, doorOn_congr_held hpar hheld, laneActive_congr (hpairs _), stepIn_congr hpar hax hheld]

theorem pairResult_setDoor (s : State) (d : Nat) (x : Doorway) (lane : Lane) (p : Nat) :
    pairResult (s.setDoor d x) lane p = pairResult s lane p := by
  cases lane <;> rfl

/-- Settles O52: `proven` is the conjunction that R34 lists, and what it reads of a doorway is only the values held over. -/
theorem proofFollowsItsInputs : Obligations.ProofFollowsItsInputs := by
  unfold Obligations.ProofFollowsItsInputs
  refine ⟨fun lane d s hon => ?_, fun lane other d x s hpairs hheld => ⟨?_, ?_⟩⟩
  · simp only [proven_iff, laneActive_iff, stepIn_iff, hon, true_and]
  · exact proven_congr rfl rfl rfl hpairs
  · have hheld' : ((s.setDoor d.val x).door d.val).held = (s.door d.val).held := by
      rw [State.door_setDoor_same s d.val x d.isLt, hheld]
    exact proven_congr (State.setDoor_par s d.val x) (State.setDoor_ax s d.val x) hheld' (pairResult_setDoor s d.val x lane)

end Sys2Proof.Machine
end

section
/-! PROOF. A quadrature error (R130): the bits of the feedback status, what the loss of POS_VALID and a fault of the A and B
signals leave as it was, and the obligation on it (O28). -/

namespace Sys2Proof.Machine

/-! ## Bits of the feedback status (R125) -/

theorem getLsbD_setBit_same (w : BitVec 16) (i : Nat) (b : Bool) (hi : i < 16) : (setBit w i b).getLsbD i = b := by
  cases b <;> simp [setBit, hi]

theorem getLsbD_setBit_other (w : BitVec 16) {i j : Nat} (b : Bool) (hij : j ≠ i) :
    (setBit w i b).getLsbD j = w.getLsbD j := by
  have hbit : (1#16 <<< i).getLsbD j = false := by
    rw [BitVec.getLsbD_shiftLeft, BitVec.getLsbD_one]
    grind
  cases b with
  | true => simp only [setBit, if_true, BitVec.getLsbD_or, hbit, Bool.or_false]
  | false =>
    simp only [setBit, Bool.false_eq_true, if_false, BitVec.getLsbD_and, BitVec.getLsbD_not, hbit, Bool.not_false,
      Bool.and_true]
    exact Bool.and_eq_left_iff_imp.mpr fun hw => decide_eq_true (BitVec.lt_of_getLsbD hw)

theorem Feedback.has_mark_same (f : Feedback) (i : Nat) (b : Bool) (hi : i < 16) : (f.mark i b).has i = b :=
  getLsbD_setBit_same f.status i b hi

theorem Feedback.has_mark_other (f : Feedback) {i j : Nat} (b : Bool) (hij : j ≠ i) : (f.mark i b).has j = f.has j :=
  getLsbD_setBit_other f.status b hij

/-! ## A pair that shows a proper level (R131) -/

@[simp] theorem wireGood_par (a i : Nat) (yes : Bool) (s : State) : (wireGood a i yes s).par = s.par := by
  cases yes <;> rfl
@[simp] theorem wireGood_dw (a i : Nat) (yes : Bool) (s : State) : (wireGood a i yes s).dw = s.dw := by
  cases yes <;> rfl
@[simp] theorem wireGood_ev (a i : Nat) (yes : Bool) (s : State) : (wireGood a i yes s).ev = s.ev := by
  cases yes <;> rfl
@[simp] theorem wireGood_jrn (a i : Nat) (yes : Bool) (s : State) : (wireGood a i yes s).jrn = s.jrn := by
  cases yes <;> rfl

/-- Of its axis, the end of a wire disagreement changes the wires alone. -/
theorem wireGood_axis {a : Nat} (ha : a < 24) (i : Nat) (yes : Bool) (s : State) :
    ∃ w, (wireGood a i yes s).axis a = { s.axis a with fb := { (s.axis a).fb with wires := w } } := by
  unfold wireGood
  split
  · exact ⟨_, State.axis_modFb_same s a _ ha⟩
  · exact ⟨(s.axis a).fb.wires, rfl⟩

/-! ## The loss of POS_VALID (R126) -/

@[simp] theorem clearPosValid_par (a : Nat) (s : State) : (clearPosValid a s).par = s.par := by
  unfold clearPosValid; split <;> simp
@[simp] theorem clearPosValid_ev (a : Nat) (s : State) : (clearPosValid a s).ev = s.ev := by
  unfold clearPosValid; split <;> simp
@[simp] theorem clearPosValid_jrn (a : Nat) (s : State) : (clearPosValid a s).jrn = s.jrn := by
  unfold clearPosValid; split <;> simp

theorem doorOf_lt {a : Nat} (ha : a < 24) : doorOf a < 8 := by unfold doorOf; omega

theorem clearPosValid_held {a : Nat} (ha : a < 24) (s : State) :
    ((clearPosValid a s).door (doorOf a)).held = (s.door (doorOf a)).held := by
  unfold clearPosValid
  split
  · rw [State.door_modDoor_same _ _ _ (doorOf_lt ha)]; rfl
  · rfl

/-- A reading of the feedback that depends neither on the bit POS_VALID nor on the latches and compare units, which are
disarmed with it, survives the loss of POS_VALID. -/
theorem clearPosValid_fb_keeps {β : Type} (g : Feedback → β)
    (hg : ∀ f latches cmps, g { f.mark 15 false with latches := latches, cmps := cmps } = g f) {a : Nat} (ha : a < 24)
    (s : State) : g ((clearPosValid a s).axis a).fb = g (s.axis a).fb := by
  unfold clearPosValid
  split
  · rw [axis_congr (State.modDoor_ax _ _ _), State.axis_modDrive_same _ _ _ ha, State.axis_modFb_same _ _ _ ha]
    exact hg _ _ _
  · rfl

theorem posValid_clearPosValid {a : Nat} (ha : a < 24) (s : State) : posValid (clearPosValid a s) a = false := by
  unfold clearPosValid
  split
  next =>
    rw [posValid, axis_congr (State.modDoor_ax _ _ _), State.axis_modDrive_same _ _ _ ha, State.axis_modFb_same _ _ _ ha]
    exact Feedback.has_mark_same _ 15 false (by omega)
  next hvalid => simpa using hvalid

/-! ## The raise of an axis kind (R457, R458) -/

theorem sourceOn_evAxis {a k : Nat} (ha : a < 24) (hk : k < 4) (s : State) : sourceOn s (evAxis a k) = s.axOn a := by
  have hindex : (96 + 4 * a + k - 96) / 4 = a := by omega
  rw [sourceOn, evAxis, if_neg (by omega), if_pos (by omega), hindex]

theorem raiseAxis_raisedOnce {a k : Nat} (ha : a < 24) (hk : k < 4) (detail : Nat) {s : State} (hon : s.axOn a = true) :
    RaisedOnce (evAxis a k) s (raiseAxis a k detail false s) := by
  rw [raiseAxis, if_pos hon]
  exact raise_raisedOnce detail (by unfold evAxis; omega) ((sourceOn_evAxis ha hk s).trans hon)

/-! ## A fault of the A and B signals (R130, R131) -/

/-- A fault of the A and B signals without its event: the status bit, the mark of the episode, POS_VALID cleared. -/
def abMarks (a bitNo : Nat) (s : State) : State :=
  clearPosValid a (s.modFb a fun b => { b.mark bitNo true with episodeRaised := true })

theorem abFault_raised {a bitNo : Nat} {s : State} (h : (s.axis a).fb.episodeRaised = true) :
    abFault a bitNo s = abMarks a bitNo s := by
  simp [abFault, abMarks, h]

theorem abFault_fresh {a bitNo : Nat} {s : State} (h : (s.axis a).fb.episodeRaised = false) :
    abFault a bitNo s = raiseEncoder a (abMarks a bitNo s) := by
  simp [abFault, abMarks, h]

/-- The event leaves the axes alone. -/
theorem abFault_ax (a bitNo : Nat) (s : State) : (abFault a bitNo s).ax = (abMarks a bitNo s).ax := by
  cases h : (s.axis a).fb.episodeRaised with
  | true => rw [abFault_raised h]
  | false => rw [abFault_fresh h, raiseEncoder, raiseAxis_ax]

@[simp] theorem abMarks_par (a bitNo : Nat) (s : State) : (abMarks a bitNo s).par = s.par := by simp [abMarks]
@[simp] theorem abMarks_ev (a bitNo : Nat) (s : State) : (abMarks a bitNo s).ev = s.ev := by simp [abMarks]
@[simp] theorem abMarks_jrn (a bitNo : Nat) (s : State) : (abMarks a bitNo s).jrn = s.jrn := by simp [abMarks]

theorem axOn_abMarks {a : Nat} (ha : a < 24) (bitNo : Nat) (s : State) : (abMarks a bitNo s).axOn a = s.axOn a :=
  slotOn_congr_held (abMarks_par a bitNo s) (clearPosValid_held ha _) (slotOf a)

/-- The same reading after a fault is that of the feedback with the fault's bit set and its episode marked, whether or not the
event is raised. -/
theorem abFault_fb {β : Type} (g : Feedback → β)
    (hg : ∀ f latches cmps, g { f.mark 15 false with latches := latches, cmps := cmps } = g f) {a : Nat} (ha : a < 24)
    (bitNo : Nat) (s : State) :
    g ((abFault a bitNo s).axis a).fb = g { (s.axis a).fb.mark bitNo true with episodeRaised := true } := by
  rw [axis_congr (abFault_ax a bitNo s), abMarks, clearPosValid_fb_keeps g hg ha, State.axis_modFb_same _ _ _ ha]

theorem abFault_has {a bitNo : Nat} (ha : a < 24) (hbit : bitNo < 15) (s : State) :
    ((abFault a bitNo s).axis a).fb.has bitNo = true :=
  (abFault_fb (fun f => f.has bitNo) (fun f _ _ => f.has_mark_other false (by omega)) ha bitNo s).trans
    (Feedback.has_mark_same _ bitNo true (by omega))

theorem posValid_abFault {a : Nat} (ha : a < 24) (bitNo : Nat) (s : State) : posValid (abFault a bitNo s) a = false := by
  rw [posValid, axis_congr (abFault_ax a bitNo s)]
  exact posValid_clearPosValid ha _

/-- The first fault of a POS_VALID episode raises the encoder event of its axis. -/
theorem abFault_raisedOnce {a : Nat} (ha : a < 24) (bitNo : Nat) {s : State} (hon : s.axOn a = true)
    (hfresh : (s.axis a).fb.episodeRaised = false) : RaisedOnce (evAxis a 1) s (abFault a bitNo s) := by
  have hraise := raiseAxis_raisedOnce ha (k := 1) (by omega) (fbStatus (abMarks a bitNo s) a % 256)
    ((axOn_abMarks ha bitNo s).trans hon)
  rw [abFault_fresh hfresh]
  rwa [RaisedOnce, abMarks_ev] at hraise

/-! ## The quadrature error (R130) -/

/-- The state after the edge's wires have been found good, before the edge is counted (R131). -/
def edgeWires (a : Nat) (e : EncEdge) (s : State) : State :=
  wireGood a 0 (e.aBefore != e.aAfter) (wireGood a 1 (e.bBefore != e.bAfter) s)

@[simp] theorem edgeWires_ev (a : Nat) (e : EncEdge) (s : State) : (edgeWires a e s).ev = s.ev := by simp [edgeWires]
@[simp] theorem edgeWires_jrn (a : Nat) (e : EncEdge) (s : State) : (edgeWires a e s).jrn = s.jrn := by simp [edgeWires]

theorem axOn_edgeWires (a : Nat) (e : EncEdge) (s : State) : (edgeWires a e s).axOn a = s.axOn a :=
  axOn_congr (by simp [edgeWires]) (by simp [edgeWires]) a

theorem edgeWires_axis {a : Nat} (ha : a < 24) (e : EncEdge) (s : State) :
    ∃ w, (edgeWires a e s).axis a = { s.axis a with fb := { (s.axis a).fb with wires := w } } := by
  obtain ⟨w, hw⟩ := wireGood_axis ha 0 (e.aBefore != e.aAfter) (wireGood a 1 (e.bBefore != e.bAfter) s)
  obtain ⟨w', hw'⟩ := wireGood_axis ha 1 (e.bBefore != e.bAfter) s
  exact ⟨w, by rw [edgeWires, hw, hw']⟩

theorem axN_edgeWires {a : Nat} (ha : a < 24) (e : EncEdge) (s : State) (p : AxP) :
    (edgeWires a e s).axN a p = s.axN a p := by
  obtain ⟨w, hw⟩ := edgeWires_axis ha e s
  rw [State.axN, State.axN, State.axp, State.axp, hw, inForce_congr (show (edgeWires a e s).par = s.par by simp [edgeWires])]

/-- On a configured axis, a change that its mode does not count is a fault of A and B with the bit QERR. -/
theorem effectEncoderEdge_of_quadratureError {a : Nat} (ha : a < 24) {e : EncEdge} {s : State} (hon : s.axOn a = true)
    (herr : edgeCount (s.axN a .encMode) e = none) : effectEncoderEdge a e s = abFault a 3 (edgeWires a e s) := by
  have hon' := (axOn_edgeWires a e s).trans hon
  rw [← axN_edgeWires ha e s] at herr
  unfold edgeWires at hon' herr ⊢
  simp only [effectEncoderEdge, hon', herr, if_true]

/-- Settles O28: on the state in which the edge has shown its wires good, the error is a fault of A and B with bit 3. The
marks of that fault give the status, POS_VALID and the counters, and the mark of the episode decides on the event. -/
theorem quadratureErrorFollowsItsRule : Obligations.QuadratureErrorFollowsItsRule := by
  unfold Obligations.QuadratureErrorFollowsItsRule
  intro a e s hlit hon herr
  have ha := a.isLt
  have hon' := (axOn_edgeWires a e s).trans hon
  obtain ⟨w, hw⟩ := edgeWires_axis ha e s
  have hexec : exec (.encoderEdge a e) s = .next (settle s.pending (abFault a 3 (edgeWires a e s))) :=
    (answerOn_lit hlit _).trans (by rw [effectEncoderEdge_of_quadratureError ha hon herr])
  refine ⟨_, hexec, abFault_has ha (by omega) _, posValid_abFault ha 3 _, ?_, ?_, ?_, ?_, ?_, ?_⟩
  · exact (abFault_fb Feedback.count (fun _ _ _ => rfl) ha 3 _).trans (by rw [hw]; rfl)
  · exact (abFault_fb Feedback.raw (fun _ _ _ => rfl) ha 3 _).trans (by rw [hw]; rfl)
  · exact (abFault_fb Feedback.dup (fun _ _ _ => rfl) ha 3 _).trans (by rw [hw]; rfl)
  · intro hfresh
    obtain ⟨hseq, hsticky, -⟩ := abFault_raisedOnce ha 3 hon' (by rw [hw]; exact hfresh)
    exact ⟨by rwa [edgeWires_ev] at hseq, hsticky⟩
  · intro hraised
    have hsame := abFault_raised (bitNo := 3) (s := edgeWires a e s) (by rw [hw]; exact hraised)
    exact ⟨by simp [hsame], by simp [hsame]⟩
  · exact abFault_fb Feedback.episodeRaised (fun _ _ _ => rfl) ha 3 _

end Sys2Proof.Machine
end

section
/-! PROOF. The factory defaults of the field pins (R234): the pin table by a doorway group and a place in it, and the
obligation on it (O53). -/

namespace Sys2Proof.Machine

/-- MODE and OWNER take their defaults from the pin table, in either set. -/
theorem Par.dflt_io_of_pinDefault {n : Nat} {mode owner : Int} (hpin : pinDefault n = (mode, owner)) (set : Nat) :
    (Par.io n .mode).dflt set = mode ∧ (Par.io n .owner).dflt set = owner := by
  simp only [Par.dflt, IoP.dflt, hpin, and_self]

/-- In the eight doorway groups the place of the pin in its group alone decides. -/
theorem pinDefault_doorway {d k : Nat} (hd : d < 8) (hk : k < 12) :
    pinDefault (12 * d + k) = if k = 0 ∨ k = 1 ∨ k = 5 then (2, 1) else if k = 2 ∨ k = 3 then (2, 0) else (1, 0) := by
  have hgroup : 12 * d + k < 96 := by omega
  have hplace : (12 * d + k) % 12 = k := by rw [Nat.mul_add_mod, Nat.mod_eq_of_lt hk]
  rw [pinDefault, if_pos hgroup, hplace]

theorem pinDefault_groupEight {n : Nat} (hn : 96 ≤ n) : pinDefault n = (1, 0) :=
  if_neg (Nat.not_lt.mpr hn)

theorem pinDefault_sequencerOutput {d k : Nat} (hd : d < 8) (hk : k ∈ [0, 1, 5]) : pinDefault (12 * d + k) = (2, 1) := by
  have hplace : k = 0 ∨ k = 1 ∨ k = 5 := by simpa using hk
  rw [pinDefault_doorway hd (by omega), if_pos hplace]

theorem pinDefault_logicOutput {d k : Nat} (hd : d < 8) (hk : k ∈ [2, 3]) : pinDefault (12 * d + k) = (2, 0) := by
  have hplace : k = 2 ∨ k = 3 := by simpa using hk
  rw [pinDefault_doorway hd (by omega), if_neg (by omega), if_pos hplace]

theorem pinDefault_logicInput {d k : Nat} (hd : d < 8) (hk : k ∈ [4, 6, 7, 8, 9, 10, 11]) :
    pinDefault (12 * d + k) = (1, 0) := by
  have hplace : k = 4 ∨ 6 ≤ k ∧ k < 12 := by
    simp only [List.mem_cons, List.not_mem_nil, or_false] at hk
    omega
  rw [pinDefault_doorway hd (by omega), if_neg (by omega), if_neg (by omega)]

/-- Settles O53: each row of the table of R234 is a row of the pin table, and neither set has a default of its own. -/
theorem pinDefaultsFollowTheTable : Obligations.PinDefaultsFollowTheTable := by
  unfold Obligations.PinDefaultsFollowTheTable
  intro set _
  refine ⟨fun d hd => ⟨fun k hk => ?_, fun k hk => ?_, fun k hk => ?_⟩, fun n hn _ => ?_⟩
  · exact Par.dflt_io_of_pinDefault (pinDefault_sequencerOutput hd hk) set
  · exact Par.dflt_io_of_pinDefault (pinDefault_logicOutput hd hk) set
  · exact Par.dflt_io_of_pinDefault (pinDefault_logicInput hd hk) set
  · exact Par.dflt_io_of_pinDefault (pinDefault_groupEight hn) set

end Sys2Proof.Machine
end

section
/-! PROOF. The lockout of an address after failed LOGINs (R297): when an address is locked out, what a failed LOGIN adds, how a
LOGIN from a locked address is refused, and the obligation on it (O54). -/

namespace Sys2Proof.Machine

/-! ## When an address is locked out -/

theorem lockedOut_iff {s : State} {src : Nat} :
    lockedOut s src = true ↔ ∃ until_, get s.kcp.lockouts src = some until_ ∧ s.us < until_ := by
  unfold lockedOut
  split <;> simp_all

/-- An address with a lockout on record is locked out until the time recorded. -/
theorem lockedOut_iff_of_get {s : State} {src until_ : Nat} (h : get s.kcp.lockouts src = some until_) :
    lockedOut s src = true ↔ s.us < until_ := by
  simp [lockedOut_iff, h]

theorem lockedOut_congr {s t : State} (hlock : s.kcp.lockouts = t.kcp.lockouts) (hus : s.us = t.us) (src : Nat) :
    lockedOut s src = lockedOut t src := by
  rw [lockedOut, lockedOut, hlock, hus]

/-! ## What a failed LOGIN adds -/

/-- The failures of an address in the last 60 s, as a failed LOGIN counts them. -/
def recentFailures (s : State) (src : Nat) : List (Nat × Nat) :=
  s.kcp.logins.filter fun x => x.1 = src && s.us < x.2 + 60000000

theorem loginFailed_of_fewer {s : State} {src : Nat} (h : (recentFailures s src).length < 4) :
    loginFailed src s = s.modKcp fun k => { k with logins := (src, s.us) :: k.logins } := by
  have hfew : ¬ 4 ≤ (recentFailures s src).length := Nat.not_le.mpr h
  unfold recentFailures at hfew
  simp only [loginFailed, hfew, decide_false, Bool.false_and, Bool.false_eq_true, if_false]

/-- The fifth failure locks the address out for 60 s from now. -/
theorem loginFailed_lockouts_of_fifth {s : State} {src : Nat} (hfree : lockedOut s src = false)
    (h : 4 ≤ (recentFailures s src).length) :
    (loginFailed src s).kcp.lockouts = put s.kcp.lockouts src (s.us + 60000000) := by
  have hfree' : lockedOut (s.modKcp fun k => { k with logins := (src, s.us) :: k.logins }) src = false :=
    (lockedOut_congr rfl rfl src).trans hfree
  unfold recentFailures at h
  simp only [loginFailed, h, hfree', decide_true, Bool.not_false, Bool.and_self, if_true, State.modKcp_kcp, State.modKcp_us]

theorem get_lockouts_loginFailed_of_fifth {s : State} {src : Nat} (hfree : lockedOut s src = false)
    (h : 4 ≤ (recentFailures s src).length) :
    get (loginFailed src s).kcp.lockouts src = some (s.us + 60000000) := by
  rw [loginFailed_lockouts_of_fifth hfree h, get_put_same]

/-- Fewer than five failures lock nothing out. -/
theorem lockedOut_loginFailed_of_fewer {s : State} {src : Nat} (h : (recentFailures s src).length < 4) (a : Nat) :
    lockedOut (loginFailed src s) a = lockedOut s a := by
  rw [loginFailed_of_fewer h]
  exact lockedOut_congr rfl rfl a

/-! ## A LOGIN from an address that is locked out

The lockout is looked at first, so neither the nonce nor the tag decides. -/

theorem loginRefuses_of_lockedOut {s : State} {src : Nat} (h : lockedOut s src = true) (b : Bytes) :
    loginRefuses s src b = some (.authFailed, 3) :=
  if_pos h

/-- Refused with detail 3, and not counted as a further failure. -/
theorem loginOp_of_lockedOut {q : Req} {s : State} (h : lockedOut s q.src = true) :
    loginOp q s = (s, .bad .authFailed 3) := by
  simp [loginOp, loginRefuses_of_lockedOut h]

theorem loginPacket_of_lockedOut {p : Packet} {s : State} (h : lockedOut s p.q.src = true) :
    loginPacket p s = early p .authFailed 3 s := by
  simp [loginPacket, loginRefuses_of_lockedOut h]

/-- Settles O54: the fifth failure puts the lockout on record, fewer leave the record as it was, and of a locked address both
the packet's checks and the command itself refuse the LOGIN before anything else. -/
theorem failedLoginsLockTheAddressOut : Obligations.FailedLoginsLockTheAddressOut := by
  unfold Obligations.FailedLoginsLockTheAddressOut
  refine ⟨fun src s hfree => ⟨fun hfifth => ?_, fun hfewer => ?_⟩, fun q s hready hlocked => ?_, fun p s hlocked => ?_⟩
  · have hget := get_lockouts_loginFailed_of_fifth hfree hfifth
    exact ⟨hget, fun t ht => lockedOut_iff_of_get (ht ▸ hget)⟩
  · exact (lockedOut_loginFailed_of_fewer hfewer src).trans hfree
  · have hanswer := kcpNow_ready (h := loginOp q) hready
    rw [loginOp_of_lockedOut hlocked] at hanswer
    exact congrArg (fun t => Host.Outcome.next (settle s.pending t)) hanswer
  · exact loginPacket_of_lockedOut hlocked

end Sys2Proof.Machine
end

section
/-! PROOF. What every command has in common: it completes with a settled state, so the queue and the gating of the safe outputs
(R26) need no look at its effect; and the obligations on the step, the queue, the outputs and a module that does not run
(O1 to O6). -/

namespace Sys2Proof.Machine

/-! ## Every command answers a settled state -/

/-- Every command completes, and what it answers is settled: the queue put back, the safe outputs gated. -/
theorem exec_eq_next_settle (c : Instr) (s : State) : ∃ t, exec c s = .next (settle s.pending t) := by
  cases c <;> exact ⟨_, rfl⟩

/-- A command whose row acts on a running module only leaves a module without supply or asleep as it is. -/
theorem answerOn_unlit {s : State} (h : s.lit = false) (f : State → State) :
    answerOn s f = .next (settle s.pending s) := by
  simp [h]

/-! ## The step -/

/-- Settles O1: the step matches on the queue. -/
theorem stepRunsTheFrontCommand : Obligations.StepRunsTheFrontCommand := by
  unfold Obligations.StepRunsTheFrontCommand
  intro c rest s hqueue
  rw [step, hqueue]

/-- Settles O2: the step matches on the queue. -/
theorem stepIdlesOnAnEmptyQueue : Obligations.StepIdlesOnAnEmptyQueue := by
  unfold Obligations.StepIdlesOnAnEmptyQueue
  intro s hqueue
  rw [step, hqueue]

/-- Settles O3: a settled state has the queue that it was settled with. -/
theorem everyCommandKeepsTheQueue : Obligations.EveryCommandKeepsTheQueue := by
  unfold Obligations.EveryCommandKeepsTheQueue
  intro c s
  obtain ⟨t, ht⟩ := exec_eq_next_settle c s
  exact ⟨_, ht, settle_pending s.pending t⟩

/-- Settles O4: an idle step keeps the state, and every command answers a settled state, whose outputs are gated. -/
theorem stepKeepsTheOutputsGated : Obligations.StepKeepsTheOutputsGated := by
  unfold Obligations.StepKeepsTheOutputsGated
  intro s t hgated hstep
  cases hqueue : s.pending with
  | nil =>
    rw [stepIdlesOnAnEmptyQueue s hqueue] at hstep
    cases hstep
    exact hgated
  | cons c rest =>
    rw [stepRunsTheFrontCommand c rest s hqueue] at hstep
    obtain ⟨u, hu⟩ := exec_eq_next_settle c { s with pending := rest }
    rw [hu] at hstep
    cases hstep
    exact settle_gated rest u

/-! ## The state after reset -/

theorem out_reset (o : Nat) (ho : o < 4) : (State.reset.out o).isOpen := by
  interval_cases o <;> exact ⟨rfl, rfl⟩

theorem pin_reset (n : Nat) (hn : n < 112) : State.reset.pin n = Pin.reset := by
  simp [State.pin, State.reset, hn]

/-- Settles O5: the state after reset is written out. -/
theorem resetHasTheOutputsOpen : Obligations.ResetHasTheOutputsOpen := by
  unfold Obligations.ResetHasTheOutputsOpen
  refine ⟨fun _ o ho => out_reset o ho, out_reset, rfl, rfl, rfl, fun n hn => ?_⟩
  rw [pin_reset n hn]
  rfl

/-- Settles O6: the rows outside the list are those that answer through `answerOn`. -/
theorem unlitModuleDoesNothing : Obligations.UnlitModuleDoesNothing := by
  unfold Obligations.UnlitModuleDoesNothing
  intro c s hunlit
  cases c
  case powerOn | wake | logicInterruption | logicBridged | powerFailWarning | holdupRelease | lowLogic | safeContactChange =>
    trivial
  all_goals exact answerOn_unlit hunlit _

end Sys2Proof.Machine
end

section
/-! PROOF. Commands of the host: a row whose effect is known on a running module, a request that is ready and the reply of its own
rules; and the obligations on sessions, parameters, events, the safety configuration, reads and firmware (O8, O9, O12, O13,
O18 to O20). -/

namespace Sys2Proof.Machine

/-! ## From the effect of a row to its answer -/

variable {c : Instr} {op : Nat} {q : Req} {s t : State} {o : Outcome}

/-- On a running module a row has the effect that stands behind it. -/
theorem answers_of_lit {f : State → State} (hexec : exec c s = answerOn s f) (hlit : s.lit = true) (hf : f s = t) :
    Answers c s t := by
  rw [Answers, hexec, answerOn_lit hlit, hf]

/-- The same for a claim about the state that the command answers. -/
theorem exec_of_lit {f : State → State} {P : State → Prop} (hexec : exec c s = answerOn s f) (hlit : s.lit = true)
    (hf : P (settle s.pending (f s))) : ∃ t, exec c s = .next t ∧ P t :=
  ⟨_, hexec.trans (answerOn_lit hlit f), hf⟩

/-- A row that finds no condition for its effect, on a running module or not. -/
theorem answers_self {f : State → State} (hexec : exec c s = answerOn s f) (hf : f s = s) : Answers c s s := by
  rw [Answers, hexec, answerOn_eq, hf, ite_self]

/-- A request that is ready gets the reply of its own rules, from the state that they give. -/
theorem replies_of_ready {h : State → State × Outcome} (hexec : exec c s = answerOn s (kcpNow op q h)) (hready : Ready s op q)
    (hh : h (touch q.session s) = (t, o)) : Replies c op q o s t := by
  rw [Replies, Answers, hexec, answerOn_eq, kcpNow_ready hready, hh]

/-- A request that is ready and is answered later leaves the state that its own rules give. -/
theorem answers_of_unanswered {h : State → State × Option (Outcome × Bool)} (hexec : exec c s = answerOn s (kcp op q h))
    (hready : Ready s op q) (hh : h (touch q.session s) = (t, none)) : Answers c s t := by
  rw [Answers, hexec, answerOn_eq, kcp_ready hready, hh]
  rfl

/-- A request that is ready and is answered at once, with MORE or without. -/
theorem answers_of_answered {h : State → State × Option (Outcome × Bool)} {more : Bool}
    (hexec : exec c s = answerOn s (kcp op q h)) (hready : Ready s op q) (hh : h (touch q.session s) = (t, some (o, more))) :
    Answers c s (afterReply (replyWith (replySeal (touch q.session s) op q) op q o more t)) := by
  rw [Answers, hexec, answerOn_eq, kcp_ready hready, hh]
  rfl

/-! ## Sessions (R293, R296, R297, R315) -/

theorem loginOp_accepted (hfree : loginRefuses s q.src q.payload = none)
    (hkey : rd q.payload 0 1 = 3 → keyTurned (useNonce ((q.payload.drop 4).take 8) s) = true)
    (hroom : (useNonce ((q.payload.drop 4).take 8) s).kcp.sessions.length < 8)
    (hsole : rd q.payload 0 1 = 3 → ∀ y ∈ (useNonce ((q.payload.drop 4).take 8) s).kcp.sessions, y.role ≠ 3) :
    let s1 := useNonce ((q.payload.drop 4).take 8) s
    let x : Session := { id := newId s1, role := rd q.payload 0 1, port := q.port, src := q.src,
                         key := (vget s1.net.keys (rd q.payload 0 1) none).getD [],
                         nonce := (q.payload.drop 4).take 16, h := q.seq, seen := [], cache := [],
                         aliveUntil := s1.us + 1000000 * s1.netN .kcpKeepaliveS }
    loginOp q s = ({ s1 with fresh := s1.fresh + 1, kcp := { s1.kcp with sessions := s1.kcp.sessions ++ [x] } },
      .ok (le 4 x.id ++ le 2 (s1.netN .kcpKeepaliveS) ++ [0, 0])) := by
  intro s1 x
  have hkey' : (decide (rd q.payload 0 1 = 3) && !keyTurned s1) = false := by
    by_cases h3 : rd q.payload 0 1 = 3 <;> simp [h3, s1, hkey]
  have hroom' : (decide (8 ≤ s1.kcp.sessions.length) ||
      (decide (rd q.payload 0 1 = 3) && s1.kcp.sessions.any fun y => decide (y.role = 3))) = false := by
    have hlength : decide (8 ≤ s1.kcp.sessions.length) = false := decide_eq_false (Nat.not_le.mpr hroom)
    by_cases h3 : rd q.payload 0 1 = 3
    · simpa [hlength, h3] using hsole h3
    · simp [hlength, h3]
  simp only [loginOp, hfree]
  rw [if_neg (by rw [hkey']; exact Bool.false_ne_true), if_neg (by rw [hroom']; exact Bool.false_ne_true)]
  rfl

theorem effectLogout_ready (hready : Ready s opLogout q) :
    effectLogout q s = endSessions (fun x => x.id = q.session)
      (afterReply (replyWith (replySeal (touch q.session s) opLogout q) opLogout q (.ok []) false (touch q.session s))) := by
  have hreply := kcpNow_ready (h := fun s => (s, .ok [])) hready
  obtain ⟨hlit, hlistens, hgate⟩ := hready
  rw [if_pos hlit] at hreply
  simp [effectLogout, hlistens, hgate, hreply]

/-- Settles O8: each command of the protocol is its own rules behind the checks, and the timers and the replies of other members
are matches on what they find. -/
theorem sessionCommandsComplete : Obligations.SessionCommandsComplete := by
  unfold Obligations.SessionCommandsComplete
  refine ⟨fun q s hready => ?hello, fun q s hready hfree hkey hroom hsole => ?login, fun q s hready => ?logout,
    fun q s hready => ?keepalive, fun id x s hlit hfind => ?expiry, fun src until_ s hlit hget => ?lockout,
    fun m seq st d more b x s hlit hof => ?reply, fun m seq x s hlit hof => ?timeout, fun r s => ?emit⟩
  case hello => exact replies_of_ready (h := fun s => _) rfl hready rfl
  case login => exact replies_of_ready rfl hready (loginOp_accepted hfree hkey hroom hsole)
  case logout => exact answers_of_lit rfl hready.1 (effectLogout_ready hready)
  case keepalive => exact replies_of_ready (h := fun s => (s, .ok [])) rfl hready rfl
  case expiry => exact answers_of_lit rfl hlit (by simp only [effectKeepaliveExpiry, hfind])
  case lockout => exact answers_of_lit rfl hlit (by simp only [effectLockoutEnd, hget]; rfl)
  case reply => exact answers_of_lit rfl hlit (by simp only [effectForwardReply, hof])
  case timeout => exact answers_of_lit rfl hlit (by simp only [effectForwardTimeout, hof])
  case emit => simp

/-! ## Parameters (R300, R301) -/

/-- Settles O9: each command is its operation behind the checks of the protocol. -/
theorem parameterCommandsComplete : Obligations.ParameterCommandsComplete := by
  unfold Obligations.ParameterCommandsComplete
  refine ⟨fun q s hready hcount => ?_, fun q s hready hcount => ?_, fun q s hready => ?_, fun q s hready => ?_⟩
  · exact replies_of_ready rfl hready (by simp only [hcount, Bool.false_eq_true, if_false])
  · exact replies_of_ready rfl hready (by simp only [hcount, Bool.false_eq_true, if_false])
  · exact answers_of_answered (h := fun s => _) rfl hready rfl
  · exact replies_of_ready (h := fun s => _) rfl hready rfl

/-! ## Event sources (R303, R304, R461, R462) -/

/-- What a raise does to a reading of the event sources that the record of the raise leaves alone: the counters and vectors of
R458. -/
theorem raiseBy_ev {β : Type} (g : Events → β) (hg : ∀ v r f, g (v.setFold r f) = g v) {e : Nat} (origin detail : Nat) (inj : Bool)
    {s : State} (hon : sourceOn s e = true) :
    g (raiseBy e origin detail inj s).ev =
      g { s.ev with
          raiseSeq := wrap32 (s.ev.raiseSeq + 1), lastRaise := put s.ev.lastRaise e (wrap32 (s.ev.raiseSeq + 1))
          sticky := vset s.ev.sticky e true
          pending := if bit (s.evN e .cfg) 15 then vset s.ev.pending e true else s.ev.pending
          injVec := vset s.ev.injVec e inj, raises := inc32 s.ev.raises } := by
  unfold raiseBy
  rw [if_pos hon, recordRaise_keeps g hg]
  split <;> simp only [releaseTasks_ev] <;> rfl

@[simp] theorem vget_vset_same {α : Type} {n : Nat} (v : Vector α n) {i : Nat} (hi : i < n) (x d : α) :
    vget (vset v i x) i d = x := by
  simp [vget, vset, hi]

/-- Settles O13: the commands are their operations behind the checks, and a raise marks the vectors of its source. -/
theorem eventCommandsComplete : Obligations.EventCommandsComplete := by
  unfold Obligations.EventCommandsComplete
  refine ⟨fun q s hready => ?poll, fun q s hready hnew => ?ack, fun q s hready hcase => ?inject,
    fun e origin detail inj s he hon => ?raised⟩
  case poll => exact replies_of_ready (h := fun s => _) rfl hready rfl
  case ack => exact replies_of_ready rfl hready (by simp only [hnew, Bool.false_eq_true, if_false])
  case inject => exact replies_of_ready rfl hready (by simp only [hcase, ne_eq, not_true_eq_false, if_false])
  case raised =>
    have hkeeps := setFold_keeps
    refine ⟨?_, ?_, ?_, fun hpending => ?_, fun hpending => ?_⟩
    · rw [raiseBy_ev (fun v => vget v.sticky e false) (by simp [hkeeps]) origin detail inj hon, vget_vset_same _ he]
    · rw [raiseBy_ev (fun v => vget v.injVec e (!inj)) (by simp [hkeeps]) origin detail inj hon, vget_vset_same _ he]
    · rw [raiseBy_ev Events.raiseSeq (by simp [hkeeps]) origin detail inj hon]
    · rw [raiseBy_ev (fun v => vget v.pending e false) (by simp [hkeeps]) origin detail inj hon, if_pos hpending,
        vget_vset_same _ he]
    · rw [raiseBy_ev Events.pending (by simp [hkeeps]) origin detail inj hon]
      simp [hpending]

end Sys2Proof.Machine
end

section
/-! PROOF. Writes of one register or block, the safety configuration, and the requests of the logic, the journal, time, the herd,
Graze and firmware: each behind the checks of the protocol (O10 to O12, O17 to O20). -/

namespace Sys2Proof.Machine

/-! ## Keys of what a row names (R11, R319) -/

theorem groupInsts_le (g : Nat) : groupInsts g ≤ 256 := by
  unfold groupInsts
  split_ifs <;> omega

/-- The three fields that a key is made of are the fields that it is read by. -/
theorem fields_of_key {g i x : Nat} (hi : i < groupInsts g) (hx : x < 65536) :
    let k := g * 16777216 + i * 65536 + x
    k / 16777216 = g ∧ k / 65536 % 256 = i ∧ k % 65536 = x := by
  have hi' := Nat.lt_of_lt_of_le hi (groupInsts_le g)
  simp only
  omega

/-- A scalar that its three fields name is named by its key. -/
theorem keyOf_key_of_scalarOf {p : Par} (hi : p.inst < groupInsts p.group) (hx : p.idx < 0x8000)
    (hof : scalarOf p.group p.inst p.idx = some p) : keyOf p.key = some (.scalar p) := by
  obtain ⟨hgroup, hinst, hidx⟩ := fields_of_key hi (show p.idx < 65536 by omega)
  simp only [keyOf, Par.key, hgroup, hinst, hidx, if_pos hi, if_neg (Nat.not_le.mpr hx), hof, Option.map_some]

/-! ## Rows of one register (R323) -/

theorem countBad_onePayload {p : Par} {v : Int} (hk : p.key < 256 ^ 4) : countBad (onePayload p v) = false := by
  simp [countBad, (onePayload_fields (v := v) hk).1]

/-- A row whose effect is the PARAM_WRITE of a register that has a key writes that register. -/
theorem writesRegister_of_key {c : Instr} {p : Par} {w : RegWrite} (hexec : ∀ s, exec c s = answerOn s (effectRegWrite p w))
    (hi : p.inst < groupInsts p.group) (hx : decide (p.idx < 0x8000) = true) (hof : scalarOf p.group p.inst p.idx = some p) :
    WritesRegister c p w := by
  intro s q s0 v st hready hgood
  have hkeyOf := keyOf_key_of_scalarOf hi (of_decide_eq_true hx) hof
  have hk : p.key < 256 ^ 4 := (key_lt_of_lt_groupInsts (scalarOf_of_keyOf hkeyOf).1).trans_eq (by decide)
  refine replies_of_ready (h := fun s => if countBad q.payload then (s, .bad .outOfRange 0)
    else paramWriteOp (writerOf s q) q.payload s) (hexec s) hready ?_
  simp only [q, regReq, countBad_onePayload hk, Bool.false_eq_true, if_false]
  rw [paramWriteOp_one hk hkeyOf rfl]
  exact congrArg (·, _) (if_pos hgood)

theorem netPar_has_key (r : NetReg) : (netPar r).inst < groupInsts (netPar r).group ∧ decide ((netPar r).idx < 0x8000) = true
    ∧ scalarOf (netPar r).group (netPar r).inst (netPar r).idx = some (netPar r) := by
  cases r
  case ipAddr p | ipMask p | gateway p => revert p; decide +kernel
  case prpMode | prpWindow | prpAge | prpSup => exact ⟨by decide, rfl, rfl⟩

theorem latchCfg_has_index (l : Fin 2) : decide ((AxP.latchCfg l.val).idx < 0x8000) = true
    ∧ AxP.ofIdx (AxP.latchCfg l.val).idx = some (.latchCfg l.val) := by
  revert l; decide +kernel

/-- Settles O10: each row is the PARAM_WRITE of its register, and the register has a key. -/
theorem registerRowsWriteTheirRegister : Obligations.RegisterRowsWriteTheirRegister := by
  unfold Obligations.RegisterRowsWriteTheirRegister
  intro w
  refine ⟨fun d => ?_, ?_, ?_, ?_, fun a => ?_, fun o => ?_, fun n => ?_, fun n => ?_, fun n => ?_, ?_, fun r => ?_, ?_, fun r => ?_,
    fun f => ?_, fun a l => ?_, fun q => ?_, fun q => ?_, fun q => ?_⟩
  · exact writesRegister_of_key (fun _ => rfl) d.isLt rfl rfl
  · exact writesRegister_of_key (fun _ => rfl) (by decide) rfl rfl
  · exact writesRegister_of_key (fun _ => rfl) (by decide) rfl rfl
  · exact writesRegister_of_key (fun _ => rfl) (by decide) rfl rfl
  · exact writesRegister_of_key (fun _ => rfl) a.isLt rfl rfl
  · exact writesRegister_of_key (fun _ => rfl) (by decide +revert) (by revert o; decide) (by revert o; decide +kernel)
  · exact writesRegister_of_key (fun _ => rfl) n.isLt rfl rfl
  · exact writesRegister_of_key (fun _ => rfl) n.isLt rfl rfl
  · exact writesRegister_of_key (fun _ => rfl) n.isLt rfl rfl
  · exact writesRegister_of_key (fun _ => rfl) (by decide) rfl rfl
  · exact writesRegister_of_key (fun _ => rfl) (by cases r <;> decide) (by cases r <;> rfl) (by cases r <;> rfl)
  · exact writesRegister_of_key (fun _ => rfl) (by decide) rfl rfl
  · obtain ⟨hi, hx, hof⟩ := netPar_has_key r
    exact writesRegister_of_key (fun _ => rfl) hi hx hof
  · exact writesRegister_of_key (fun _ => rfl) f.isLt rfl rfl
  · exact writesRegister_of_key (fun _ => rfl) a.isLt (latchCfg_has_index l).1
      (congrArg (Option.map (Par.ax a.val)) (latchCfg_has_index l).2)
  · exact writesRegister_of_key (fun _ => rfl) (by decide) rfl rfl
  · exact writesRegister_of_key (fun _ => rfl) (by decide) rfl rfl
  · exact writesRegister_of_key (fun _ => rfl) (by decide) rfl rfl

/-! ## Rows of one block (R301) -/

/-- A row whose effect is the write of a whole block writes that block. -/
theorem writesBlock_of_wholeWrite {c : Instr} {b : Blk} {q : Req} {data : Bytes}
    (hexec : ∀ s, exec c s = answerOn s (wholeWrite b q data)) : WritesBlock c b q data := by
  intro s r s0 hready hrefuses hsize hok hstate
  refine replies_of_ready (h := fun s => match blockRefuses s (writerOf s q) b q.more with
      | some x => (s, .bad x.1 x.2)
      | none => blockApply b data s) (hexec s) hready ?_
  have hrefuses' : blockRefuses (touch r.session s) (writerOf (touch r.session s) q) b q.more = none := hrefuses
  have happly : blockApply b data s0 = ((blockDo b data s0).1, ⟨(blockDo b data s0).2, 0, []⟩) := by
    simp only [blockApply, hsize, ne_eq, not_true_eq_false, if_false, hok, Bool.not_true, Bool.false_eq_true, hstate]
  simp only [hrefuses']
  exact happly

/-- Settles O11: each row writes its whole block; the row of a role key does so for every role but 0. -/
theorem blockRowsWriteTheirBlock : Obligations.BlockRowsWriteTheirBlock := by
  unfold Obligations.BlockRowsWriteTheirBlock
  intro q data
  refine ⟨fun a u => ?_, fun a => ?_, fun t => ?_, fun t => ?_, fun r hr => ?_⟩
  · exact writesBlock_of_wholeWrite fun _ => rfl
  · exact writesBlock_of_wholeWrite fun _ => rfl
  · exact writesBlock_of_wholeWrite fun _ => rfl
  · exact writesBlock_of_wholeWrite fun _ => rfl
  · refine writesBlock_of_wholeWrite fun s => congrArg (answerOn s) (funext fun s => ?_)
    rw [effectKeyWrite, if_neg hr]

/-! ## The safety configuration (R227, R229, R291, R302, R329) -/

/-- A command in progress whose session lives ends with the reply of its own rules (R291). -/
theorem finish_of_session {op : Nat} {q : Req} {h : State → State × Outcome} {s : State}
    (hsession : (sessionOf s q.session).isSome = true) : finish op q h s = reply op q (h s).2 false (h s).1 := by
  simp [finish, Option.isNone_eq_false_iff.mpr hsession]

/-- The counts of every axis frozen at an exchange (R24). -/
def freezeCounts (s : State) : State :=
  each 24 (fun s a => s.modFb a fun b => { b with frozen := b.count, dupFrozen := b.dup }) s

@[simp] theorem freezeCounts_saf (s : State) : (freezeCounts s).saf = s.saf :=
  each_keeps State.saf 24 _ (fun s i => State.modFb_saf s i _) s
@[simp] theorem freezeCounts_boot (s : State) : (freezeCounts s).boot = s.boot :=
  each_keeps State.boot 24 _ (fun s i => State.modFb_boot s i _) s
@[simp] theorem freezeCounts_us (s : State) : (freezeCounts s).us = s.us :=
  each_keeps State.us 24 _ (fun s i => State.modFb_us s i _) s

/-- The quantities that differ between the lanes at an exchange, once the counts are frozen (R25). -/
def exchangeFindings (s : State) : List Nat :=
  disagreements (freezeCounts s) fun a =>
    ((((freezeCounts s).axis a).fb.dupFrozen - (s.axis a).fb.dupFrozen : Int) : Rat) * umCount (freezeCounts s) a * 1000

/-- What two running lanes note of an exchange (R24 to R26). -/
theorem crossLaneExchange_eq {s : State} (h : exchanging s = true) :
    crossLaneExchange s = (freezeCounts s).modLanes fun l => { l with
      disagree := (exchangeFindings s).map fun q => (q, min 10 (getD l.disagree q 0 + 1))
      goodRun := if exchangeFindings s = [] then min 100 (l.goodRun + 1) else 0
      exchangedAt := some (freezeCounts s).us, slotsI := 0, slotsC := 0
      stateB := Vector.ofFn fun p : Fin 32 => pairResult (freezeCounts s) .chamois p.val } := by
  unfold crossLaneExchange
  simp only [h, Bool.not_true, Bool.false_eq_true, if_false]
  rfl

/-- Of the safety functions an exchange changes the lanes' notes alone, and it keeps both lanes up. -/
theorem crossLaneExchange_keeps {s : State} (h : exchanging s = true) :
    (crossLaneExchange s).saf.commit = s.saf.commit ∧ exchanging (crossLaneExchange s) = true := by
  rw [crossLaneExchange_eq h]
  exact ⟨by simp [State.modLanes], by simpa [State.modLanes, exchanging] using h⟩

theorem exchanging_iff {s : State} :
    exchanging s = true ↔ laneUp s .ibex = true ∧ laneUp s .chamois = true ∧ s.boot.power = .on := by
  simp [exchanging, laneUp, and_assoc]

theorem effectExchange_commit {q : Req} {vals : List (Nat × Int)} {s : State} (hcommit : s.saf.commit = some (q, vals))
    (hon : s.boot.power = .on) (hibex : laneUp s .ibex = true) (hchamois : laneUp s .chamois = true) :
    effectExchange s = finish opSafCommit q (fun s => (s, .ok (le 4 s.saf.commitCount ++ le 4 s.saf.configCrc)))
      (commitDo vals ((crossLaneExchange s).modSaf fun x => { x with commit := none })) := by
  obtain ⟨hkept, hexchanging⟩ := crossLaneExchange_keeps (exchanging_iff.mpr ⟨hibex, hchamois, hon⟩)
  simp only [effectExchange, hkept, hcommit, hexchanging, if_true]

theorem lit_of_power {s : State} (h : s.boot.power = .on) : s.lit = true := by simp [State.lit, h]

/-- Settles O12: behind its checks each command is its operation; the exchange that finds an accepted commit takes it. -/
theorem safetyConfigurationCommandsComplete : Obligations.SafetyConfigurationCommandsComplete := by
  unfold Obligations.SafetyConfigurationCommandsComplete
  refine ⟨fun q s hready hfree hkey => ?verify, fun q s hlit hprogress hsession hrefuses => ?verified,
    fun q s hready hrefuses => ?commit, fun q vals s hcommit hon hibex hchamois hsession => ?exchange,
    fun q s hready => ?owner, fun q s hready hmodule => ?all, fun q s hready hmodule => ?safety,
    fun q s hready hmodule hmode hset hstore => ?defaults⟩
  case verify =>
    exact answers_of_unanswered rfl hready (by simp only [hfree, hkey, Bool.not_true, Bool.false_eq_true, if_false]; rfl)
  case verified =>
    refine answers_of_lit rfl hlit ?_
    simp only [effectSafVerifyDone, hprogress, finish_of_session hsession, hrefuses]
  case commit => exact answers_of_unanswered rfl hready (by simp only [hrefuses]; rfl)
  case exchange =>
    exact answers_of_lit rfl (lit_of_power hon)
      ((effectExchange_commit hcommit hon hibex hchamois).trans (finish_of_session hsession))
  case owner => exact replies_of_ready rfl hready rfl
  case all => exact replies_of_ready rfl hready (by simp [hmodule])
  case safety => exact replies_of_ready rfl hready (by simp [hmodule])
  case defaults =>
    have hmode' : ((touch q.session s).effMode != .maintenance) = false := bne_eq_false_iff_eq.mpr hmode
    have hset' : (rd q.payload 1 1 ≠ 1 && rd q.payload 1 1 ≠ 2) = false := by
      rcases hset with h | h <;> rw [show rd q.payload 1 1 = _ from h] <;> rfl
    have hstore' : storeFailed (touch q.session s) = false := hstore
    refine replies_of_ready rfl hready ?_
    simp only [hmodule, hmode', hset', hstore', ne_eq, not_true_eq_false, decide_false, Bool.and_false, Bool.false_eq_true,
      OfNat.ofNat_ne_zero, OfNat.ofNat_ne_one, Nat.reduceEqDiff, if_false]
    rfl

/-! ## The logic (R265, R275, R278, R281, R308) -/

/-- Settles O17: behind its checks each command is its operation; a plan that has arrived whole waits for its check. -/
theorem logicCommandsComplete : Obligations.LogicCommandsComplete := by
  unfold Obligations.LogicCommandsComplete
  refine ⟨fun q s hready hfree hidle hlow hhigh s1 all hstage => ⟨fun hmore => ?more, fun d hlast => ?last⟩,
    fun q t s hlit hprogress hsession htransfer hwhole => ?checked,
    fun q s => ⟨fun hready hstore => ?exchange, fun hready hpower => ?run, fun hready => ?stop, fun hready => ?hold,
      fun hready => ?step, fun hready hcount => ?read, fun hready => ?force⟩,
    fun s hstop hactive => ?cold, fun s hrun hidle => ?freeze⟩
  case more =>
    subst hmore
    have hlen : (rd q.payload 8 2 = 0 || 1400 < rd q.payload 8 2) = false := by simp; omega
    refine answers_of_answered rfl hready ?_
    simp only [hfree, hidle, hlen, hstage, Option.isSome_none, Bool.false_eq_true, if_false]
  case last =>
    subst hlast
    have hlen : (rd q.payload 8 2 = 0 || 1400 < rd q.payload 8 2) = false := by simp; omega
    refine answers_of_unanswered rfl hready ?_
    simp only [hfree, hidle, hlen, hstage, Option.isSome_none, Bool.false_eq_true, if_false]
    rfl
  case checked =>
    refine answers_of_lit rfl hlit ?_
    simp only [effectPlanCheckDone, hprogress, finish_of_session hsession, htransfer, hwhole, ne_eq, not_true_eq_false, if_false]
  case exchange => exact replies_of_ready rfl hready (by simp only [hstore, Bool.false_eq_true, if_false])
  case run =>
    exact ⟨replies_of_ready rfl hready (by simp only [hpower, ne_eq, not_true_eq_false, if_false]),
      replies_of_ready rfl hready (by simp only [hpower, ne_eq, not_true_eq_false, if_false])⟩
  case stop => exact replies_of_ready (h := logicStop) rfl hready rfl
  case hold => exact replies_of_ready (h := logicHold) rfl hready rfl
  case step => exact replies_of_ready (h := logicStep (tIndex q.target)) rfl hready rfl
  case read => exact replies_of_ready rfl hready (by simp only [hcount, Bool.false_eq_true, if_false])
  case force => exact ⟨replies_of_ready (h := fun s => _) rfl hready rfl, replies_of_ready (h := fun s => _) rfl hready rfl⟩
  case cold => simp [logicRun, hstop, Option.isNone_eq_false_iff.mpr hactive]
  case freeze => simp [logicHold, hrun, hidle, State.modLogic]

/-! ## The journal (R309, R310, R393, R394) -/

/-- Settles O18: behind its checks each command is its operation; the stream is opened, refilled and closed by its session. -/
theorem journalCommandsComplete : Obligations.JournalCommandsComplete := by
  unfold Obligations.JournalCommandsComplete
  refine ⟨fun q s => ⟨fun hready => ?read, fun hready => ?stats, fun hready hregion => ?seals⟩,
    fun q s hready hgood hown => ?open_, fun q t s hready hstream hown hlow hhigh => ?credit,
    fun q t s hready hstream hown => ?close, fun t s hlit hlistens hstream hsamples hcredit => ?packet⟩
  case read => exact replies_of_ready (h := fun s => _) rfl hready rfl
  case stats => exact replies_of_ready (h := fun s => _) rfl hready rfl
  case seals => exact replies_of_ready rfl hready (by simp only [hregion, Bool.false_eq_true, if_false])
  case open_ =>
    refine answers_of_unanswered rfl hready ?_
    cases hstream : (touch q.session s).kcp.stream with
    | none =>
      simp only [hgood, Bool.false_eq_true, if_false]
      rfl
    | some t =>
      simp only [hgood, hown t hstream, bne_self_eq_false, Bool.false_eq_true, if_false]
      rfl
  case credit =>
    refine answers_of_unanswered rfl hready ?_
    have hsize : (rd q.payload 8 4 = 0 || 65535 < rd q.payload 8 4) = false := by simp; omega
    simp only [hstream, hown, hsize, ne_eq, not_true_eq_false, Bool.false_eq_true, if_false]
    rfl
  case close => exact replies_of_ready rfl hready (by simp only [State.modKcp, hstream, hown, if_true])
  case packet =>
    refine answers_of_lit rfl hlit ?_
    simp only [effectStreamPacket, hstream, hlistens, hsamples, hcredit, Bool.not_true, decide_false, Bool.or_self,
      Bool.false_eq_true, if_false]
    rfl

/-! ## Time, the herd and Graze (R311 to R313, R345, R374, R472) -/

theorem notMember_iff {s : State} : (!(s.herd.role == .master || s.herd.role == .solo)) = false ↔
    s.herd.role = .master ∨ s.herd.role = .solo := by
  rw [Bool.not_eq_false', Bool.or_eq_true, beq_iff_eq, beq_iff_eq]

/-- Settles O19: behind its checks each command is its operation. -/
theorem timeHerdAndGrazeCommandsComplete : Obligations.TimeHerdAndGrazeCommandsComplete := by
  unfold Obligations.TimeHerdAndGrazeCommandsComplete
  intro q s
  refine ⟨fun hready => ?time, fun hready => ?herd, fun hready => ?graze, fun hready step when_ hnet hrefused hvalue => ?accept,
    fun hready hrole hmode hahead hfree => ?prepare, fun hready hrole hpend hepoch hopen hahead => ?abort,
    fun hready hlow hhigh => ?one, fun hready hall => ?all⟩
  case time => exact replies_of_ready (h := fun s => _) rfl hready rfl
  case herd => exact replies_of_ready (h := fun s => _) rfl hready rfl
  case graze => exact replies_of_ready (h := fun s => _) rfl hready rfl
  case accept =>
    refine replies_of_ready (h := timeAccept _ _) rfl hready ?_
    simp only [timeAccept, if_neg (Nat.not_lt.mpr hnet), hrefused, if_pos hvalue]
  case prepare =>
    refine replies_of_ready (h := herdPrepare _ _) rfl hready ?_
    have hfits : (4 < rd q.payload 0 1 || rd q.payload 4 8 < (touch q.session s).herd.cycle + 6) = false := by
      simp only [Bool.or_eq_false_iff, decide_eq_false_iff_not]
      omega
    simp only [herdPrepare, notMember_iff.mpr hrole, hfits, hfree, Option.isSome_none, Bool.false_eq_true, if_false]
    rfl
  case abort =>
    refine replies_of_ready (h := herdAbort _) rfl hready ?_
    have hnone : (touch q.session s).herd.pendMode.isNone = false := Option.isNone_eq_false_iff.mpr hpend
    have hlate : ((touch q.session s).herd.applyAt < (touch q.session s).herd.cycle + 5) = False := by simp; omega
    have hnow : ((touch q.session s).herd.applyAt = (touch q.session s).herd.cycle + 5) = False := by simp; omega
    simp [herdAbort, notMember_iff.mpr hrole, hnone, hepoch, hopen, hlate, hnow]
  case one =>
    refine replies_of_ready (h := grazeNow _) rfl hready ?_
    have hnot : rd q.payload 0 2 ≠ 0xFFFF := by omega
    simp only [grazeNow, if_neg hnot, hlow, hhigh, decide_true, Bool.and_self, if_true]
    rfl
  case all =>
    refine replies_of_ready (h := grazeNow _) rfl hready ?_
    simp only [grazeNow, if_pos hall]
    rfl

/-! ## Firmware (R291, R314, R422) -/

@[simp] theorem archive_boot (kind oldCrc newCrc count per : Nat) (data : Bytes) (s : State) :
    (archive kind oldCrc newCrc count per data s).boot = s.boot := by
  unfold archive
  split
  · rfl
  · exact each_keeps State.boot _ _ (fun s i => putRec_boot 3 _ s) s

/-- Settles O20: behind its checks each command is its operation; the archive record of an activation leaves the banks alone. -/
theorem firmwareCommandsComplete : Obligations.FirmwareCommandsComplete := by
  unfold Obligations.FirmwareCommandsComplete
  refine ⟨fun q s hready hfree hlow hhigh => ?begin_, fun q f s hready hfree hsize hidle hlow hhigh hnext hfits => ?chunk,
    fun q s hready hfree hidle => ?verify, fun q s hlit hprogress hsession hgood => ?verified,
    fun q s hready hmode hverified => ⟨?later, fun hrestart => ?now⟩⟩
  case begin_ =>
    have hlen : (rd q.payload 0 4 = 0 || 16777216 < rd q.payload 0 4) = false := by simp; omega
    refine replies_of_ready rfl hready ?_
    simp only [hfree, hlen, Bool.false_eq_true, if_false]
    rfl
  case chunk =>
    have hlen : (rd q.payload 4 2 = 0 || 1400 < rd q.payload 4 2) = false := by simp; omega
    have hgap : (rd q.payload 0 4 ≠ (touch q.session s).boot.fwImage.length ||
        f.1 < (touch q.session s).boot.fwImage.length + rd q.payload 4 2) = false := by
      simp; omega
    refine replies_of_ready rfl hready ?_
    simp only [hfree, hsize, hidle, hlen, hgap, Bool.false_eq_true, if_false, State.modBoot]
  case verify =>
    refine answers_of_unanswered rfl hready ?_
    simp only [hfree, hidle, Option.isSome_none, Bool.false_eq_true, if_false]
    rfl
  case verified =>
    refine answers_of_lit rfl hlit ?_
    simp only [effectFwVerifyDone, hprogress, finish_of_session hsession, hgood]
    rfl
  case later =>
    refine replies_of_ready rfl hready ?_
    simp only [hmode, hverified, bne_self_eq_false, Bool.not_true, Bool.false_eq_true, Bool.false_and, if_false]
    simp [State.modBoot, b2n]
  case now =>
    refine replies_of_ready rfl hready ?_
    simp only [hmode, hverified, hrestart, bne_self_eq_false, Bool.not_true, Bool.false_eq_true, Bool.and_false, if_false]
    simp [State.modBoot, b2n]

end Sys2Proof.Machine
end

section
/-! PROOF. Door requests and motion commands of the host: how they wait for the sequencer pass, what the pass does with each of
them, and the transitions of R42 on a request (O14 to O16). -/

namespace Sys2Proof.Machine

/-! ## Waiting for the pass (R31, R57, R291) -/

/-- A door request that is ready waits at the end of the requests. -/
theorem answers_doorCmd {c : Instr} {op : Nat} {k : DoorOp} {q : Req} {s : State}
    (hexec : exec c s = answerOn s (doorCmd op k q)) (hready : Ready s op q) :
    Answers c s { touch q.session s with reqs := (touch q.session s).reqs ++ [⟨.kcp op q, k, tIndex q.target⟩] } :=
  answers_of_unanswered hexec hready rfl

/-- A motion command that is ready waits there for the doorway of its target. -/
theorem answers_motionCmd {c : Instr} {op : Nat} {k : DoorOp} {q : Req} {s : State}
    (hexec : exec c s = answerOn s (motionCmd op k q)) (hready : Ready s op q) :
    Answers c s { touch q.session s with reqs := (touch q.session s).reqs ++ [⟨.kcp op q, k, doorOfTarget q⟩] } :=
  answers_of_unanswered hexec hready rfl

/-! ## The pass -/

/-- A request is left without an answer of its own only where its session has ended. -/
def requestLives (s : State) (r : DoorReq) : Bool :=
  match r.src with
  | .kcp _ q => q.session = 0 || (sessionOf s q.session).isSome
  | _ => true

theorem requestLives_of_session {s : State} {r : DoorReq}
    (h : ∀ op q, r.src = .kcp op q → q.session = 0 ∨ (sessionOf s q.session).isSome = true) : requestLives s r = true := by
  unfold requestLives
  cases hsrc : r.src with
  | kcp op q => simpa using h op q hsrc
  | _ => rfl

/-- What a pass does with the requests that it takes: every doorway first, then the plan's requests, then the others. -/
def passOver (reqs : List DoorReq) (s : State) : Pass :=
  let p := (List.range 8).foldl passDoor ⟨grazeStepBack (actDetections { s with reqs := [] }), [], []⟩
  (reqs.filter fun r => !isPlan r).foldl takeRequest ((reqs.filter isPlan).foldl takeRequest p)

/-- The results that the requests of the plan get from a pass. -/
def notePlans (p : Pass) : State :=
  p.done.foldl (fun s r => match r.1.src with | .plan i => noteInst i r.2 s | _ => s) p.s

theorem sequencerPass_eq (s : State) : sequencerPass s =
    if !sequencerRuns s then (s, [])
    else (stagger (notePlans (passOver (s.reqs.filter (requestLives s)) s)), (passOver (s.reqs.filter (requestLives s)) s).done ++
      (s.reqs.filter fun r => !requestLives s r).map fun r => (r, Status.authRequired)) := rfl

/-- Where every waiting request lives, the pass takes all of them. -/
theorem sequencerPass_of_live {s : State} (hruns : sequencerRuns s = true) (hlive : ∀ r ∈ s.reqs, requestLives s r = true) :
    sequencerPass s = (stagger (notePlans (passOver s.reqs s)), (passOver s.reqs s).done) := by
  have hall : s.reqs.filter (requestLives s) = s.reqs := List.filter_eq_self.mpr hlive
  have hnone : s.reqs.filter (fun r => !requestLives s r) = [] := by
    rw [List.filter_eq_nil_iff]
    intro r hr
    simp [hlive r hr]
  rw [sequencerPass_eq, hall, hnone, List.map_nil, List.append_nil]
  simp only [hruns, Bool.not_true, Bool.false_eq_true, if_false]

/-- A request of a doorway that has none taken is decided on the state that it finds. -/
theorem takeRequest_first {p : Pass} {r : DoorReq} (hfirst : ∀ t ∈ p.taken, t.1 ≠ r.d) :
    (takeRequest p r).s = (anyRequest r p.s).1 ∧ (takeRequest p r).done = p.done ++ [(r, (anyRequest r p.s).2)] := by
  have hfind : (p.taken.find? fun t => t.1 = r.d && t.2.1 = r.op && r.op != .holdLift && !isMotion r.op) = none := by
    rw [List.find?_eq_none]
    intro t ht
    simp [hfirst t ht]
  have hany : (p.taken.any fun t => t.1 = r.d && conflicts t.2.1 r.op) = false := by
    rw [List.any_eq_false]
    intro t ht
    simp [hfirst t ht]
  simp only [takeRequest, hfind, hany, Bool.false_eq_true, if_false, and_self]

theorem takeRequest_motion {p : Pass} {r : DoorReq} (hmotion : isMotion r.op = true)  :
    ((∀ t ∈ p.taken, t.1 = r.d → conflicts t.2.1 r.op = false) →
      (takeRequest p r).s = (anyRequest r p.s).1 ∧ (takeRequest p r).done = p.done ++ [(r, (anyRequest r p.s).2)]) ∧
    ((∃ t ∈ p.taken, t.1 = r.d ∧ conflicts t.2.1 r.op = true) →
      (takeRequest p r).s = p.s ∧ (takeRequest p r).done = p.done ++ [(r, .doorwayStateForbids)]) := by
  have hfind : (p.taken.find? fun t => t.1 = r.d && t.2.1 = r.op && r.op != .holdLift && !isMotion r.op) = none := by
    rw [List.find?_eq_none]
    intro t _
    simp [hmotion]
  refine ⟨fun hfree => ?_, fun ⟨t, ht, hdoor, hconflict⟩ => ?_⟩
  · have hany : (p.taken.any fun t => t.1 = r.d && conflicts t.2.1 r.op) = false := by
      rw [List.any_eq_false]
      intro t ht
      by_cases hdoor : t.1 = r.d
      · simp [hfree t ht hdoor]
      · simp [hdoor]
    simp only [takeRequest, hfind, hany, Bool.false_eq_true, if_false, and_self]
  · have hany : (p.taken.any fun t => t.1 = r.d && conflicts t.2.1 r.op) = true :=
      List.any_eq_true.mpr ⟨t, ht, by simp [hdoor, hconflict]⟩
    simp only [takeRequest, hfind, hany, if_true, and_self]

theorem anyRequest_door {r : DoorReq} (hdoor : isMotion r.op = false) (s : State) :
    anyRequest r s = doorRequest r.src r.op r.d s := by
  unfold anyRequest
  cases r.src <;> simp [hdoor]

/-- Settles O14: the door commands wait; the pass takes what waits and answers it. -/
theorem doorCommandsComplete : Obligations.DoorCommandsComplete := by
  unfold Obligations.DoorCommandsComplete
  refine ⟨fun q s => ⟨answers_doorCmd rfl, answers_doorCmd rfl, answers_doorCmd rfl, answers_doorCmd rfl, answers_doorCmd rfl,
      fun hready hdoor => ?one, fun hready hmodule => ?all⟩,
    fun s hlit hruns hsessions => ?pass, fun p src op d hop hfirst => ?take⟩
  case one => exact replies_of_ready rfl hready (by simp only [hdoor, if_true])
  case all => exact replies_of_ready rfl hready (by simp only [hmodule, zero_ne_one, if_false])
  case pass =>
    refine answers_of_lit rfl hlit ?_
    rw [effectSequencerPass, sequencerPass_of_live hruns fun r hr => requestLives_of_session (hsessions r hr)]
    dsimp only [passOver, notePlans] <;> rfl
  case take =>
    have hdoor : isMotion op = false := by
      simp only [List.mem_cons, List.not_mem_nil, or_false] at hop
      rcases hop with rfl | rfl | rfl | rfl | rfl <;> rfl
    have htake := takeRequest_first (r := ⟨src, op, d⟩) hfirst
    rwa [anyRequest_door hdoor] at htake

/-! ## The transitions of R42 -/

/-- Settles O15: each clause is a row of the functions that decide a request. -/
theorem doorRequestsFollowTheTable : Obligations.DoorRequestsFollowTheTable := by
  unfold Obligations.DoorRequestsFollowTheTable
  refine ⟨fun src d s => ⟨fun hwash => ?_, fun hmode hshut => ?_, fun hmode hreleased => ⟨fun hleaf hheld hgraze => ?_,
      fun hleaf => ?_, fun hleaf hreopen => ?_, fun hleaf => ?_⟩⟩,
    fun src d s hleaf => ?_, fun src d s hleaf => ?_, fun src d s hleaf => ?_, fun op q d s hmode hreleased hleaf => ?_,
    fun src d s hleaf => ⟨fun hproven => ?_, fun hproven => ?_⟩, fun src d s hleaf => ?_,
    fun op q d s hdwell hwarning hmode => ?_⟩
  · simp [doorRequest, reqOpen, hwash]
  · simp [doorRequest, reqOpen, hmode, hshut]
  · simp [doorRequest, reqOpen, hmode, hreleased, hleaf, hheld, hgraze]
  · simp [doorRequest, reqOpen, hmode, hreleased, hleaf]
  · simp [doorRequest, reqOpen, hmode, hreleased, hleaf, hreopen]
  · simp [doorRequest, reqOpen, hmode, hreleased, hleaf]
  · simp [doorRequest, reqClose, hleaf]
  · simp [doorRequest, reqClose, hleaf]
  · simp [doorRequest, reqClose, hleaf]
  · simp [doorRequest, reqHold, hmode, hreleased, hleaf]
  · simp [doorRequest, reqDeisolate, hleaf, hproven]
  · simp [doorRequest, reqDeisolate, hleaf, hproven]
  · simp [doorRequest, reqDeisolate, hleaf]
  · cases hstate : (s.door d).leaf <;> simp_all [doorRequest, reqHold]

/-! ## Motion commands (R96, R98, R111, R114, R151, R306, R307) -/

theorem effectMove_ready {rel : Bool} {q : Req} {s : State} (hready : Ready s (if rel then opMoveRel else opMoveAbs) q)
    (hshape : moveShapeOk q = true) :
    effectMove rel q s = { touch q.session s with reqs := (touch q.session s).reqs ++
      [⟨.kcp (if rel then opMoveRel else opMoveAbs) q, if rel then .moveRel else .moveAbs, doorOfTarget q⟩] } := by
  have hkcp := kcp_ready (h := fun s => if !moveShapeOk q then (s, some (.bad .outOfRange 0, false))
    else ({ s with reqs := s.reqs ++
      [⟨.kcp (if rel then opMoveRel else opMoveAbs) q, if rel then .moveRel else .moveAbs, doorOfTarget q⟩] }, none)) hready
  rw [if_pos hready.1] at hkcp
  rw [effectMove, hkcp]
  simp only [hshape, Bool.not_true, Bool.false_eq_true, if_false]
  rfl

theorem anyRequest_motion {op : Nat} {q : Req} {k : DoorOp} {d : Nat} (hmotion : isMotion k = true) (s : State) :
    anyRequest ⟨.kcp op q, k, d⟩ s = motionRequest k q s := by
  simp [anyRequest, hmotion]

/-- Settles O16: the commands wait; what the pass does with a motion request is the request's own function, by its target. -/
theorem motionCommandsComplete : Obligations.MotionCommandsComplete := by
  unfold Obligations.MotionCommandsComplete
  refine ⟨fun q s => ⟨fun hready hshape => ?moveAbs, fun hready hshape => ?moveRel, answers_motionCmd rfl, answers_motionCmd rfl,
      answers_motionCmd rfl, answers_motionCmd rfl, answers_motionCmd rfl, answers_motionCmd rfl, answers_motionCmd rfl⟩,
    fun p op q k d hmotion hfree => ?taken, fun p op q k d hmotion hconflict => ?refused,
    fun op q k d st s hmotion hsession => ?answered,
    fun q s => ⟨fun haxis => ?stopAxis, fun hdoor hmoving => ?stopDoor, fun hgate => ?drives, fun st hgate => ?gated⟩,
    fun a j s hlit hjog => ?jog⟩
  case moveAbs => exact answers_of_lit rfl hready.1 (effectMove_ready (rel := false) hready hshape)
  case moveRel => exact answers_of_lit rfl hready.1 (effectMove_ready (rel := true) hready hshape)
  case taken =>
    have htake := (takeRequest_motion (r := ⟨.kcp op q, k, d⟩) hmotion).1 hfree
    rwa [anyRequest_motion hmotion] at htake
  case refused => exact (takeRequest_motion (r := ⟨.kcp op q, k, d⟩) hmotion).2 hconflict
  case answered =>
    have hlives : (q.session ≠ 0 && (sessionOf s q.session).isNone) = false := by
      rcases hsession with h | h
      · simp [h]
      · simp [Option.isNone_eq_false_iff.mpr h]
    simp only [answerDoor, hlives, requestEntry, hmotion, Bool.false_eq_true, if_false, if_true]
  case stopAxis => simp [motionRequest, stopAxesOf, haxis]
  case stopDoor =>
    simp only [motionRequest, stopAxesOf, if_neg hdoor, if_neg hmoving, and_self]
  case drives =>
    refine ⟨by simp only [motionRequest, driveCmd, hgate], by simp only [motionRequest, driveCmd, hgate], fun hpower => ?_⟩
    have hfed : (!s.sup.precharged && !(s.axis (tIndex q.target)).drive.energised) = false := by
      rcases hpower with h | h <;> simp [h]
    simp only [motionRequest, driveCmd, hgate, enableCmd, hfed, Bool.false_eq_true, if_false]
  case gated => simp only [motionRequest, driveCmd, hgate, and_self]
  case jog => exact answers_of_lit rfl hlit (by simp only [effectJogTimeout, hjog])

end Sys2Proof.Machine
end

section
/-! PROOF. Time: what passes with it, the tick of the fabric, the detections that the ticks complete, and the timers, armed and
not armed (O26, O27, O30, O35, O60). -/

namespace Sys2Proof.Machine

/-! ## The tick (R29, R137) -/

/-- Settles O26: the tick of one axis is the composition of its steps. -/
theorem fabricTickTakesItsSteps : Obligations.FabricTickTakesItsSteps := by
  unfold Obligations.FabricTickTakesItsSteps
  intro m s hon s0 s1 s2 s3 s4 s5
  refine answers_of_lit rfl (lit_of_power hon) ?_
  simp only [effectFabricTick, hon, bne_self_eq_false, Bool.false_eq_true, if_false]
  rfl

/-! ## Time that passes (R343) -/

theorem counting_congr {s t : State} (h : t.dw = s.dw) (a : Nat) : counting t a = counting s a := by
  simp [counting, State.door, h]

/-- Of the axes, time that passes moves the energised time alone. -/
theorem axis_elapse (us : Nat) (s : State) (a : Nat) :
    (elapse us s).axis a =
      if a < 24 ∧ (s.axis a).drive.energised = true ∧ counting s a = true
      then { s.axis a with ltEnergUs := (s.axis a).ltEnergUs + us } else s.axis a := by
  have hax : (elapse us s).ax = s.ax.mapIdx fun a (x : Axis) =>
      if x.drive.energised && counting s a then { x with ltEnergUs := x.ltEnergUs + us } else x := by
    cases hoff : s.boot.power == .off <;>
      · simp only [elapse, State.modSup_ax, elapseClocks_ax, advanceOp_ax, hoff, Bool.false_eq_true, if_false, if_true, counting,
          State.door, elapseClocks_dw, advanceOp_dw]
        rfl
  by_cases ha : a < 24
  · simp [State.axis, hax, ha]
  · simp [State.axis, hax, ha]

/-- Settles O27: each part is a property of the operations that let time pass. -/
theorem timePassesForward : Obligations.TimePassesForward := by
  unfold Obligations.TimePassesForward
  refine ⟨fun us s => ?_, fun t s => forwardTo_us t s, axis_elapse⟩
  simp

/-! ## The detections (R80, R118, R169 to R171) -/

theorem axis_failStepCheck (c : Bool) (s : State) (a : Nat) : (if c then failStepCheck s else s).axis a = s.axis a := by
  cases c <;> rfl

@[simp] theorem countStepLa_ax (a : Nat) (s : State) : (countStepLa a s).ax = s.ax := by
  unfold countStepLa; split <;> simp
@[simp] theorem countStepLa_par (a : Nat) (s : State) : (countStepLa a s).par = s.par := by
  unfold countStepLa; split <;> simp

/-- A value in force on an axis depends on the stored differences and on the axes alone. -/
theorem axp_congr {s t : State} (hpar : s.par = t.par) (hax : s.ax = t.ax) (a : Nat) (p : AxP) : s.axp a p = t.axp a p := by
  rw [State.axp, State.axp, axis_congr hax, inForce_congr hpar]

theorem breachDue_iff {s : State} {a : Nat} : breachDue s a = true ↔ s.axOn a = true ∧ evaluated s a .envelope = true ∧
    s.axN a .envTicks ≤ (s.axis a).det.envTicks ∧ (s.axis a).det.envDone = false := by
  simp [breachDue, and_assoc]

theorem deviationDue_iff {s : State} {a : Nat} : deviationDue s a = true ↔ s.axOn a = true ∧
    evaluated s a .deviation = true ∧ s.axN a .devTicks ≤ (s.axis a).det.devTicks ∧ (s.axis a).det.devDone = false := by
  simp [deviationDue, and_assoc]

/-- A tick counts a detection on while its condition holds, and starts again where it does not. -/
theorem det_tickDetect {a : Nat} (ha : a < 24) (s : State) :
    let over_ := evaluated s a .envelope && aboveEnvelope s a
    let out := evaluated s a .deviation && outsideWindow s a
    ((tickDetect a s).axis a).det = { (s.axis a).det with
      envTicks := if over_ then (s.axis a).det.envTicks + 1 else 0, envDone := over_ && (s.axis a).det.envDone
      devTicks := if out then (s.axis a).det.devTicks + 1 else 0, devDone := out && (s.axis a).det.devDone } := by
  intro over_ out
  simp only [tickDetect]
  rw [axis_failStepCheck, State.axis_modDet_same _ _ _ ha]

/-- Settles O30: each row acts where its detection is complete, and the tick counts what completes it. -/
theorem detectionCommandsComplete : Obligations.DetectionCommandsComplete := by
  unfold Obligations.DetectionCommandsComplete
  refine ⟨fun a s hlit => ⟨fun hdue => ?breach, fun hnot => ?noBreach, fun hdue => ?deviation, fun hnot => ?noDeviation⟩,
    fun a s => ⟨breachDue_iff, deviationDue_iff, ?envTicks, ?devTicks⟩,
    fun d s hlit => ⟨fun hdue => ?cap, fun hnot => ?noCap⟩, fun a samples s hlit hon => ?loadAngle,
    fun a samples s hoff => ?off⟩
  case breach => exact answers_of_lit rfl hlit (if_pos hdue)
  case noBreach => exact answers_self rfl (by simp only [effectBreach, hnot, Bool.false_eq_true, if_false])
  case deviation => exact answers_of_lit rfl hlit (if_pos hdue)
  case noDeviation => exact answers_self rfl (by simp only [effectDeviation, hnot, Bool.false_eq_true, if_false])
  case envTicks => rw [det_tickDetect a.isLt]; simp
  case devTicks => rw [det_tickDetect a.isLt]; simp
  case cap => exact answers_of_lit rfl hlit (if_pos hdue)
  case noCap => exact answers_self rfl (by simp only [effectEnergyCap, hnot, Bool.false_eq_true, if_false])
  case loadAngle =>
    intro s0 r
    have hlimit (p : AxP) : s0.axp a.val p = s.axp a.val p := by
      simp only [s0]
      split
      · exact axp_congr (countStepLa_par _ _) (countStepLa_ax _ _) _ _
      · rfl
    have hr : effectLoadAngle a.val samples s = if r.2 && seeksStop s a.val then homeHalt a.val r.1
        else if r.2 && stallRow s a.val && moving r.1 a.val then detect a.val .loadAngle false r.1 else r.1 := by
      simp only [effectLoadAngle, hon, if_true]
      rw [show (if (bemfMeasures s a.val && decide (samples.length = 8)) = true then countStepLa a.val s else s) = s0 by
        simp [s0], hlimit]
    refine ⟨fun hstall hseek => ?_, fun hstall hseek hrow hmoving => ?_, fun hstall hseek hother => ?_, fun hquiet => ?_⟩
    · exact answers_of_lit rfl hlit (hr.trans (by simp [hstall, hseek]))
    · exact answers_of_lit rfl hlit (hr.trans (by simp [hstall, hseek, hrow, hmoving]))
    · refine answers_of_lit rfl hlit (hr.trans ?_)
      rcases hother with h | h <;> simp [hseek, h]
    · exact answers_of_lit rfl hlit (hr.trans (by simp [hquiet]))
  case off => exact answers_self rfl (by simp only [effectLoadAngle, hoff, Bool.false_eq_true, if_false])

/-! ## The timers of the doorways (R42, R44, R46, R58, R241) -/

/-- Settles O35: each row takes the clock to the deadline that it finds and does what that deadline is for. -/
theorem doorwayTimersComplete : Obligations.DoorwayTimersComplete := by
  unfold Obligations.DoorwayTimersComplete
  refine ⟨fun d at_ s hlit => ⟨fun hleaf harmed => ?_, fun hleaf harmed => ?_, fun htimeout hstep => ?_, fun htimeout hstep => ?_,
    fun hwait hready hfree => ?_, fun hleaf harmed hproof => ?_, fun harmed => ?_, fun hleaf harmed => ?_,
    fun hleaf harmed => ?_⟩, fun n at_ s hlit harmed => ?_⟩
  · exact answers_of_lit rfl hlit (by simp [effectDwellEnd, hleaf, harmed])
  · exact answers_of_lit rfl hlit (by simp [effectWarnEnd, hleaf, harmed])
  · exact answers_of_lit rfl hlit (by simp only [effectSeqTimeout, htimeout, hstep])
  · exact answers_of_lit rfl hlit (by simp only [effectSeqTimeout, htimeout, hstep])
  · exact answers_of_lit rfl hlit (by
      simp only [effectStaggerMax, hwait]
      exact if_pos (by rw [hready, hfree]; rfl))
  · exact answers_of_lit rfl hlit (by simp [effectLockTime, hleaf, harmed, hproof])
  · exact answers_of_lit rfl hlit (by simp only [effectDwellOverrun, harmed])
  · exact answers_of_lit rfl hlit (by simp [effectObstPause, hleaf, harmed])
  · refine answers_of_lit rfl hlit ?_
    rcases hleaf with h | h | h <;> simp [effectParkDelay, h, harmed]
  · exact answers_of_lit rfl hlit (by simp only [effectPulseEnd, harmed])

/-! ## Timers that are not armed -/

/-- Settles O60: every timer row finds no deadline. -/
theorem timersThatAreNotArmedDoNothing : Obligations.TimersThatAreNotArmedDoNothing := by
  unfold Obligations.TimersThatAreNotArmedDoNothing
  intro s
  refine ⟨fun d => ⟨fun h => ?_, fun h => ?_, fun h => ?_, fun h => ?_, fun h h' => ?_, fun h => ?_, fun h => ?_⟩,
    fun a => ⟨fun h => ?_, fun h => ?_, fun h => ⟨?_, ?_, ?_⟩, fun h => ?_⟩, fun n h => ?_,
    fun lane => ⟨fun h => ?_, fun h => ?_⟩, fun p lane h => ?_, fun feed h => ?_, fun h => ?_, fun h => ?_, fun h => ?_,
    fun h => ?_, fun h => ?_, fun h => ?_, fun h => ?_, fun h => ?_, fun h => ?_, fun h => ?_⟩
  · exact answers_self rfl (by simp only [effectDwellOverrun, h])
  · exact answers_self rfl (by simp [effectParkDelay, h])
  · exact answers_self rfl (by simp [effectWarnEnd, h])
  · exact answers_self rfl (by simp [effectDwellEnd, h])
  · exact answers_self rfl (by simp only [effectSeqTimeout, h, h'])
  · exact answers_self rfl (by simp only [effectStaggerMax, h])
  · exact answers_self rfl (by simp only [effectEncRetry, h])
  · exact answers_self rfl (by simp only [effectJogTimeout, h])
  · exact answers_self rfl (by simp only [effectHoldExpiry, h])
  · exact answers_self rfl (by simp only [effectEnableRampEnd, h])
  · exact answers_self rfl (by simp only [effectParkRampEnd, h])
  · exact answers_self rfl (by simp only [effectDisableRampEnd, h])
  · exact answers_self rfl (by simp only [effectSafeStopTimeout, h])
  · exact answers_self rfl (by simp only [effectPulseEnd, h])
  · exact answers_self rfl (by simp only [effectKscWatchdog, h])
  · exact answers_self rfl (by simp only [effectKscWindow, h])
  · exact answers_self rfl (by simp only [effectDiscrepancy, h])
  · exact answers_self rfl (by simp only [effectFeedRetry, h])
  · exact answers_self rfl (by simp only [effectAbDecision, h])
  · exact answers_self rfl (by simp only [effectAbRecover, h])
  · exact answers_self rfl (by simp only [effectStepConfirm, h])
  · exact answers_self rfl (by simp only [effectHoldEnd, h])
  · exact answers_self rfl (by simp only [effectVoteDeadline, h])
  · exact answers_self rfl (by simp only [effectPrechargeRetry, h])
  · exact answers_self rfl (by simp only [effectPrechargeTimeout, h])
  · exact answers_self rfl (by simp only [effectRegenLockEnd, h])
  · exact answers_self rfl (by simp only [effectTrialConfirm, h])
  · exact answers_self rfl (by simp only [effectFrameTimeout, h])

end Sys2Proof.Machine
end

section
/-! PROOF. Field pins and group supplies: what a switch-off, a latched status bit, a release of event tasks and a change of mode
do to a pin and leave alone; and the obligations on inputs and outputs, on short candidates, on group supplies and on what a
report of a pin leaves alone (O37, O38, O39, O56). -/

namespace Sys2Proof.Machine

/-! ## Raises (R458) -/

/-- A raise is told by the event sources alone. -/
theorem RaisedOnce.congr {e : Nat} {s s' t t' : State} (h : RaisedOnce e s t) (hs : s'.ev = s.ev) (ht : t'.ev = t.ev) :
    RaisedOnce e s' t' := by
  unfold RaisedOnce; rw [hs, ht]; exact h

theorem RaisedOnce.settle {e : Nat} {s t : State} (h : RaisedOnce e s t) (q : List Instr) : RaisedOnce e s (settle q t) :=
  h.congr rfl rfl

/-- The sources above the doorways and the axes are always on (R457). -/
theorem sourceOn_module {e : Nat} (hlow : 192 ≤ e) (hhigh : e < 219) (s : State) : sourceOn s e = true := by
  rw [sourceOn, if_neg (by omega), if_neg (by omega)]
  exact decide_eq_true hhigh

/-- A raise of a source of the module after steps that raised nothing. -/
theorem raise_raisedOnce_module {e : Nat} (hlow : 192 ≤ e) (hhigh : e < 219) (detail : Nat) {s u : State} (hev : u.ev = s.ev) :
    RaisedOnce e s (raise e detail u) :=
  (raise_raisedOnce detail (by omega) (sourceOn_module hlow hhigh u)).congr hev.symm rfl

theorem groupOf_le (n : Nat) : groupOf n ≤ 8 := by unfold groupOf; omega

/-! ## One pin -/

theorem pin_congr {s t : State} (h : s.io = t.io) (n : Nat) : s.pin n = t.pin n := by rw [State.pin, State.pin, h]

theorem group_congr {s t : State} (h : s.groups = t.groups) (g : Nat) : s.group g = t.group g := by
  rw [State.group, State.group, h]

@[simp] theorem pin_settle (q : List Instr) (s : State) (n : Nat) : (settle q s).pin n = s.pin n := rfl
@[simp] theorem group_settle (q : List Instr) (s : State) (g : Nat) : (settle q s).group g = s.group g := rfl
@[simp] theorem pin_raise (e detail : Nat) (s : State) (n : Nat) : (raise e detail s).pin n = s.pin n :=
  pin_congr (raise_io e detail s) n
@[simp] theorem group_raise (e detail : Nat) (s : State) (g : Nat) : (raise e detail s).group g = s.group g :=
  group_congr (raise_groups e detail s) g

/-- A pin that is not there is in its reset state, so a pin that conducts is one of the 112. -/
theorem lt_of_pin_on {s : State} {n : Nat} (hon : (s.pin n).on = true) : n < 112 := by
  by_contra hn
  rw [State.pin, Vector.getElem?_eq_none (by omega)] at hon
  exact absurd hon (by decide)

theorem isOutput_congr {s t : State} (hpar : s.par = t.par) (n : Nat) : isOutput s n = isOutput t n := by
  simp only [isOutput, pinMode, State.ioN, State.iop, val_congr hpar]

theorem pinMode_congr {s t : State} (hpar : s.par = t.par) (n : Nat) : pinMode s n = pinMode t n := by
  simp only [pinMode, State.ioN, State.iop, val_congr hpar]

theorem checked_congr {s t : State} (hpar : s.par = t.par) (hgroups : s.groups = t.groups) (hus : s.us = t.us) (n : Nat) :
    checked s n = checked t n := by
  simp only [checked, isOutput_congr hpar, groupBad, groupLow, groupMissing, group_congr hgroups, hus]

section Flags

variable (p : Pin) (i : Nat) (b : Bool)

@[simp] theorem Pin.flag_on : (p.flag i b).on = p.on := rfl
@[simp] theorem Pin.flag_stage : (p.flag i b).stage = p.stage := rfl
@[simp] theorem Pin.flag_partner : (p.flag i b).partner = p.partner := rfl
@[simp] theorem Pin.flag_modeNext : (p.flag i b).modeNext = p.modeNext := rfl
@[simp] theorem Pin.flag_heldOn : (p.flag i b).heldOn = p.heldOn := rfl
@[simp] theorem Pin.flag_hot : (p.flag i b).hot = p.hot := rfl

theorem Pin.getLsbD_flag_same (hi : i < 16) : (p.flag i b).status.getLsbD i = b := getLsbD_setBit_same p.status i b hi

theorem Pin.getLsbD_flag_other {i j : Nat} (hij : j ≠ i) : (p.flag i b).status.getLsbD j = p.status.getLsbD j :=
  getLsbD_setBit_other p.status b hij

end Flags

/-- A latched bit 7 to 2 holds the pin off (R239). -/
theorem heldOff_of_bit {p : Pin} {b : Nat} (hb : 2 ≤ b ∧ b ≤ 7) (hset : p.status.getLsbD b = true) : heldOff p = true := by
  have hmask : (0x8FC#16).getLsbD b = true := by
    obtain ⟨hlow, hhigh⟩ := hb
    interval_cases b <;> rfl
  by_contra hnot
  have hzero : p.status &&& 0x8FC#16 = 0#16 := by simpa [heldOff] using hnot
  have hbit : (p.status &&& 0x8FC#16).getLsbD b = true := by rw [BitVec.getLsbD_and, hset, hmask]; rfl
  rw [hzero, BitVec.getLsbD_zero] at hbit
  exact absurd hbit (by decide)

/-! ## Switching off and faults (R239, R240) -/

theorem pin_switchOff_same {n : Nat} (hn : n < 112) (s : State) : (switchOff n s).pin n =
    if (s.pin n).on then
      { ((s.pin n).flag 12 (Config.inductive n)).flag 9 false with on := false, stage := false, offAt := s.us, demagUs := s.us }
    else s.pin n := by
  unfold switchOff
  split
  · rw [State.pin_modPin_same _ _ _ hn]
  · rfl

theorem pin_switchOff_other {n k : Nat} (hk : k ≠ n) (s : State) : (switchOff n s).pin k = s.pin k := by
  unfold switchOff
  split
  · rw [State.pin_modPin_other _ _ _ _ hk]
  · rfl

/-- A switch that has been opened is off. -/
theorem switchOff_off {n : Nat} (hn : n < 112) (s : State) : ((switchOff n s).pin n).on = false := by
  rw [pin_switchOff_same hn]
  split
  · rfl
  · next hoff => simpa using hoff

/-- Opening a switch changes, of the status, DEMAG and OPEN_LOAD alone. -/
theorem getLsbD_switchOff {n b : Nat} (hn : n < 112) (h12 : b ≠ 12) (h9 : b ≠ 9) (s : State) :
    ((switchOff n s).pin n).status.getLsbD b = (s.pin n).status.getLsbD b := by
  rw [pin_switchOff_same hn]
  split
  · exact (Pin.getLsbD_flag_other _ _ h9).trans (Pin.getLsbD_flag_other _ _ h12)
  · rfl

theorem switchOff_partner {n : Nat} (hn : n < 112) (s : State) : ((switchOff n s).pin n).partner = (s.pin n).partner := by
  rw [pin_switchOff_same hn]
  split <;> rfl

@[simp] theorem switchOff_par (n : Nat) (s : State) : (switchOff n s).par = s.par := by unfold switchOff; split <;> rfl
@[simp] theorem switchOff_groups (n : Nat) (s : State) : (switchOff n s).groups = s.groups := by
  unfold switchOff; split <;> rfl
@[simp] theorem switchOff_us (n : Nat) (s : State) : (switchOff n s).us = s.us := by unfold switchOff; split <;> rfl
@[simp] theorem switchOff_ev (n : Nat) (s : State) : (switchOff n s).ev = s.ev := by unfold switchOff; split <;> rfl
@[simp] theorem switchOff_probe (n : Nat) (s : State) : (switchOff n s).probe = s.probe := by unfold switchOff; split <;> rfl
@[simp] theorem switchOff_probeNext (n : Nat) (s : State) : (switchOff n s).probeNext = s.probeNext := by
  unfold switchOff; split <;> rfl

theorem pin_pinFault_same (n b : Nat) (s : State) :
    (pinFault n b s).pin n = (switchOff n (s.modPin n fun p => p.flag b true)).pin n := by
  simp only [pinFault, pin_raise]

theorem pin_pinFault_other {n k : Nat} (hk : k ≠ n) (b : Nat) (s : State) : (pinFault n b s).pin k = s.pin k := by
  rw [pinFault, pin_raise, pin_switchOff_other hk, State.pin_modPin_other _ _ _ _ hk]

theorem pinFault_off {n : Nat} (hn : n < 112) (b : Nat) (s : State) : ((pinFault n b s).pin n).on = false := by
  rw [pin_pinFault_same]; exact switchOff_off hn _

/-- A fault latches its bit. -/
theorem getLsbD_pinFault_same {n b : Nat} (hn : n < 112) (hb : b < 9) (s : State) :
    ((pinFault n b s).pin n).status.getLsbD b = true := by
  rw [pin_pinFault_same, getLsbD_switchOff hn (by omega) (by omega), State.pin_modPin_same _ _ _ hn,
    Pin.getLsbD_flag_same _ _ _ (by omega)]

theorem getLsbD_pinFault_other {n b c : Nat} (hn : n < 112) (h12 : c ≠ 12) (h9 : c ≠ 9) (hcb : c ≠ b) (s : State) :
    ((pinFault n b s).pin n).status.getLsbD c = (s.pin n).status.getLsbD c := by
  rw [pin_pinFault_same, getLsbD_switchOff hn h12 h9, State.pin_modPin_same _ _ _ hn, Pin.getLsbD_flag_other _ _ hcb]

theorem pinFault_partner {n : Nat} (hn : n < 112) (b : Nat) (s : State) :
    ((pinFault n b s).pin n).partner = (s.pin n).partner := by
  rw [pin_pinFault_same, switchOff_partner hn, State.pin_modPin_same _ _ _ hn, Pin.flag_partner]

/-- An inductive load that conducted demagnetises when a fault opens its switch (R240). -/
theorem pinFault_demag_of_on {n b : Nat} (hn : n < 112) {s : State} (hon : (s.pin n).on = true) :
    ((pinFault n b s).pin n).demag = Config.inductive n := by
  rw [pin_pinFault_same, pin_switchOff_same hn, State.pin_modPin_same _ _ _ hn, Pin.flag_on, if_pos hon]
  exact (Pin.getLsbD_flag_other _ _ (by decide)).trans (Pin.getLsbD_flag_same _ _ _ (by decide))

/-- A pin that was off already demagnetises as before. -/
theorem pinFault_demag_of_off {n b : Nat} (hn : n < 112) (hb : b ≠ 12) {s : State} (hoff : (s.pin n).on = false) :
    ((pinFault n b s).pin n).demag = (s.pin n).demag := by
  rw [pin_pinFault_same, pin_switchOff_same hn, State.pin_modPin_same _ _ _ hn, Pin.flag_on, hoff]
  exact Pin.getLsbD_flag_other _ _ hb.symm

/-- A fault of a pin raises its group's source once (R457). -/
theorem pinFault_raisedOnce {n : Nat} (b : Nat) {s u : State} (hev : u.ev = s.ev) :
    RaisedOnce (208 + groupOf n) s (pinFault n b u) := by
  have hgroup := groupOf_le n
  exact raise_raisedOnce_module (by omega) (by omega) _ ((switchOff_ev _ _).trans hev)

end Sys2Proof.Machine
end

section
/-! PROOF. Reports of the field pins and of the group supplies: the obligations on inputs and outputs and on what follows a
candidate for a short (O37, O38). -/

namespace Sys2Proof.Machine

/-! ## Inputs and counting pins (R235, R236) -/

@[simp] theorem pin_releaseTasks (mode : Nat) (ok : Nat → Bool) (tag : Nat) (s : State) (n : Nat) :
    (releaseTasks mode ok tag s).pin n = s.pin n := pin_congr (releaseTasks_io mode ok tag s) n

@[simp] theorem pin_levelTasks (n : Nat) (old : Bool) (s : State) (k : Nat) : (levelTasks n old s).pin k = s.pin k := by
  simp only [levelTasks]
  split
  · rfl
  · exact pin_releaseTasks _ _ _ _ _

theorem pin_filteredInput {n : Nat} (hn : n < 112) (level : Bool) {s : State} (hinput : pinMode s n = 1) :
    (filteredInput n level s).pin n = { s.pin n with stage := level, filt := level } := by
  rw [filteredInput, if_pos hinput]
  simp [hn]

theorem pin_countEdge {n : Nat} (hn : n < 112) (rising : Bool) (s : State) :
    (countEdge n rising s).pin n = { s.pin n with
      stage := rising
      counter := if groupBad s (groupOf n) = false ∧ (pinMode s n = 4 ∨ pinMode s n = 3 ∧ rising = true)
        then wrap32 ((s.pin n).counter + 1) else (s.pin n).counter } := by
  have hmode : pinMode (s.modPin n fun p => { p with stage := rising }) n = pinMode s n := pinMode_congr (by simp) n
  have hbad : groupBad (s.modPin n fun p => { p with stage := rising }) (groupOf n) = groupBad s (groupOf n) := rfl
  simp only [countEdge, hmode, hbad]
  by_cases hgroup : groupBad s (groupOf n) = true
  · simp [hgroup, hn]
  · by_cases hcounts : pinMode s n = 4 ∨ pinMode s n = 3 ∧ rising = true <;> simp [hgroup, hcounts, hn]

/-! ## What the supervision reports (R239, R240) -/

/-- The facts of a fault of a conducting output, whatever has only let time pass before it. -/
theorem pinFault_of_on {n b : Nat} (hn : n < 112) (hb : 2 ≤ b ∧ b ≤ 7) {s u : State} (hev : u.ev = s.ev)
    (hon : (u.pin n).on = true) :
    let t := settle s.pending (pinFault n b u)
    (t.pin n).status.getLsbD b = true ∧ (t.pin n).on = false ∧ (t.pin n).demag = Config.inductive n ∧
      heldOff (t.pin n) = true ∧ RaisedOnce (208 + groupOf n) s t := by
  have hbit := getLsbD_pinFault_same hn (by omega : b < 9) u
  refine ⟨hbit, pinFault_off hn b u, pinFault_demag_of_on hn hon, heldOff_of_bit hb hbit,
    (pinFault_raisedOnce b hev).settle _⟩

theorem takeMode_pin {n : Nat} (hn : n < 112) (m : Int) (s : State) :
    ((takeMode n m s).pin n).modeNext = none ∧ ((takeMode n m s).pin n).counter = 0 ∧
      ((takeMode n m s).pin n).status = (s.pin n).status &&& 0x1000#16 := by
  simp only [takeMode]
  rw [State.pin_modPin_same _ _ _ hn]
  exact ⟨rfl, rfl, rfl⟩

/-- DEMAG is all that a change of mode keeps of the status, and it is clear at the end of the demagnetisation. -/
theorem flag_demag_and_mask (p : Pin) : (p.flag 12 false).status &&& 0x1000#16 = 0#16 := by
  apply BitVec.eq_of_getLsbD_eq
  intro i hi
  rw [BitVec.getLsbD_and, BitVec.getLsbD_zero]
  by_cases h12 : i = 12
  · subst h12
    rw [Pin.getLsbD_flag_same _ _ _ (by decide), Bool.false_and]
  · have hmask : ∀ i < 16, i ≠ 12 → (0x1000#16).getLsbD i = false := by decide
    rw [hmask i hi h12, Bool.and_false]

/-- The end of a demagnetisation clears DEMAG, and a mode that waited for it is taken (R240, R241). -/
theorem endDemag_pin {n : Nat} (hn : n < 112) (s : State) :
    ((endDemag n s).pin n).demag = false ∧
    ((s.pin n).modeNext = none → ((endDemag n s).pin n).heldOn = (s.pin n).heldOn) ∧
    (∀ m, (s.pin n).modeNext = some m → ((endDemag n s).pin n).modeNext = none ∧ ((endDemag n s).pin n).counter = 0 ∧
      ((endDemag n s).pin n).status = 0) := by
  have hpin : ((s.modPin n fun p => p.flag 12 false).pin n) = (s.pin n).flag 12 false := State.pin_modPin_same _ _ _ hn
  cases hnext : (s.pin n).modeNext with
  | none =>
    have hend : endDemag n s = s.modPin n fun p => p.flag 12 false := by
      simp only [endDemag, hpin, Pin.flag_modeNext, hnext]
    rw [hend, hpin]
    exact ⟨Pin.getLsbD_flag_same _ _ _ (by decide), fun _ => rfl, fun m hm => absurd hm (by simp)⟩
  | some m =>
    have hend : endDemag n s = takeMode n m (s.modPin n fun p => p.flag 12 false) := by
      simp only [endDemag, hpin, Pin.flag_modeNext, hnext]
    obtain ⟨hmode, hcount, hstatus⟩ := takeMode_pin hn m (s.modPin n fun p => p.flag 12 false)
    rw [hpin, flag_demag_and_mask] at hstatus
    rw [hend]
    exact ⟨by rw [Pin.demag, hstatus]; rfl, fun h => absurd h (by simp), fun _ _ => ⟨hmode, hcount, hstatus⟩⟩

/-- Settles O37: each report is one of the operations above. -/
theorem fieldPinCommandsComplete : Obligations.FieldPinCommandsComplete := by
  unfold Obligations.FieldPinCommandsComplete
  refine ⟨fun n level s hlit hinput => ?input, fun n rising s hlit => ?count, fun n c b s hc hlit hchecked hon => ?fault,
    fun n s hlit => ?cool, fun n mA s hlit hchecked hon => ?load, fun n s hlit hdemag => ⟨?demagEnd, fun hfresh hoff => ?over_⟩⟩
  case input =>
    refine exec_of_lit rfl hlit ?_
    rw [pin_settle, pin_filteredInput n.isLt level hinput]
    exact ⟨rfl, rfl⟩
  case count =>
    refine exec_of_lit rfl hlit ?_
    rw [pin_settle, pin_countEdge n.isLt]
    exact ⟨rfl, rfl⟩
  case fault =>
    simp only [List.mem_cons, Prod.mk.injEq, List.not_mem_nil, or_false] at hc
    obtain ⟨rfl, rfl⟩ | ⟨rfl, rfl⟩ | ⟨rfl, rfl⟩ := hc
    · refine exec_of_lit rfl hlit ?_
      simp only [effectOutFault, hchecked, hon, Bool.and_self, if_true]
      exact pinFault_of_on n.isLt (by decide) rfl hon
    · refine exec_of_lit rfl hlit ?_
      have hchecked' : checked (s.modPin n.val fun p => { p with hot := true }) n.val = true := hchecked
      have hon' : ((s.modPin n.val fun p => { p with hot := true }).pin n.val).on = true := by simpa using hon
      simp only [effectOutHot, hchecked', hon', Bool.and_self, if_true]
      exact pinFault_of_on n.isLt (by decide) rfl hon'
    · refine exec_of_lit rfl hlit ?_
      simp only [effectFailOn, hchecked, hon, Bool.and_self, if_true]
      exact pinFault_of_on n.isLt (by decide) (by simp) ((congrArg Pin.on (pin_congr (by simp) n.val)).trans hon)
  case cool =>
    refine exec_of_lit rfl hlit ?_
    simp [effectOutHot]
  case load =>
    refine exec_of_lit rfl hlit ?_
    simp only [effectOpenLoad, hchecked, hon, Bool.and_self, if_true, pin_settle]
    rw [State.pin_modPin_same _ _ _ n.isLt]
    exact ⟨Pin.getLsbD_flag_same _ _ _ (by decide), hon, rfl⟩
  case demagEnd =>
    refine exec_of_lit rfl hlit ?_
    simp only [effectDemagEnd, hdemag, if_true]
    exact endDemag_pin n.isLt s
  case over_ =>
    refine exec_of_lit rfl hlit ?_
    simp only [effectDemagOver, hdemag, hfresh, Bool.not_false, Bool.and_self, if_true]
    exact ⟨getLsbD_pinFault_same n.isLt (by decide) s, (pinFault_demag_of_off n.isLt (by decide) hoff).trans hdemag,
      (pinFault_raisedOnce 7 rfl).settle _⟩

/-! ## Short candidates (R242, R243) -/

theorem shortSupply_pin {n : Nat} (hn : n < 112) (s : State) :
    ((shortSupply n s).pin n).status.getLsbD 5 = true ∧ ((shortSupply n s).pin n).status.getLsbD 11 = false ∧
      ((shortSupply n s).pin n).on = false := by
  refine ⟨getLsbD_pinFault_same hn (by decide) _, ?_, pinFault_off hn _ _⟩
  rw [shortSupply, getLsbD_pinFault_other hn (by decide) (by decide) (by decide), State.pin_modPin_same _ _ _ hn]
  exact Pin.getLsbD_flag_same _ _ _ (by decide)

@[simp] theorem pinFault_probe (n b : Nat) (s : State) : (pinFault n b s).probe = s.probe := by simp [pinFault]
@[simp] theorem shortSupply_probe (n : Nat) (s : State) : (shortSupply n s).probe = s.probe := by simp [shortSupply]
@[simp] theorem wirePins_probe (n k : Nat) (s : State) : (wirePins n k s).probe = s.probe := by simp [wirePins]

/-- Two wired pins name each other, are off and are held off. -/
theorem wirePins_pins {n k : Nat} (hn : n < 112) (hk : k < 112) (hne : n ≠ k) (s : State) :
    ((wirePins n k s).pin n).partner = k ∧ ((wirePins n k s).pin k).partner = n ∧
      ((wirePins n k s).pin n).status.getLsbD 6 = true ∧ ((wirePins n k s).pin k).status.getLsbD 6 = true ∧
      ((wirePins n k s).pin k).on = false ∧ ((wirePins n k s).pin n).status.getLsbD 11 = false := by
  simp only [wirePins]
  refine ⟨?_, ?_, ?_, getLsbD_pinFault_same hk (by decide) _, pinFault_off hk _ _, ?_⟩
  · rw [pin_pinFault_other hne, pinFault_partner hn, State.pin_modPin_other _ _ _ _ hne, State.pin_modPin_same _ _ _ hn]
  · rw [pinFault_partner hk, pin_pinFault_other hne.symm, State.pin_modPin_same _ _ _ hk]
  · rw [pin_pinFault_other hne]
    exact getLsbD_pinFault_same hn (by decide) _
  · rw [pin_pinFault_other hne, getLsbD_pinFault_other hn (by decide) (by decide) (by decide),
      State.pin_modPin_other _ _ _ _ hne, State.pin_modPin_same _ _ _ hn]
    exact Pin.getLsbD_flag_same _ _ _ (by decide)

/-- What is on of the pins other than n is not seen by a change of pin n that keeps whether it is on. -/
theorem probeList_congr {s t : State} (hpar : s.par = t.par) {n : Nat} (hpins : ∀ k, k ≠ n → t.pin k = s.pin k) :
    probeList t n = probeList s n := by
  have hall : (fun k => decide (k ≠ n ∧ isOutput t k = true ∧ (t.pin k).on = true)) =
      fun k => decide (k ≠ n ∧ isOutput s k = true ∧ (s.pin k).on = true) := by
    funext k
    by_cases hk : k = n
    · simp [hk]
    · simp [hk, hpins k hk, isOutput_congr hpar]
  simp only [probeList, hall]

/-- The state in which the cause of a candidate is sought: the pin marked, its readback high (R242). -/
def markCandidate (n : Nat) (s : State) : State :=
  s.modPin n fun p => { p.flag 11 true with stage := true, filt := true }

/-- The pins that went on together with the edge that made pin n a candidate (R242 step 3). -/
def onTogether (n : Nat) (s : State) : List Nat :=
  (List.range 112).filter fun k =>
    k ≠ n ∧ isOutput s k = true ∧ (s.pin k).on = true ∧ s.us ≤ (s.pin k).onAt + 150 ∧ (s.pin k).onAt + 100 ≤ s.us

theorem mem_onTogether_markCandidate {n k : Nat} {s : State} : k ∈ onTogether n (markCandidate n s) ↔
    k ≠ n ∧ isOutput s k = true ∧ (s.pin k).on = true ∧ s.us ≤ (s.pin k).onAt + 150 ∧ (s.pin k).onAt + 100 ≤ s.us := by
  have hout : isOutput (markCandidate n s) k = isOutput s k := isOutput_congr (State.modPin_par _ _ _) k
  simp only [onTogether, List.mem_filter, List.mem_range, decide_eq_true_eq, hout]
  constructor
  · rintro ⟨-, hne, h⟩
    rw [markCandidate, State.pin_modPin_other _ _ _ _ hne] at h
    exact ⟨hne, h⟩
  · rintro ⟨hne, h⟩
    rw [markCandidate, State.pin_modPin_other _ _ _ _ hne]
    exact ⟨lt_of_pin_on h.2.1, hne, h⟩

theorem candidate_of_pair {n k : Nat} {s : State} (hcandidate : checked s n && !(s.pin n).on && !(s.pin n).demag &&
      !(s.pin n).status.getLsbD 11 && (s.pin n).offAt + 500 ≤ s.us) (hone : onTogether n (markCandidate n s) = [k]) :
    candidate n s = wirePins n k (markCandidate n s) := by
  unfold onTogether markCandidate at hone
  simp only [candidate, hcandidate, if_true, hone]
  rfl

theorem candidate_of_none {n : Nat} {s : State} (hcandidate : checked s n && !(s.pin n).on && !(s.pin n).demag &&
      !(s.pin n).status.getLsbD 11 && (s.pin n).offAt + 500 ≤ s.us) (hnone : onTogether n (markCandidate n s) = []) :
    candidate n s =
      if s.modp .ioProbe = 0 ∨ probeList s n = [] then shortSupply n (markCandidate n s)
      else { markCandidate n s with probe := s.probe ++ [(n, probeList s n)] } := by
  have hlist : probeList (markCandidate n s) n = probeList s n :=
    probeList_congr (State.modPin_par _ _ _).symm fun k hk => State.pin_modPin_other _ _ _ _ hk
  rw [← hlist]
  unfold onTogether markCandidate at hnone
  simp only [candidate, hcandidate, if_true, hnone]
  rfl

/-- A list without repetition whose one member is k. -/
theorem eq_singleton_of_unique {l : List Nat} (hnodup : l.Nodup) {k : Nat} (hmem : k ∈ l) (hone : ∀ j ∈ l, j = k) : l = [k] :=
  List.perm_singleton.mp ((List.perm_ext_iff_of_nodup hnodup (List.nodup_singleton k)).mpr fun j =>
    ⟨fun hj => List.mem_singleton.mpr (hone j hj), fun hj => List.mem_singleton.mp hj ▸ hmem⟩)

theorem onTogether_nodup (n : Nat) (s : State) : (onTogether n s).Nodup := List.nodup_range.filter _

/-! ## Probing (R242 step 3) -/

/-- The pins of a list of probes that conduct. -/
def conducting (s : State) (l : List Nat) : List Nat := l.filter fun k => isOutput s k && (s.pin k).on

theorem probing_eq {s : State} {n : Nat} {l : List Nat} {more : List (Nat × List Nat)} (hprobe : s.probe = (n, l) :: more) :
    probing s = some (n, conducting s l, more) := by
  rw [probing, hprobe, conducting]

/-- Without a conducting pin left, the candidate whose cause is sought is a short to the supply. -/
theorem settleProbe_of_none {s : State} {n : Nat} {more : List (Nat × List Nat)} (hprobing : probing s = some (n, [], more))
    (hchecked : checked s n = true) : settleProbe s = shortSupply n { s with probe := more } := by
  simp only [settleProbe, hprobing, hchecked, if_true]

theorem settleProbe_of_some {s : State} {n : Nat} {l : List Nat} {more : List (Nat × List Nat)}
    (hprobe : s.probe = (n, l) :: more) (hsome : conducting s l ≠ []) : settleProbe s = s := by
  obtain ⟨k, rest, hl⟩ := List.exists_cons_of_ne_nil hsome
  rw [settleProbe, probing_eq hprobe, hl]

/-- The off-pulse of a probe: the pin is opened until its end, and the next one waits for 1 ms. -/
def probeOff (n k : Nat) (rest : List Nat) (more : List (Nat × List Nat)) (s : State) : State :=
  (switchOff k { s with probe := (n, rest) :: more, probeNext := s.us + 1000 }).modPin k fun p =>
    { p with probeEnd := some (s.us + 200) }

section Probe

variable {n k : Nat} {rest : List Nat} {more : List (Nat × List Nat)} {s : State}

theorem probeStep_low (hprobing : probing s = some (n, k :: rest, more)) (hchecked : checked s n = true)
    (hnext : s.probeNext ≤ s.us) :
    probeStep k true s = wirePins n k { s with probe := more, probeNext := s.us + 1000 } := by
  simp only [probeStep, hprobing, hchecked, hnext, true_and, if_true]

theorem probeStep_high (hprobing : probing s = some (n, k :: rest, more)) (hchecked : checked s n = true)
    (hnext : s.probeNext ≤ s.us) : probeStep k false s = settleProbe (probeOff n k rest more s) := by
  simp only [probeStep, hprobing, hchecked, hnext, true_and, if_true, Bool.false_eq_true, if_false]
  rfl

@[simp] theorem probeOff_probe : (probeOff n k rest more s).probe = (n, rest) :: more := by
  simp [probeOff]

theorem probeOff_checked (j : Nat) : checked (probeOff n k rest more s) j = checked s j :=
  checked_congr (switchOff_par _ _) (switchOff_groups _ _) (switchOff_us _ _) j

theorem conducts_of_probing (hprobing : probing s = some (n, k :: rest, more)) {j : Nat} (hj : j ∈ rest) :
    (isOutput s j && (s.pin j).on) = true := by
  unfold probing at hprobing
  split at hprobing
  · next l more' _ =>
    obtain ⟨-, hl, -⟩ : _ ∧ l.filter (fun k => isOutput s k && (s.pin k).on) = k :: rest ∧ more' = more := by
      simpa using hprobing
    have hmem : j ∈ l.filter (fun k => isOutput s k && (s.pin k).on) := hl ▸ List.mem_cons_of_mem k hj
    exact (List.mem_filter.mp hmem).2
  · exact absurd hprobing (by simp)

/-- A pin still to probe other than the pulsed one conducts through the pulse. -/
theorem conducting_probeOff_ne_nil (hprobing : probing s = some (n, k :: rest, more)) {j : Nat} (hj : j ∈ rest) (hne : j ≠ k) :
    conducting (probeOff n k rest more s) rest ≠ [] := by
  have hpin : (probeOff n k rest more s).pin j = s.pin j := by
    rw [probeOff, State.pin_modPin_other _ _ _ _ hne, pin_switchOff_other hne]
    rfl
  have hpar : (probeOff n k rest more s).par = s.par := by
    rw [probeOff, State.modPin_par, switchOff_par]
  refine List.ne_nil_of_mem (a := j) (List.mem_filter.mpr ⟨hj, ?_⟩)
  rw [hpin, isOutput_congr hpar]
  exact conducts_of_probing hprobing hj

end Probe

/-- Settles O38: a reverse current and a pulse that finds nothing left end in a short to the supply, a coincidence and a pulse
that the candidate follows in two wired pins. -/
theorem shortCandidatesAreResolved : Obligations.ShortCandidatesAreResolved := by
  unfold Obligations.ShortCandidatesAreResolved
  refine ⟨fun n s hlit hchecked hfresh => ?reverse, fun n s hlit hchecked hoff hdemag hfresh htime => ?candidate,
    fun n k rest more s hlit hne hprobing hchecked hnext =>
      ⟨?wired, fun hrest => ?last, fun ⟨j, hj, hjk⟩ => ?more_⟩⟩
  case reverse =>
    refine exec_of_lit rfl hlit ?_
    simp only [effectReverse, hchecked, hfresh, Bool.not_false, Bool.and_self, if_true]
    obtain ⟨hshort, hnone, hopen⟩ := shortSupply_pin n.isLt { s with probe := s.probe.filter fun e => e.1 ≠ n.val }
    have hraised : RaisedOnce (208 + groupOf n.val) s (shortSupply n.val { s with probe := s.probe.filter fun e => e.1 ≠ n.val }) :=
      pinFault_raisedOnce 5 rfl
    refine ⟨hshort, hnone, hopen, fun e he => ?_, hraised.settle _⟩
    rw [settle_probe, shortSupply_probe] at he
    simpa using (List.mem_filter.mp he).2
  case candidate =>
    have hcandidate : checked s n.val && !(s.pin n.val).on && !(s.pin n.val).demag && !(s.pin n.val).status.getLsbD 11 &&
        (s.pin n.val).offAt + 500 ≤ s.us := by
      simp only [hchecked, hoff, hdemag, hfresh, htime, decide_true, Bool.not_false, Bool.and_self]
    have hlt {k : Nat} (hk : k ∈ onTogether n.val (markCandidate n.val s)) : k < 112 :=
      lt_of_pin_on (mem_onTogether_markCandidate.mp hk).2.2.1
    intro together
    refine ⟨fun k hk hunique => ?pair, fun hnone hprobe hlist => ?probe, fun hnone hsettled => ?supply⟩
    case pair =>
      have hone : onTogether n.val (markCandidate n.val s) = [k.val] :=
        eq_singleton_of_unique (onTogether_nodup _ _) (mem_onTogether_markCandidate.mpr hk) fun j hj =>
          congrArg Fin.val (hunique ⟨j, hlt hj⟩ (mem_onTogether_markCandidate.mp hj))
      refine exec_of_lit rfl hlit ?_
      rw [candidate_of_pair hcandidate hone]
      exact wirePins_pins n.isLt k.isLt hk.1.symm _
    all_goals
      have hempty : onTogether n.val (markCandidate n.val s) = [] := List.eq_nil_iff_forall_not_mem.mpr fun j hj =>
        hnone ⟨j, hlt hj⟩ (mem_onTogether_markCandidate.mp hj)
      refine exec_of_lit rfl hlit ?_
      rw [candidate_of_none hcandidate hempty]
    case probe =>
      rw [if_neg (by simp [hprobe, hlist])]
      refine ⟨rfl, ?_⟩
      show ((markCandidate n.val s).pin n.val).status.getLsbD 11 = true
      rw [markCandidate, State.pin_modPin_same _ _ _ n.isLt]
      exact Pin.getLsbD_flag_same _ _ _ (by decide)
    case supply =>
      rw [if_pos hsettled]
      obtain ⟨hshort, hmark, -⟩ := shortSupply_pin n.isLt (markCandidate n.val s)
      exact ⟨hshort, hmark, shortSupply_probe _ _⟩
  case wired =>
    have hne' : n.val ≠ k.val := fun h => hne (Fin.ext h)
    refine exec_of_lit rfl hlit ?_
    rw [probeStep_low hprobing hchecked hnext]
    obtain ⟨hn, hk, hbitN, hbitK, hopen, -⟩ :=
      wirePins_pins n.isLt k.isLt hne' { s with probe := more, probeNext := s.us + 1000 }
    exact ⟨wirePins_probe _ _ _, hn, hk, hopen, heldOff_of_bit (by decide) hbitN, heldOff_of_bit (by decide) hbitK⟩
  case last =>
    subst hrest
    refine exec_of_lit rfl hlit ?_
    rw [probeStep_high hprobing hchecked hnext,
      settleProbe_of_none (probing_eq probeOff_probe) ((probeOff_checked _).trans hchecked)]
    exact ⟨shortSupply_probe _ _, (shortSupply_pin n.isLt _).1⟩
  case more_ =>
    refine exec_of_lit rfl hlit ?_
    rw [probeStep_high hprobing hchecked hnext,
      settleProbe_of_some probeOff_probe (conducting_probeOff_ne_nil hprobing hj hjk)]
    have hpin : (probeOff n.val k.val rest more s).pin k.val = { (switchOff k.val
        { s with probe := (n.val, rest) :: more, probeNext := s.us + 1000 }).pin k.val with probeEnd := some (s.us + 200) } :=
      State.pin_modPin_same _ _ _ k.isLt
    refine ⟨probeOff_probe, ?_, ?_, ?_, ?_⟩
    · rw [pin_settle, hpin]
      exact switchOff_off k.isLt _
    · rw [pin_settle, hpin]
    · exact switchOff_probeNext _ _
    · exact switchOff_ev _ _

end Sys2Proof.Machine
end

section
/-! PROOF. Group supplies, and what a report of a pin or of a group leaves alone (O39, O56). -/

namespace Sys2Proof.Machine

/-! ## The status of a group (R245) -/

section Flags

variable (x : Group) (i : Nat) (b : Bool)

@[simp] theorem Group.flag_mV : (x.flag i b).mV = x.mV := rfl

theorem Group.getLsbD_flag_same (hi : i < 8) : (x.flag i b).status.getLsbD i = b := by
  cases b <;> simp [Group.flag, hi]

theorem Group.getLsbD_flag_other {i j : Nat} (hij : j ≠ i) : (x.flag i b).status.getLsbD j = x.status.getLsbD j := by
  rcases Nat.lt_or_ge j 8 with hj | hj
  · rcases Nat.lt_or_gt_of_ne hij with hlt | hgt
    · cases b <;> simp [Group.flag, hj, hlt]
    · have hsub : j - i ≠ 0 := by omega
      cases b <;> simp [Group.flag, hj, Nat.not_lt.mpr hgt.le, hsub]
  · simp [hj]

end Flags

/-! ## The levels of a group's pins (R246) -/

@[simp] theorem levelTasks_groups (n : Nat) (old : Bool) (s : State) : (levelTasks n old s).groups = s.groups := by
  simp only [levelTasks]; split <;> simp
@[simp] theorem levelTasks_ev (n : Nat) (old : Bool) (s : State) : (levelTasks n old s).ev = s.ev := by
  simp only [levelTasks]; split <;> simp
@[simp] theorem levelTasks_io (n : Nat) (old : Bool) (s : State) : (levelTasks n old s).io = s.io := by
  simp only [levelTasks]; split <;> simp
@[simp] theorem levelTasks_us (n : Nat) (old : Bool) (s : State) : (levelTasks n old s).us = s.us := by
  simp only [levelTasks]; split <;> simp

/-- What the tasks of one pin leave as it is, those of a group leave as it is. -/
theorem groupLevels_keeps {β : Type} (f : State → β) (h : ∀ n old s, f (levelTasks n old s) = f s) (before s : State) (g : Nat) :
    f (groupLevels before s g) = f s :=
  each_keeps f 112 _ (fun s n => by split <;> simp [h]) s

@[simp] theorem groupLevels_groups (before s : State) (g : Nat) : (groupLevels before s g).groups = s.groups :=
  groupLevels_keeps State.groups levelTasks_groups before s g
@[simp] theorem groupLevels_ev (before s : State) (g : Nat) : (groupLevels before s g).ev = s.ev :=
  groupLevels_keeps State.ev levelTasks_ev before s g
@[simp] theorem groupLevels_io (before s : State) (g : Nat) : (groupLevels before s g).io = s.io :=
  groupLevels_keeps State.io levelTasks_io before s g
@[simp] theorem groupLevels_us (before s : State) (g : Nat) : (groupLevels before s g).us = s.us :=
  groupLevels_keeps State.us levelTasks_us before s g

/-- Every switch of a group opened (R245). -/
def openGroup (g : Nat) (s : State) : State := each 112 (fun s n => if groupOf n = g then switchOff n s else s) s

theorem openGroup_keeps {β : Type} (f : State → β) (h : ∀ n s, f (switchOff n s) = f s) (g : Nat) (s : State) :
    f (openGroup g s) = f s :=
  each_keeps f 112 _ (fun s n => by split <;> simp [h]) s

/-! ## The three thresholds (R245, R246) -/

theorem supplyMissing_eq {g mV : Nat} (hmV : mV < 12000) (s : State) :
    supplyMissing g mV s =
      let u := groupLevels s (openGroup g (s.modGroup g fun x => { (x.flag 0 true).flag 1 false with mV := mV })) g
      if groupMissing s g then u else raise (208 + g) (0xFF + 256) (u.modGroup g fun x => x.flag 2 true) := by
  simp only [supplyMissing, hmV, if_true]
  rfl

theorem supplyLow_eq {g mV : Nat} (hmV : mV < 19200) {s : State} (hsupplied : groupMissing s g = false) :
    supplyLow g mV s =
      let u := groupLevels s (s.modGroup g fun x => { x.flag 1 true with mV := mV }) g
      if groupLow s g then u else raise (208 + g) (0xFF + 512) (u.modGroup g fun x => x.flag 3 true) := by
  simp only [supplyLow, hmV, hsupplied, and_self, if_true]

/-- A group whose voltage has risen (R245). -/
def Group.risen (mV : Nat) (x : Group) : Group :=
  let x := { x with mV := mV }
  let x := if x.status.getLsbD 0 ∧ 14000 ≤ mV then x.flag 0 false else x
  if x.status.getLsbD 1 ∧ 20400 ≤ mV then x.flag 1 false else x

/-- At 20.4 V or more a group is neither MISSING nor LOW. -/
theorem Group.risen_good {mV : Nat} (hmV : 20400 ≤ mV) (x : Group) :
    (x.risen mV).status.getLsbD 0 = false ∧ (x.risen mV).status.getLsbD 1 = false ∧ (x.risen mV).mV = mV := by
  have h14 : 14000 ≤ mV := by omega
  simp only [Group.risen, h14, hmV, and_true]
  split <;> split <;> simp_all [-BitVec.getLsbD_eq_getElem, Group.getLsbD_flag_same, Group.getLsbD_flag_other]

theorem supplyRecovered_eq {g mV : Nat} {s : State} (hbad : groupBad s g = true)
    (hgood : groupBad (groupLevels s (s.modGroup g (Group.risen mV)) g) g = false) :
    supplyRecovered g mV s =
      (groupLevels s (s.modGroup g (Group.risen mV)) g).modGroup g fun x => { x with recoverAt := s.us + 500 } := by
  unfold Group.risen at hgood ⊢
  simp only [supplyRecovered, hbad, hgood, Bool.not_false, Bool.and_self, if_true, groupLevels_us, State.modGroup_us]

/-- A group's report: its status, its voltage, and its event the first time, with one more bit of the status (R245). -/
theorem group_reported {g : Nat} (hg : g < 9) (b : Nat) (h0 : 0 ≠ b) (h1 : 1 ≠ b) {s u : State} {mV detail : Nat}
    {was missing low : Bool} (hev : u.ev = s.ev) (hmissing : (u.group g).status.getLsbD 0 = missing)
    (hlow : (u.group g).status.getLsbD 1 = low) (hlevel : (u.group g).mV = mV) :
    let t := settle s.pending (if was then u else raise (208 + g) detail (u.modGroup g fun x => x.flag b true))
    groupMissing t g = missing ∧ groupLow t g = low ∧ (t.group g).mV = mV ∧ (was = false → RaisedOnce (208 + g) s t) ∧
      (was = true → t.ev = s.ev) := by
  cases was with
  | true => exact ⟨hmissing, hlow, hlevel, fun h => absurd h (by decide), fun _ => hev⟩
  | false =>
    have hraised := raise_raisedOnce_module (s := s) (u := u.modGroup g fun x => x.flag b true) (e := 208 + g) (by omega)
      (by omega) detail hev
    simp only [Bool.false_eq_true, if_false, groupMissing, groupLow, group_settle, group_raise]
    rw [State.group_modGroup_same _ _ _ hg, Group.getLsbD_flag_other _ _ h0, Group.getLsbD_flag_other _ _ h1]
    exact ⟨hmissing, hlow, hlevel, fun _ => hraised.settle _, fun h => h.elim⟩

/-- Settles O39: the levels of the pins and the switches that open change no group and raise nothing. -/
theorem groupSupplyCommandsComplete : Obligations.GroupSupplyCommandsComplete := by
  unfold Obligations.GroupSupplyCommandsComplete
  refine ⟨fun g mV s hlit => ⟨fun hmV => ?missing, fun hmV hsupplied => ?low, fun hmV hbad => ?recovered⟩,
    fun g mA s hlit hover => ?current⟩
  case missing =>
    have hu : ∃ u, u.ev = s.ev ∧ u.group g.val = { ((s.group g.val).flag 0 true).flag 1 false with mV := mV } ∧
        supplyMissing g.val mV s = if groupMissing s g.val then u
          else raise (208 + g.val) (0xFF + 256) (u.modGroup g.val fun x => x.flag 2 true) := by
      refine ⟨_, ?_, ?_, supplyMissing_eq hmV s⟩
      · rw [groupLevels_ev, openGroup_keeps State.ev switchOff_ev]
        rfl
      · rw [group_congr (groupLevels_groups _ _ _), group_congr (openGroup_keeps State.groups switchOff_groups _ _),
          State.group_modGroup_same _ _ _ g.isLt]
    obtain ⟨u, hev, hgroup, heq⟩ := hu
    have hmissing : (u.group g.val).status.getLsbD 0 = true := by
      rw [hgroup]
      exact (Group.getLsbD_flag_other _ _ (by decide)).trans (Group.getLsbD_flag_same _ _ _ (by decide))
    have hlow : (u.group g.val).status.getLsbD 1 = false := by
      rw [hgroup]
      exact Group.getLsbD_flag_same _ _ _ (by decide)
    have hlevel : (u.group g.val).mV = mV := by rw [hgroup]
    exact exec_of_lit rfl hlit (heq ▸ group_reported g.isLt 2 (by decide) (by decide) hev hmissing hlow hlevel)
  case low =>
    have hu : ∃ u, u.ev = s.ev ∧ u.group g.val = { (s.group g.val).flag 1 true with mV := mV } ∧
        supplyLow g.val mV s = if groupLow s g.val then u
          else raise (208 + g.val) (0xFF + 512) (u.modGroup g.val fun x => x.flag 3 true) := by
      refine ⟨_, ?_, ?_, supplyLow_eq hmV hsupplied⟩
      · rw [groupLevels_ev]
        rfl
      · rw [group_congr (groupLevels_groups _ _ _), State.group_modGroup_same _ _ _ g.isLt]
    obtain ⟨u, hev, hgroup, heq⟩ := hu
    have hmissing : (u.group g.val).status.getLsbD 0 = false := by
      rw [hgroup]
      exact (Group.getLsbD_flag_other _ _ (by decide)).trans hsupplied
    have hlow : (u.group g.val).status.getLsbD 1 = true := by
      rw [hgroup]
      exact Group.getLsbD_flag_same _ _ _ (by decide)
    have hlevel : (u.group g.val).mV = mV := by rw [hgroup]
    obtain ⟨h0, h1, h2, h3, h4⟩ :=
      group_reported (was := groupLow s g.val) (detail := 0xFF + 512) g.isLt 3 (by decide) (by decide) hev hmissing hlow hlevel
    exact exec_of_lit rfl hlit (heq ▸ ⟨h1, h0, h2, h3, h4⟩)
  case recovered =>
    have hgroup : (groupLevels s (s.modGroup g.val (Group.risen mV)) g.val).group g.val = (s.group g.val).risen mV := by
      rw [group_congr (groupLevels_groups _ _ _), State.group_modGroup_same _ _ _ g.isLt]
    obtain ⟨hmissing, hlow, hlevel⟩ := (s.group g.val).risen_good hmV
    have hgood : groupBad (groupLevels s (s.modGroup g.val (Group.risen mV)) g.val) g.val = false := by
      rw [groupBad, groupLow, groupMissing, hgroup, hmissing, hlow]; rfl
    refine exec_of_lit rfl hlit ?_
    rw [supplyRecovered_eq hbad hgood]
    have hlast : ((groupLevels s (s.modGroup g.val (Group.risen mV)) g.val).modGroup g.val fun x =>
        { x with recoverAt := s.us + 500 }).group g.val = { (s.group g.val).risen mV with recoverAt := s.us + 500 } := by
      rw [State.group_modGroup_same _ _ _ g.isLt, hgroup]
    refine ⟨?_, ?_, ?_, groupLevels_ev _ _ _, groupLevels_io _ _ _⟩
    · rw [groupBad, groupLow, groupMissing, group_settle, hlast, hmissing, hlow]; rfl
    · rw [group_settle, hlast, hlevel]
    · rw [group_settle, hlast]
  case current =>
    refine exec_of_lit rfl hlit ?_
    have hover' : (s.modGroup g.val fun x => { x with current := mA }).modN (.fgCurrLimit g.val) < mA := hover
    have hg : g.val < 9 := g.isLt
    simp only [effectGroupCurrent, hover', if_true]
    refine ⟨?_, (raise_raisedOnce_module (by omega) (by omega) _ (State.modGroup_ev _ _ _)).settle _⟩
    rw [group_settle, group_raise, State.group_modGroup_same _ _ _ hg]

end Sys2Proof.Machine
end

section
/-! PROOF. What the reports of the field pins and of the group supplies leave alone (O56). -/

namespace Sys2Proof.Machine

/-! ## From the effect of a row to what it leaves alone -/

/-- Where the effect of a row leaves the safe outputs and the queue in order, the row answers that effect, on a running module. -/
theorem next_of_effect {c : Instr} {f : State → State} {s t : State} (hexec : exec c s = answerOn s f)
    (hgated : OutputsGated s) (heffect : OutputsGated (f s)) (hpending : (f s).pending = s.pending)
    (hnext : exec c s = .next t) : t = f s ∨ t = s := by
  rw [hexec, answerOn_eq] at hnext
  cases hnext
  split
  · left
    rw [settle_of_gated heffect, ← hpending]
  · right
    rw [settle_of_gated hgated]

theorem outputsGated_congr {s t : State} (hsaf : t.saf = s.saf) (h : OutputsGated s) : OutputsGated t := by
  unfold OutputsGated State.out at h ⊢
  rwa [hsaf]

/-! ## The pins and what follows from them -/

/-- A state without its pins, groups, probes, event sources, journal and logic: what a report of a pin leaves alone. -/
def State.besidesPins (s : State) : State :=
  { s with io := State.reset.io, groups := State.reset.groups, probe := [], probeNext := 0, ev := State.reset.ev
           jrn := State.reset.jrn, logic := State.reset.logic }

theorem eq_of_besidesPins {s t : State} (h : t.besidesPins = s.besidesPins) :
    t = { s with io := t.io, groups := t.groups, probe := t.probe, probeNext := t.probeNext, ev := t.ev, jrn := t.jrn,
                 logic := t.logic } := by
  cases s; cases t
  simp only [State.besidesPins, State.mk.injEq] at h ⊢
  simp [h]

section Operations

variable (s : State)

@[simp] theorem besidesPins_modPin (n : Nat) (f : Pin → Pin) : (s.modPin n f).besidesPins = s.besidesPins := rfl
@[simp] theorem besidesPins_modGroup (g : Nat) (f : Group → Group) : (s.modGroup g f).besidesPins = s.besidesPins := rfl
@[simp] theorem besidesPins_raise (e detail : Nat) : (raise e detail s).besidesPins = s.besidesPins := by
  simp [State.besidesPins]
@[simp] theorem besidesPins_releaseTasks (mode : Nat) (ok : Nat → Bool) (tag : Nat) :
    (releaseTasks mode ok tag s).besidesPins = s.besidesPins := by
  simp [State.besidesPins]
@[simp] theorem besidesPins_switchOff (n : Nat) : (switchOff n s).besidesPins = s.besidesPins := by
  unfold switchOff; split <;> rfl
@[simp] theorem besidesPins_pinFault (n b : Nat) : (pinFault n b s).besidesPins = s.besidesPins := by simp [pinFault]
@[simp] theorem besidesPins_wirePins (n k : Nat) : (wirePins n k s).besidesPins = s.besidesPins := by simp [wirePins]
@[simp] theorem besidesPins_levelTasks (n : Nat) (old : Bool) : (levelTasks n old s).besidesPins = s.besidesPins := by
  simp only [levelTasks]; split <;> simp
@[simp] theorem besidesPins_groupLevels (before : State) (g : Nat) :
    (groupLevels before s g).besidesPins = s.besidesPins :=
  groupLevels_keeps State.besidesPins (fun n old s => besidesPins_levelTasks s n old) before s g

end Operations

section Effects

variable (s : State)

theorem besidesPins_filteredInput (n : Nat) (level : Bool) : (filteredInput n level s).besidesPins = s.besidesPins := by
  unfold filteredInput; split <;> simp

theorem besidesPins_countEdge (n : Nat) (rising : Bool) : (countEdge n rising s).besidesPins = s.besidesPins := by
  simp only [countEdge]; split
  · simp
  · split <;> simp

theorem besidesPins_effectOutFault (b n : Nat) : (effectOutFault b n s).besidesPins = s.besidesPins := by
  unfold effectOutFault; split <;> simp

theorem besidesPins_effectOutHot (n : Nat) (hot : Bool) : (effectOutHot n hot s).besidesPins = s.besidesPins := by
  simp only [effectOutHot]; split <;> simp

theorem besidesPins_effectOpenLoad (n mA : Nat) : (effectOpenLoad n mA s).besidesPins = s.besidesPins := by
  unfold effectOpenLoad; split <;> simp

theorem besidesPins_effectDemagOver (n : Nat) : (effectDemagOver n s).besidesPins = s.besidesPins := by
  unfold effectDemagOver; split <;> simp

theorem besidesPins_shortSupply (n : Nat) : (shortSupply n s).besidesPins = s.besidesPins := by simp [shortSupply]

theorem besidesPins_effectReverse (n : Nat) : (effectReverse n s).besidesPins = s.besidesPins := by
  unfold effectReverse; split
  · exact besidesPins_shortSupply _ n
  · rfl

theorem besidesPins_candidate (n : Nat) : (candidate n s).besidesPins = s.besidesPins := by
  simp only [candidate]; split
  · split
    · simp
    · split
      · simp [besidesPins_shortSupply]
      · rfl
  · rfl

theorem besidesPins_settleProbe : (settleProbe s).besidesPins = s.besidesPins := by
  unfold settleProbe; split
  · split
    · exact besidesPins_shortSupply _ _
    · rfl
  · rfl

theorem besidesPins_probeStep (k : Nat) (low : Bool) : (probeStep k low s).besidesPins = s.besidesPins := by
  unfold probeStep; split
  · split
    · cases low
      · exact (besidesPins_settleProbe _).trans (besidesPins_switchOff _ _)
      · exact besidesPins_wirePins _ _ _
    · rfl
  · exact besidesPins_settleProbe s

theorem besidesPins_supplyMissing (g mV : Nat) : (supplyMissing g mV s).besidesPins = s.besidesPins := by
  have hopen (u : State) : (openGroup g u).besidesPins = u.besidesPins :=
    openGroup_keeps State.besidesPins (fun n s => besidesPins_switchOff s n) g u
  by_cases hmV : mV < 12000
  · rw [supplyMissing_eq hmV]
    dsimp only
    split <;> simp [hopen]
  · simp [supplyMissing, hmV]

theorem besidesPins_supplyLow (g mV : Nat) : (supplyLow g mV s).besidesPins = s.besidesPins := by
  simp only [supplyLow]; split
  · split <;> simp
  · rfl

theorem besidesPins_supplyRecovered (g mV : Nat) : (supplyRecovered g mV s).besidesPins = s.besidesPins := by
  simp only [supplyRecovered]; split <;> simp

theorem besidesPins_effectGroupCurrent (g mA : Nat) : (effectGroupCurrent g mA s).besidesPins = s.besidesPins := by
  simp only [effectGroupCurrent]; split <;> simp

end Effects

/-- A row that leaves everything besides the pins alone. -/
theorem eq_of_pinReport {c : Instr} {f : State → State} {s t : State} (hexec : exec c s = answerOn s f)
    (hgated : OutputsGated s) (hkeeps : (f s).besidesPins = s.besidesPins) (hnext : exec c s = .next t) :
    t = { s with io := t.io, groups := t.groups, probe := t.probe, probeNext := t.probeNext, ev := t.ev, jrn := t.jrn,
                 logic := t.logic } := by
  have hsaf : (f s).saf = s.saf := (congrArg State.saf hkeeps :)
  have hpending : (f s).pending = s.pending := (congrArg State.pending hkeeps :)
  apply eq_of_besidesPins
  rcases next_of_effect hexec hgated (outputsGated_congr hsaf hgated) hpending hnext with rfl | rfl
  · exact hkeeps
  · rfl

/-! ## The other pins -/

/-- A report of one pin leaves the groups and every other pin as they were. -/
def LeavesOthers (n : Nat) (f : State → State) : Prop :=
  ∀ (s : State) (k : Nat), k ≠ n → (f s).pin k = s.pin k ∧ (f s).groups = s.groups

theorem leavesOthers_of_answer {c : Instr} {n k : Nat} {f : State → State} {s t : State} (hexec : exec c s = answerOn s f)
    (hothers : LeavesOthers n f) (hk : k ≠ n) (hnext : exec c s = .next t) : t.pin k = s.pin k ∧ t.groups = s.groups := by
  rw [hexec, answerOn_eq] at hnext
  cases hnext
  split
  · exact hothers s k hk
  · exact ⟨rfl, rfl⟩

theorem LeavesOthers.comp {n : Nat} {f g : State → State} (hf : LeavesOthers n f) (hg : LeavesOthers n g) :
    LeavesOthers n (f ∘ g) := fun s k hk =>
  ⟨(hf (g s) k hk).1.trans (hg s k hk).1, (hf (g s) k hk).2.trans (hg s k hk).2⟩

theorem leavesOthers_id (n : Nat) : LeavesOthers n id := fun _ _ _ => ⟨rfl, rfl⟩

/-- A report that acts on a condition only. -/
theorem LeavesOthers.ite {n : Nat} {f g : State → State} (hf : LeavesOthers n f) (hg : LeavesOthers n g) (p : State → Prop)
    [∀ s, Decidable (p s)] : LeavesOthers n fun s => if p s then f s else g s := fun s k hk => by
  show (if p s then f s else g s).pin k = s.pin k ∧ (if p s then f s else g s).groups = s.groups
  split
  · exact hf s k hk
  · exact hg s k hk

theorem leavesOthers_modPin (n : Nat) (f : Pin → Pin) : LeavesOthers n fun s => s.modPin n f := fun _ _ hk =>
  ⟨State.pin_modPin_other _ _ _ _ hk, rfl⟩

theorem leavesOthers_pinFault (n b : Nat) : LeavesOthers n (pinFault n b) := fun s _ hk =>
  ⟨pin_pinFault_other hk b s, by simp [pinFault]⟩

theorem leavesOthers_takeMode (n : Nat) (m : Int) : LeavesOthers n (takeMode n m) := fun _ _ hk =>
  ⟨State.pin_modPin_other _ _ _ _ hk, rfl⟩

theorem leavesOthers_filteredInput (n : Nat) (level : Bool) : LeavesOthers n (filteredInput n level) := fun s k hk => by
  unfold filteredInput; split <;> simp [hk]

theorem leavesOthers_countEdge (n : Nat) (rising : Bool) : LeavesOthers n (countEdge n rising) := fun s k hk => by
  simp only [countEdge]; split
  · simp [hk]
  · split <;> simp [hk]

theorem leavesOthers_effectOutFault (b n : Nat) : LeavesOthers n (effectOutFault b n) :=
  (leavesOthers_pinFault n b).ite (leavesOthers_id n) fun s => (checked s n && (s.pin n).on) = true

theorem leavesOthers_effectOutHot (n : Nat) (hot : Bool) : LeavesOthers n (effectOutHot n hot) :=
  ((leavesOthers_pinFault n 3).ite (leavesOthers_id n) fun s => (hot && checked s n && (s.pin n).on) = true).comp
    (leavesOthers_modPin n fun p => { p with hot := hot })

theorem leavesOthers_effectOpenLoad (n mA : Nat) : LeavesOthers n (effectOpenLoad n mA) :=
  (leavesOthers_modPin n fun p => p.flag 9 (mA < (if heavy n then 10 else 5))).ite (leavesOthers_id n) fun s =>
    (checked s n && (s.pin n).on) = true

theorem leavesOthers_endDemag (n : Nat) : LeavesOthers n (endDemag n) := fun s k hk => by
  have hmod := leavesOthers_modPin n (fun p => p.flag 12 false) s k hk
  simp only [endDemag]; split
  · next m _ =>
    have htake := leavesOthers_takeMode n m (s.modPin n fun p => p.flag 12 false) k hk
    exact ⟨htake.1.trans hmod.1, htake.2.trans hmod.2⟩
  · exact hmod

theorem leavesOthers_effectDemagEnd (n : Nat) : LeavesOthers n (effectDemagEnd n) :=
  (leavesOthers_endDemag n).ite (leavesOthers_id n) fun s => (s.pin n).demag = true

theorem leavesOthers_effectDemagOver (n : Nat) : LeavesOthers n (effectDemagOver n) :=
  (leavesOthers_pinFault n 7).ite (leavesOthers_id n) fun s => ((s.pin n).demag && !(s.pin n).status.getLsbD 7) = true

theorem leavesOthers_shortSupply (n : Nat) : LeavesOthers n (shortSupply n) :=
  (leavesOthers_pinFault n 5).comp (leavesOthers_modPin n fun p => p.flag 11 false)

theorem leavesOthers_effectReverse (n : Nat) : LeavesOthers n (effectReverse n) :=
  ((leavesOthers_shortSupply n).comp fun _ _ _ => ⟨rfl, rfl⟩ :
    LeavesOthers n (shortSupply n ∘ fun s => { s with probe := s.probe.filter fun e => e.1 ≠ n })).ite (leavesOthers_id n)
    fun s => (checked s n && !(s.pin n).status.getLsbD 5) = true

/-- Settles O56: every report is made of operations on pins, on a group, on tasks and of raises. -/
theorem pinReportsLeaveTheRestAlone : Obligations.PinReportsLeaveTheRestAlone := by
  unfold Obligations.PinReportsLeaveTheRestAlone
  constructor
  · intro n b g x s t hgated c hc hnext
    simp only [List.mem_cons, List.not_mem_nil, or_false] at hc
    rcases hc with rfl | rfl | rfl | rfl | rfl | rfl | rfl | rfl | rfl | rfl | rfl | rfl | rfl
    · exact eq_of_pinReport rfl hgated (besidesPins_filteredInput s n.val b) hnext
    · exact eq_of_pinReport rfl hgated (besidesPins_countEdge s n.val b) hnext
    · exact eq_of_pinReport rfl hgated (besidesPins_effectOutFault s 2 n.val) hnext
    · exact eq_of_pinReport rfl hgated (besidesPins_effectOutHot s n.val b) hnext
    · exact eq_of_pinReport rfl hgated (besidesPins_effectOpenLoad s n.val x) hnext
    · exact eq_of_pinReport rfl hgated (besidesPins_effectDemagOver s n.val) hnext
    · exact eq_of_pinReport rfl hgated (besidesPins_effectReverse s n.val) hnext
    · exact eq_of_pinReport rfl hgated (besidesPins_candidate s n.val) hnext
    · exact eq_of_pinReport rfl hgated (besidesPins_probeStep s n.val b) hnext
    · exact eq_of_pinReport rfl hgated (besidesPins_supplyMissing s g.val x) hnext
    · exact eq_of_pinReport rfl hgated (besidesPins_supplyLow s g.val x) hnext
    · exact eq_of_pinReport rfl hgated (besidesPins_supplyRecovered s g.val x) hnext
    · exact eq_of_pinReport rfl hgated (besidesPins_effectGroupCurrent s g.val x) hnext
  · intro n b x k s t hk c hc hnext
    simp only [List.mem_cons, List.not_mem_nil, or_false] at hc
    rcases hc with rfl | rfl | rfl | rfl | rfl | rfl | rfl | rfl
    · exact leavesOthers_of_answer rfl (leavesOthers_filteredInput n.val b) hk hnext
    · exact leavesOthers_of_answer rfl (leavesOthers_countEdge n.val b) hk hnext
    · exact leavesOthers_of_answer rfl (leavesOthers_effectOutFault 2 n.val) hk hnext
    · exact leavesOthers_of_answer rfl (leavesOthers_effectOutHot n.val b) hk hnext
    · exact leavesOthers_of_answer rfl (leavesOthers_effectOpenLoad n.val x) hk hnext
    · exact leavesOthers_of_answer rfl (leavesOthers_effectDemagEnd n.val) hk hnext
    · exact leavesOthers_of_answer rfl (leavesOthers_effectDemagOver n.val) hk hnext
    · exact leavesOthers_of_answer rfl (leavesOthers_effectReverse n.val) hk hnext

end Sys2Proof.Machine
end

section
/-! PROOF. Position feedback: what an edge, a wire disagreement and a latch of one axis leave alone, and the effect of each report
of the encoders (O29, O59). -/

namespace Sys2Proof.Machine

/-! ## What concerns one axis only (O59) -/

/-- A state without its axes, doorways, event sources, journal and logic. -/
def State.besidesAxes (s : State) : State :=
  { s with ax := State.reset.ax, dw := State.reset.dw, ev := State.reset.ev, jrn := State.reset.jrn
           logic := State.reset.logic }

theorem eq_of_besidesAxes {s t : State} (h : t.besidesAxes = s.besidesAxes) :
    t = { s with ax := t.ax, dw := t.dw, ev := t.ev, jrn := t.jrn, logic := t.logic } := by
  cases s; cases t
  simp only [State.besidesAxes, State.mk.injEq] at h ⊢
  simp [h]

/-- From s to t nothing has changed but axis a, its doorway, the event sources, the journal and the triggers of the logic. -/
structure LocalTo (a : Nat) (s t : State) : Prop where
  rest : t.besidesAxes = s.besidesAxes
  axes : ∀ b : Nat, b ≠ a → t.axis b = s.axis b
  doors : ∀ d : Nat, d ≠ doorOf a → t.door d = s.door d

namespace LocalTo

variable {a : Nat} {s t u : State}

theorem refl (a : Nat) (s : State) : LocalTo a s s := ⟨rfl, fun _ _ => rfl, fun _ _ => rfl⟩

theorem trans (h : LocalTo a s t) (h' : LocalTo a t u) : LocalTo a s u :=
  ⟨h'.rest.trans h.rest, fun b hb => (h'.axes b hb).trans (h.axes b hb), fun d hd => (h'.doors d hd).trans (h.doors d hd)⟩

theorem modFb (f : Feedback → Feedback) (h : LocalTo a s t) : LocalTo a s (t.modFb a f) :=
  h.trans ⟨rfl, fun _ hb => State.axis_modFb_other _ _ _ _ hb, fun _ _ => rfl⟩

theorem modDrive (f : Drive → Drive) (h : LocalTo a s t) : LocalTo a s (t.modDrive a f) :=
  h.trans ⟨rfl, fun _ hb => State.axis_modDrive_other _ _ _ _ hb, fun _ _ => rfl⟩

theorem modDoor (f : Doorway → Doorway) (h : LocalTo a s t) : LocalTo a s (t.modDoor (doorOf a) f) :=
  h.trans ⟨rfl, fun _ _ => rfl, fun _ hd => State.door_modDoor_other _ _ _ _ hd⟩

theorem raiseAxis (k detail : Nat) (inj : Bool) (h : LocalTo a s t) : LocalTo a s (raiseAxis a k detail inj t) := by
  have hraise : LocalTo a t (raiseBy (evAxis a k) 0 detail inj t) :=
    ⟨by simp [State.besidesAxes], fun _ _ => axis_congr (raiseBy_ax _ _ _ _ _) _, fun _ _ => by simp [State.door]⟩
  unfold Machine.raiseAxis
  split
  · exact (h.trans hraise).modDoor _
  · exact h

end LocalTo

section Effects

variable (a : Nat) (s : State)

theorem localTo_clearPosValid : LocalTo a s (clearPosValid a s) := by
  unfold clearPosValid
  split
  · exact (((LocalTo.refl a s).modFb _).modDrive _).modDoor _
  · exact .refl a s

theorem localTo_abFault (b : Nat) : LocalTo a s (abFault a b s) := by
  have hmarks := ((LocalTo.refl a s).modFb fun f => { f.mark b true with episodeRaised := true }).trans
    (localTo_clearPosValid a _)
  simp only [abFault]
  split
  · exact hmarks
  · exact hmarks.raiseAxis _ _ _

theorem localTo_wireGood (b : Nat) (yes : Bool) : LocalTo a s (wireGood a b yes s) := by
  unfold wireGood
  split
  · exact (LocalTo.refl a s).modFb _
  · exact .refl a s

theorem localTo_holdCount (f : Int) : LocalTo a s (holdCount a f s) := by
  simp only [holdCount]
  split
  · split
    · exact (((LocalTo.refl a s).modFb _).modFb _).raiseAxis _ _ _
    · exact (LocalTo.refl a s).modFb _
  · exact (LocalTo.refl a s).modFb _

theorem localTo_addCounts (n : Int) : LocalTo a s (addCounts a n s) := by
  simp only [addCounts]
  split
  · exact .refl a s
  · split
    · exact (LocalTo.refl a s).modFb _
    · exact ((LocalTo.refl a s).modFb _).trans (localTo_holdCount a _ _)

theorem localTo_effectEncoderEdge (e : EncEdge) : LocalTo a s (effectEncoderEdge a e s) := by
  have hwires := (localTo_wireGood a s 1 (e.bBefore != e.bAfter)).trans (localTo_wireGood a _ 0 (e.aBefore != e.aAfter))
  simp only [effectEncoderEdge]
  split
  · split
    · exact hwires.trans (localTo_abFault a _ 3)
    · exact hwires.trans (localTo_addCounts a _ _)
  · exact hwires

theorem localTo_effectWireDisagreement (p : WirePair) : LocalTo a s (effectWireDisagreement a p s) := by
  cases p <;> simp only [effectWireDisagreement] <;> split
  case a.isTrue | b.isTrue | z.isFalse | ssi.isFalse => exact .refl a s
  case a.isFalse | b.isFalse => exact ((LocalTo.refl a s).modFb _).trans (localTo_abFault a _ _)
  all_goals
    split
    · exact ((LocalTo.refl a s).modFb _).modFb _
    · exact (((LocalTo.refl a s).modFb _).modFb _).raiseAxis _ _ _

theorem localTo_effectLatchEdge (l : Nat) (rising : Bool) (ageNs : Nat) : LocalTo a s (effectLatchEdge a l rising ageNs s) := by
  unfold effectLatchEdge
  extract_lets x edgeOk
  split
  · simp only [captureLatch]
    exact (LocalTo.refl a s).modFb _
  · exact .refl a s

end Effects

/-- A row whose effect concerns one axis only. -/
theorem localTo_of_answer {c : Instr} {f : State → State} {a : Nat} {s t : State} (hexec : exec c s = answerOn s f)
    (hgated : OutputsGated s) (hlocal : LocalTo a s (f s)) (hnext : exec c s = .next t) : LocalTo a s t := by
  have hsaf : (f s).saf = s.saf := (congrArg State.saf hlocal.rest :)
  have hpending : (f s).pending = s.pending := (congrArg State.pending hlocal.rest :)
  rcases next_of_effect hexec hgated (outputsGated_congr hsaf hgated) hpending hnext with rfl | rfl
  · exact hlocal
  · exact .refl a t

/-! ## One contact (R189) -/

theorem pair_effectContactChange_other {p k : Nat} {lane other : Lane} (hother : other ≠ lane ∨ k ≠ p) (second closed : Bool)
    (s : State) : (effectContactChange p second lane closed s).pair other k = s.pair other k :=
  State.pair_modPair_other _ _ _ _ _ _ hother

theorem effectContactChange_eq (p : Nat) (second : Bool) (lane : Lane) (closed : Bool) (s : State) :
    let t := effectContactChange p second lane closed s
    t = { s with saf := { s.saf with pairsI := t.saf.pairsI, pairsC := t.saf.pairsC } } := by
  cases lane <;> rfl

/-- What settling a state needs of the safety functions: the module safe state and the outputs. -/
theorem outputsGated_of_outs {s t : State} (hlanes : t.saf.lanes = s.saf.lanes) (houts : t.saf.outs = s.saf.outs)
    (h : OutputsGated s) : OutputsGated t := by
  unfold OutputsGated State.out at h ⊢
  rwa [hlanes, houts]

/-- Settles O59: the operations on an axis and its doorway are local to it, and a contact is one of its own pair. -/
theorem feedbackAndContactsLeaveTheRestAlone : Obligations.FeedbackAndContactsLeaveTheRestAlone := by
  unfold Obligations.FeedbackAndContactsLeaveTheRestAlone
  refine ⟨fun a e w l r x s t hgated c hc hnext => ?_, fun p second closed lane s t hgated hnext => ?_⟩
  · have hlocal : LocalTo a.val s t := by
      simp only [List.mem_cons, List.not_mem_nil, or_false] at hc
      rcases hc with rfl | rfl | rfl
      · exact localTo_of_answer rfl hgated (localTo_effectEncoderEdge a.val s e) hnext
      · exact localTo_of_answer rfl hgated (localTo_effectWireDisagreement a.val s w) hnext
      · exact localTo_of_answer rfl hgated (localTo_effectLatchEdge a.val s l.val r x) hnext
    exact ⟨eq_of_besidesAxes hlocal.rest, hlocal.axes, hlocal.doors⟩
  · have heq := effectContactChange_eq p.val second lane closed s
    have hafter : OutputsGated (effectContactChange p.val second lane closed s) :=
      outputsGated_of_outs (by rw [heq]) (by rw [heq]) hgated
    have hpending : (effectContactChange p.val second lane closed s).pending = s.pending := by rw [heq]
    have hanswer : exec (.safeContactChange p second lane closed) s =
        .next (settle s.pending (effectContactChange p.val second lane closed s)) := rfl
    rw [hanswer, settle_of_gated hafter, ← hpending] at hnext
    cases hnext
    exact ⟨heq, fun other k hother => pair_effectContactChange_other hother second closed s⟩

end Sys2Proof.Machine
end

section
/-! PROOF. The reports of the encoders: edges, wire disagreements, index, latches and SSI frames (O29). -/

namespace Sys2Proof.Machine

@[simp] theorem settle_axis (q : List Instr) (s : State) (a : Nat) : (settle q s).axis a = s.axis a := rfl
@[simp] theorem settle_door (q : List Instr) (s : State) (d : Nat) : (settle q s).door d = s.door d := rfl

/-! ## What good wires leave as it is (R131) -/

@[simp] theorem wireGood_us (a i : Nat) (yes : Bool) (s : State) : (wireGood a i yes s).us = s.us := by cases yes <;> rfl

/-- A value in force on an axis is the same on two states with the same configuration whose axes hold over the same values. -/
theorem axp_congr_held {s t : State} {a : Nat} (hpar : t.par = s.par) (hheld : (t.axis a).held = (s.axis a).held) (p : AxP) :
    t.axp a p = s.axp a p := by
  rw [State.axp, State.axp, hheld, inForce_congr hpar]

theorem effectEncoderEdge_of_count {a : Nat} (ha : a < 24) {e : EncEdge} {n : Int} {s : State} (hon : s.axOn a = true)
    (hcount : edgeCount (s.axN a .encMode) e = some n) :
    effectEncoderEdge a e s = addCounts a (if s.axp a .encInv = 1 then -n else n) (edgeWires a e s) := by
  have hon' := (axOn_edgeWires a e s).trans hon
  obtain ⟨w, hw⟩ := edgeWires_axis ha e s
  have hinv : (edgeWires a e s).axp a .encInv = s.axp a .encInv :=
    axp_congr_held (by simp [edgeWires]) (by rw [hw]) _
  rw [← axN_edgeWires ha e s] at hcount
  rw [← hinv]
  unfold edgeWires at hon' hcount ⊢
  simp only [effectEncoderEdge, hon', hcount, if_true]

/-- Good Z wires change nothing that an index is recognised by (R128). -/
theorem indexSeenNow_wireGood {a : Nat} (ha : a < 24) (rising : Bool) (s : State) :
    indexSeenNow (wireGood a 2 true s) a rising = indexSeenNow s a rising := by
  obtain ⟨w, hw⟩ := wireGood_axis ha 2 true s
  have hon : (wireGood a 2 true s).axOn a = s.axOn a := axOn_congr (wireGood_par _ _ _ _) (wireGood_dw _ _ _ _) a
  have huse : (wireGood a 2 true s).axp a .indexUse = s.axp a .indexUse :=
    axp_congr_held (wireGood_par _ _ _ _) (by rw [hw]) _
  simp only [indexSeenNow, hon, huse, hw]
  rfl

/-! ## Wire disagreements of Z and of the SSI data (R131, R135) -/

theorem axis_raiseEncoder (a : Nat) (s : State) (b : Nat) : (raiseEncoder a s).axis b = s.axis b :=
  axis_congr (raiseAxis_ax _ _ _ _ _) b

/-- The index wires are marked, and the index is no longer valid; POS_VALID stands as it was. -/
theorem effectWireDisagreement_z {a : Nat} (ha : a < 24) {s : State} (huse : s.axp a .indexUse = 1) :
    ((effectWireDisagreement a .z s).axis a).fb.has 2 = true ∧ ((effectWireDisagreement a .z s).axis a).fb.has 13 = false ∧
      posValid (effectWireDisagreement a .z s) a = posValid s a := by
  have hfb : ((effectWireDisagreement a .z s).axis a).fb =
      (({ (s.axis a).fb with wires := setBit (s.axis a).fb.wires 2 true } : Feedback).mark 2 true).mark 13 false := by
    simp only [effectWireDisagreement, huse, if_true, wireBad]
    split
    · simp [ha]
    · simp [ha, axis_raiseEncoder]
  simp only [posValid, hfb]
  refine ⟨?_, Feedback.has_mark_same _ _ _ (by decide), ?_⟩
  · rw [Feedback.has_mark_other _ _ (by decide), Feedback.has_mark_same _ _ _ (by decide)]
  · rw [Feedback.has_mark_other _ _ (by decide), Feedback.has_mark_other _ _ (by decide)]
    rfl

/-- The SSI data wires are marked, and the frames are no longer good. -/
theorem effectWireDisagreement_ssi {a : Nat} (ha : a < 24) {s : State} (hport : ssiAxisOf s (doorOf a) = some a) :
    ((effectWireDisagreement a .ssi s).axis a).fb.has 6 = true ∧ ((effectWireDisagreement a .ssi s).axis a).fb.ssiOk = false := by
  have hfb : ∃ f : Feedback, ((effectWireDisagreement a .ssi s).axis a).fb =
      { f.mark 6 true with ssiOk := false, ssiGoodRun := 0, ssiMisRun := 0,
                           ssiCapture := (s.axis a).fb.ssiCapture.map fun c => (c.1, false) } := by
    refine ⟨{ (s.axis a).fb with wires := setBit (s.axis a).fb.wires 6 true }, ?_⟩
    simp only [effectWireDisagreement, hport, if_true, wireBad]
    split
    · simp [ha]
    · simp [ha, axis_raiseEncoder]
  obtain ⟨f, hf⟩ := hfb
  rw [hf]
  exact ⟨Feedback.has_mark_same f 6 true (by decide), rfl⟩

/-! ## Latches (R145) -/

theorem latchOf_captureLatch {a l : Nat} (ha : a < 24) (hl : l < 2) (count : Int) (ageNs : Nat) (s : State) :
    let x := latchOf s a l
    let y := latchOf (captureLatch a l count ageNs s) a l
    y.seq = wrap32 (x.seq + 1) ∧ y.pos = truncR (posAt s a count) ∧ y.unread = true ∧ y.source = x.src := by
  simp only [captureLatch, modLatch, latchOf]
  rw [State.axis_modFb_same _ _ _ ha, vget_vset_same _ hl]
  exact ⟨rfl, rfl, rfl, rfl⟩

/-! ## SSI frames (R134, R140) -/

theorem ssiStatBits_congr {s t : State} (hpar : t.par = s.par) (hdw : t.dw = s.dw) (d : Nat) :
    t.dwN d .ssiStatBits = s.dwN d .ssiStatBits := by
  rw [State.dwN, State.dwN, dwp_congr hpar hdw]

/-- The state in which the end of a frame is judged: the capture taken, the wires shown good where they were (R131, R134). -/
def ssiTaken (a : Nat) (wireBad : Bool) (s : State) : State :=
  wireGood a 6 (!wireBad) (s.modFb a fun b => { b with ssiCapture := none })

theorem ssiTaken_statBits (a : Nat) (wireBad : Bool) (s : State) (d : Nat) :
    (ssiTaken a wireBad s).dwN d .ssiStatBits = s.dwN d .ssiStatBits :=
  ssiStatBits_congr (wireGood_par _ _ _ _) (wireGood_dw _ _ _ _) d

theorem takeSsi_bad {d a value status : Nat} {c : Int × Bool} {wireBad : Bool} {s : State} (hport : ssiAxisOf s d = some a)
    (hcapture : (s.axis a).fb.ssiCapture = some c)
    (hbad : status % 2 ^ s.dwN d .ssiStatBits ≠ 0 ∨ wireBad = true ∨ c.2 = false) :
    takeSsi d value status wireBad s = (ssiBad a (ssiTaken a wireBad s), none) := by
  obtain ⟨count, clean⟩ := c
  have hbits := ssiTaken_statBits a wireBad s d
  unfold ssiTaken at hbits ⊢
  have hcond : (status % 2 ^ s.dwN d .ssiStatBits ≠ 0 || wireBad || !clean) = true := by
    rcases hbad with h | h | h <;> simp_all
  simp only [takeSsi, hport, hcapture, hbits, hcond, if_true]

theorem takeSsi_good {d a value status : Nat} {c : Int × Bool} {s : State} (hport : ssiAxisOf s d = some a)
    (hcapture : (s.axis a).fb.ssiCapture = some c) (hclean : c.2 = true)
    (hgood : status % 2 ^ s.dwN d .ssiStatBits = 0) :
    ∃ pos, (takeSsi d value status false s).2 = some (a, pos, c.1) := by
  obtain ⟨count, clean⟩ := c
  have hbits := ssiTaken_statBits a false s d
  unfold ssiTaken at hbits
  subst hclean
  simp only [takeSsi, hport, hcapture, hbits, hgood]
  exact ⟨_, rfl⟩

/-- Settles O29: each report's effect is taken from its own lemma, on the wires, the latch or the frame. -/
theorem feedbackCommandsComplete : Obligations.FeedbackCommandsComplete := by
  unfold Obligations.FeedbackCommandsComplete
  refine ⟨fun a e n s hlit hon hcount => ?edge, fun a s hlit hmode => ⟨?wireA, ?wireB⟩, fun a s hlit huse => ?wireZ,
    fun a s hlit hport => ?wireSsi, fun a rising s hlit hseen => ?index,
    fun a l rising ageNs s hlit hon harmed hsource hedge => ?latch,
    fun d a s hlit hport ha => ⟨?frameStart, ?frameLow⟩,
    fun d a value status c wireBad s hlit hport ha hcapture hbad => ?frameBad,
    fun d a value status c s hlit hport ha hcapture hclean hgood => ?frameGood⟩
  case edge => exact answers_of_lit rfl hlit (effectEncoderEdge_of_count a.isLt hon hcount)
  case wireA | wireB => exact answers_of_lit rfl hlit (if_neg hmode)
  case wireZ => exact exec_of_lit rfl hlit (effectWireDisagreement_z a.isLt huse)
  case wireSsi => exact exec_of_lit rfl hlit (effectWireDisagreement_ssi a.isLt hport)
  case index =>
    have hseen' := (indexSeenNow_wireGood a.isLt rising s).trans hseen
    intro c s1
    obtain ⟨w, hw⟩ := wireGood_axis a.isLt 2 true s
    have hraw : ((wireGood a.val 2 true s).axis a.val).fb.raw = c := by rw [hw]
    refine ⟨fun hcreep => answers_of_lit rfl hlit ?_, fun hcreep => answers_of_lit rfl hlit ?_⟩
    · have hphase : (((wireGood a.val 2 true s).modFb a.val fun b => { b with indexSeen := some c }).axis a.val).home.phase =
        .creep := hcreep
      simp only [effectIndexEdge, hseen', if_true, hraw, hphase, beq_self_eq_true]
      exact congrArg (homeIndex a.val c) rfl
    · have hphase : (((wireGood a.val 2 true s).modFb a.val fun b => { b with indexSeen := some c }).axis a.val).home.phase ≠
        .creep := hcreep
      simp only [effectIndexEdge, hseen', if_true, hraw, beq_iff_eq, hphase, if_false]
      exact congrArg (takeIndex a.val c) rfl
  case latch =>
    have hcapture : effectLatchEdge a.val l.val rising ageNs s = captureLatch a.val l.val (s.axis a.val).fb.count ageNs s := by
      unfold effectLatchEdge
      extract_lets x edgeOk
      have hedgeOk : edgeOk = true := by simpa [edgeOk] using hedge
      have hsource' : (decide (x.src = 1) || decide (x.src = 2) || decide (x.src = 4)) = true := by
        simpa [or_assoc] using hsource
      exact if_pos (by simp only [hon, hsource', hedgeOk, show x.armed = true from harmed, Bool.and_self])
    refine exec_of_lit rfl hlit ?_
    rw [hcapture]
    exact latchOf_captureLatch a.isLt l.isLt _ ageNs s
  case frameStart =>
    refine exec_of_lit rfl hlit ?_
    simp only [effectSsiStart, hport, Bool.false_eq_true, if_false, settle_axis]
    rw [State.axis_modFb_same _ _ _ ha]
  case frameLow => exact answers_of_lit rfl hlit (by simp only [effectSsiStart, hport, if_true])
  case frameBad =>
    have htake : takeSsi d.val value status wireBad s = (ssiBad a (ssiTaken a wireBad s), none) := takeSsi_bad hport hcapture hbad
    refine ⟨fun hwait hnot => answers_of_lit rfl hlit ?_, fun hother => answers_of_lit rfl hlit ?_⟩
    · simp only [effectSsiEnd, htake, hport]
      exact if_pos (by rw [Bool.and_eq_true]; exact ⟨beq_iff_eq.mpr hwait, by rw [Bool.not_eq_true']; exact hnot⟩)
    · simp only [effectSsiEnd, htake, hport]
      refine if_neg ?_
      rw [Bool.and_eq_true, not_and_or]
      exact hother.imp (fun h hphase => h (beq_iff_eq.mp hphase)) fun h hnot => by
        rw [Bool.not_eq_true'] at hnot
        exact absurd (h.symm.trans hnot) (by decide)
  case frameGood =>
    obtain ⟨pos, hpos⟩ := takeSsi_good (value := value) hport hcapture hclean hgood
    exact ⟨pos, c.1, hpos, rfl, answers_of_lit rfl hlit (by simp only [effectSsiEnd, hpos])⟩

end Sys2Proof.Machine
end

section
/-! PROOF. What a stop of an axis leaves alone: everything but the axes, the doorways, the parameters and tables that take their
waiting values at rest, Graze, the event sources, the journal and the logic's triggers. -/

namespace Sys2Proof.Machine

/-- A state without what a stop of an axis can change. -/
def State.besidesMotion (s : State) : State :=
  { s with ax := State.reset.ax, dw := State.reset.dw, par := State.reset.par, shadow := State.reset.shadow
           tab := State.reset.tab, graze := State.reset.graze, ev := State.reset.ev, jrn := State.reset.jrn
           logic := State.reset.logic }

/-- What both branches of a condition keep, the condition keeps. -/
theorem ite_keeps {β : Type} (g : State → β) (c : Prop) [Decidable c] {s u v : State} (hu : g u = g s) (hv : g v = g s) :
    g (if c then u else v) = g s := by
  split
  · exact hu
  · exact hv

section Operations

variable (s : State)

@[simp] theorem besidesMotion_modAxis (a : Nat) (f : Axis → Axis) : (s.modAxis a f).besidesMotion = s.besidesMotion := rfl
@[simp] theorem besidesMotion_modDrive (a : Nat) (f : Drive → Drive) : (s.modDrive a f).besidesMotion = s.besidesMotion := rfl
@[simp] theorem besidesMotion_modFb (a : Nat) (f : Feedback → Feedback) : (s.modFb a f).besidesMotion = s.besidesMotion := rfl
@[simp] theorem besidesMotion_modHome (a : Nat) (f : Homing → Homing) : (s.modHome a f).besidesMotion = s.besidesMotion := rfl
@[simp] theorem besidesMotion_modDoor (d : Nat) (f : Doorway → Doorway) : (s.modDoor d f).besidesMotion = s.besidesMotion := rfl
@[simp] theorem besidesMotion_modJrn (f : Journal → Journal) : (s.modJrn f).besidesMotion = s.besidesMotion := rfl
@[simp] theorem besidesMotion_modGraze (f : Graze → Graze) : (s.modGraze f).besidesMotion = s.besidesMotion := rfl
@[simp] theorem besidesMotion_setVal (p : Par) (v : Int) : (s.setVal p v).besidesMotion = s.besidesMotion := rfl

@[simp] theorem besidesMotion_raiseBy (e origin detail : Nat) (inj : Bool) :
    (raiseBy e origin detail inj s).besidesMotion = s.besidesMotion := by
  simp [State.besidesMotion]
@[simp] theorem besidesMotion_recordRaise (e origin detail : Nat) (inj : Bool) :
    (recordRaise e origin detail inj s).besidesMotion = s.besidesMotion := by
  simp [State.besidesMotion]
@[simp] theorem besidesMotion_raise (e detail : Nat) : (raise e detail s).besidesMotion = s.besidesMotion :=
  besidesMotion_raiseBy s e 0 detail false
@[simp] theorem besidesMotion_raiseAxis (a k detail : Nat) (inj : Bool) :
    (raiseAxis a k detail inj s).besidesMotion = s.besidesMotion := by
  unfold raiseAxis; split <;> simp

/-! ## Values that wait for rest (R94) -/

@[simp] theorem besidesMotion_clearPosValid (a : Nat) : (clearPosValid a s).besidesMotion = s.besidesMotion := by
  unfold clearPosValid; split <;> simp
@[simp] theorem besidesMotion_holdCount (a : Nat) (f : Int) : (holdCount a f s).besidesMotion = s.besidesMotion := by
  simp only [holdCount]; split
  · split <;> simp
  · simp
@[simp] theorem besidesMotion_untaught (d : Nat) : (untaught d s).besidesMotion = s.besidesMotion :=
  (besidesMotion_modDoor _ _ _).trans
    (foldl_keeps State.besidesMotion _ (fun _ _ => besidesMotion_modAxis _ _ _) [0, 1, 2] s)
@[simp] theorem besidesMotion_valChanged (p : Par) : (valChanged p s).besidesMotion = s.besidesMotion := by
  unfold valChanged
  split <;> simp [applyLimits]
@[simp] theorem besidesMotion_takeVal (p : Par) (v : Int) : (takeVal p v s).besidesMotion = s.besidesMotion := by
  unfold takeVal; split <;> simp
@[simp] theorem besidesMotion_applyShadow (g i : Nat) : (applyShadow g i s).besidesMotion = s.besidesMotion := by
  unfold applyShadow
  exact foldl_keeps State.besidesMotion _ (fun s e => by split <;> simp) _ _
@[simp] theorem besidesMotion_applyHeld (a : Nat) : (applyHeld a s).besidesMotion = s.besidesMotion := by
  unfold applyHeld
  exact foldl_keeps State.besidesMotion _ (fun s e => by split <;> simp) _ _
@[simp] theorem besidesMotion_applyHeldDoor (d : Nat) : (applyHeldDoor d s).besidesMotion = s.besidesMotion := by
  unfold applyHeldDoor
  exact foldl_keeps State.besidesMotion _ (fun s e => by split <;> simp) _ _
@[simp] theorem besidesMotion_applySines : (applySines s).besidesMotion = s.besidesMotion := by
  unfold applySines
  exact each_keeps State.besidesMotion 4 _ (fun s t => by
    split
    · split <;> rfl
    · rfl) s
@[simp] theorem besidesMotion_applyCams : (applyCams s).besidesMotion = s.besidesMotion := by
  unfold applyCams
  exact each_keeps State.besidesMotion 8 _ (fun s t => by
    split
    · split <;> rfl
    · rfl) s
@[simp] theorem besidesMotion_restShadows (a : Nat) : (restShadows a s).besidesMotion = s.besidesMotion := by
  simp only [restShadows]
  split <;> simp [restValues, restDoorValues]

/-! ## Stops, homing and STO (R96, R107, R156) -/

@[simp] theorem besidesMotion_homeStand (a : Nat) : (homeStand a s).besidesMotion = s.besidesMotion := rfl
@[simp] theorem besidesMotion_go (again : Bool) (a : Nat) (g : Go) : (go again a g s).besidesMotion = s.besidesMotion := rfl
@[simp] theorem besidesMotion_homeMove (a : Nat) (dist : Rat) (v : Int) :
    (homeMove a dist v s).besidesMotion = s.besidesMotion := by
  unfold homeMove; split <;> simp
@[simp] theorem besidesMotion_setHome (a : Nat) (p : HomePhase) : (setHome a p s).besidesMotion = s.besidesMotion := rfl
@[simp] theorem besidesMotion_backOffMove (a : Nat) : (backOffMove a s).besidesMotion = s.besidesMotion := by
  simp only [backOffMove]
  exact ite_keeps _ _ (by simp) (ite_keeps _ _ (by simp) (by simp))
@[simp] theorem besidesMotion_homeAborted (a : Nat) : (homeAborted a s).besidesMotion = s.besidesMotion := by
  simp only [homeAborted]
  split
  · rfl
  · split
    · simp
    · split <;> split <;> simp
@[simp] theorem besidesMotion_rampPath (a : Nat) (r : RampKind) : (rampPath a r s).besidesMotion = s.besidesMotion := by
  simp only [rampPath]
  split
  · rfl
  · exact foldl_keeps State.besidesMotion _ (fun _ _ => besidesMotion_modAxis _ _ _) _ _
@[simp] theorem besidesMotion_stopPath (a : Nat) (r : RampKind) : (stopPath a r s).besidesMotion = s.besidesMotion := by
  simp only [stopPath]
  split
  · rfl
  · split
    · split <;> simp
    · simp
@[simp] theorem besidesMotion_requestStop (a : Nat) (r : RampKind) :
    (requestStop a r s).besidesMotion = s.besidesMotion := by
  have hqueue (l : List Nat) (s : State) : (l.foldl (fun s b => discardQueue b s) s).besidesMotion = s.besidesMotion :=
    foldl_keeps State.besidesMotion _ (fun _ _ => besidesMotion_modAxis _ _ _) l s
  have habort (l : List Nat) (s : State) : (l.foldl (fun s b => homeAborted b s) s).besidesMotion = s.besidesMotion :=
    foldl_keeps State.besidesMotion _ besidesMotion_homeAborted l s
  simp only [requestStop]
  split <;> simp [hqueue, habort]
@[simp] theorem besidesMotion_abortHoming (a : Nat) : (abortHoming a s).besidesMotion = s.besidesMotion := by
  unfold abortHoming; split <;> rfl
@[simp] theorem besidesMotion_openBridges (a : Nat) (loseComm : Bool) :
    (openBridges a loseComm s).besidesMotion = s.besidesMotion := by simp [openBridges]
@[simp] theorem besidesMotion_queuePhase (a cause : Nat) : (queuePhase a cause s).besidesMotion = s.besidesMotion := by
  simp only [queuePhase]; split <;> rfl
@[simp] theorem besidesMotion_startSto (a : Nat) (count : Bool) : (startSto a count s).besidesMotion = s.besidesMotion := by
  simp only [startSto]
  split
  · rfl
  · split
    · simp
    · split <;> simp
@[simp] theorem besidesMotion_discardTest (a : Nat) : (discardTest a s).besidesMotion = s.besidesMotion := by
  unfold discardTest
  split
  · split <;> rfl
  · rfl
@[simp] theorem besidesMotion_demandSto (a : Nat) (lane : Lane) : (demandSto a lane s).besidesMotion = s.besidesMotion := by
  simp only [demandSto]
  exact ite_keeps _ _ (by simp) (by simp)
@[simp] theorem besidesMotion_markDemand (a : Nat) (lane : Lane) (b : Bool) :
    (markDemand a lane b s).besidesMotion = s.besidesMotion := rfl
@[simp] theorem besidesMotion_safeStopAxis (a : Nat) (lane : Lane) :
    (safeStopAxis a lane s).besidesMotion = s.besidesMotion := by
  have hstart (l : List Nat) (s : State) : (l.foldl (fun s b => s.modAxis b fun x =>
      { x with safeStop := some (s.us, laneSpeed s .ibex b, laneSpeed s .chamois b) }) s).besidesMotion = s.besidesMotion :=
    foldl_keeps State.besidesMotion _ (fun _ _ => besidesMotion_modAxis _ _ _) l s
  simp only [safeStopAxis]
  exact ite_keeps _ _ rfl
    (ite_keeps _ _ (ite_keeps _ _ (by simp) (by simp [hstart])) (ite_keeps _ _ (by simp) (by simp)))

/-! ## The seal of the journal (R378) -/

@[simp] theorem besidesMotion_modRegion (r : Nat) (f : Region → Region) : (s.modRegion r f).besidesMotion = s.besidesMotion := rfl
@[simp] theorem besidesMotion_putRec (r : Nat) (b : Bytes) : (putRec r b s).besidesMotion = s.besidesMotion := by
  simp [State.besidesMotion]
@[simp] theorem besidesMotion_archive (kind oldCrc newCrc count per : Nat) (data : Bytes) :
    (archive kind oldCrc newCrc count per data s).besidesMotion = s.besidesMotion := by
  simp only [archive]
  exact ite_keeps _ _ rfl (each_keeps State.besidesMotion _ _ (fun s i => by simp [archiveFrag]) s)

@[simp] theorem besidesMotion_kindRecord (kind src : Nat) (data : Bytes) (b : Bool) :
    (kindRecord kind src data b s).besidesMotion = s.besidesMotion := by simp [State.besidesMotion]
@[simp] theorem besidesMotion_sealJournal (reason : Nat) : (sealJournal reason s).besidesMotion = s.besidesMotion := by
  simp only [sealJournal]
  exact ite_keeps _ _ rfl (by simp)

end Operations

/-- A field that a stop of an axis leaves alone. -/
theorem saf_of_besidesMotion {s t : State} (h : t.besidesMotion = s.besidesMotion) : t.saf = s.saf := (congrArg State.saf h :)
theorem boot_of_besidesMotion {s t : State} (h : t.besidesMotion = s.besidesMotion) : t.boot = s.boot := (congrArg State.boot h :)

end Sys2Proof.Machine
end

section
/-! PROOF. The lanes: what the module safe state does, what settling a state leaves of the safety functions; and the obligations
on the lanes, on the contacts and on the module safe state (O21, O22, O24). -/

namespace Sys2Proof.Machine

/-! ## What settling leaves of the safety functions (R26) -/

/-- Of the safety functions settling changes the outputs alone. -/
theorem settle_saf {β : Type} (g : Safety → β) (hg : ∀ x outs, g { x with outs := outs } = g x) (q : List Instr) (t : State) :
    g (settle q t).saf = g t.saf := by
  unfold settle
  split
  · exact hg _ _
  · rfl

theorem settle_pair (q : List Instr) (t : State) (lane : Lane) (p : Nat) : (settle q t).pair lane p = t.pair lane p := by
  cases lane
  · exact settle_saf (fun x => x.pairsI[p]?.getD PairLane.reset) (fun _ _ => rfl) q t
  · exact settle_saf (fun x => x.pairsC[p]?.getD PairLane.reset) (fun _ _ => rfl) q t

/-- Of an output settling changes the commands of its switches alone. -/
theorem settle_out {β : Type} (g : SafeOut → β) (hg : ∀ x, g (gateOut x) = g x) (q : List Instr) (t : State) {o : Nat}
    (ho : o < 4) : g ((settle q t).out o) = g (t.out o) := by
  unfold settle
  split
  · interval_cases o <;> exact hg _
  · rfl

/-! ## The module safe state (R26, R214) -/

/-- What both lanes note of the module safe state. -/
def markSafe (causeBit : Nat) (s : State) : State :=
  s.modLanes fun l => { l with safe := true, cause := setBit l.cause causeBit true }

theorem takeSafeState_again {s : State} (hsafe : s.saf.lanes.safe = true) (b : Nat) : takeSafeState b s = markSafe b s := by
  simp only [takeSafeState, hsafe, if_true]
  rfl

/-- The outputs and their on-delays as the module safe state sets them, once. -/
def openOutputs (s : State) : State :=
  let s := s.modSaf fun x => { x with pulse := none, outs := x.outs.map fun o =>
    { o with demandIbex := false, demandChamois := false, hsCmd := false, lsCmd := false } }
  let s := s.modSaf fun x => { x with dlSinceI := none, dlSinceC := none, spSinceI := none, spSinceC := none,
                                      dlReadyI := false, dlReadyC := false, spReadyI := false, spReadyC := false }
  s.modLanes fun l => { l with goodRun := 0 }

/-- The stops, the events and the seal that follow change nothing of the safety functions. -/
theorem takeSafeState_first {s : State} (hsafe : s.saf.lanes.safe = false) (b : Nat) :
    (takeSafeState b s).besidesMotion = (openOutputs (markSafe b s)).besidesMotion := by
  have hstops (u : State) : (each 24 (fun s a => safeStopAxis a .chamois (safeStopAxis a .ibex s)) u).besidesMotion =
      u.besidesMotion := each_keeps State.besidesMotion 24 _ (fun s a => by simp) u
  unfold openOutputs markSafe
  simp only [takeSafeState, hsafe, Bool.false_eq_true, if_false]
  refine (ite_keeps State.besidesMotion _ (besidesMotion_sealJournal _ _) rfl).trans ?_
  refine (ite_keeps State.besidesMotion _ (ite_keeps State.besidesMotion _ (besidesMotion_recordRaise _ _ _ _ _)
    (besidesMotion_raiseBy _ _ _ _ _)) rfl).trans ?_
  refine (ite_keeps State.besidesMotion _ (besidesMotion_raiseBy _ _ _ _ _) rfl).trans ?_
  exact hstops _

theorem takeSafeState_saf (b : Nat) (s : State) : (takeSafeState b s).saf =
    if s.saf.lanes.safe then (markSafe b s).saf else (openOutputs (markSafe b s)).saf := by
  cases hsafe : s.saf.lanes.safe with
  | true => rw [takeSafeState_again hsafe]; rfl
  | false => exact saf_of_besidesMotion (takeSafeState_first hsafe b)

theorem takeSafeState_boot (b : Nat) (s : State) : (takeSafeState b s).boot = s.boot := by
  cases hsafe : s.saf.lanes.safe with
  | true => rw [takeSafeState_again hsafe]; rfl
  | false => exact (boot_of_besidesMotion (takeSafeState_first hsafe b)).trans rfl

/-- The lanes after the module safe state: its mark and its cause, and a new count of good exchanges the first time. -/
theorem takeSafeState_lanes (b : Nat) (s : State) : ∃ run, (takeSafeState b s).saf.lanes =
    { s.saf.lanes with safe := true, cause := setBit s.saf.lanes.cause b true, goodRun := run } := by
  rw [takeSafeState_saf]
  split
  · exact ⟨s.saf.lanes.goodRun, rfl⟩
  · exact ⟨0, rfl⟩

theorem takeSafeState_safe (b : Nat) (s : State) : (takeSafeState b s).saf.lanes.safe = true := by
  obtain ⟨run, h⟩ := takeSafeState_lanes b s
  rw [h]

/-- Settles O24: the safe outputs are gated when the state settles, and a further cause finds the state taken. -/
theorem safeStateOpensEverySafeOutput : Obligations.SafeStateOpensEverySafeOutput := by
  unfold Obligations.SafeStateOpensEverySafeOutput
  intro k s hk
  obtain ⟨run, hlanes⟩ := takeSafeState_lanes k s
  refine ⟨takeSafeState_safe k s, ?_, settle_gated s.pending (takeSafeState k s), fun hsafe => ?_⟩
  · rw [hlanes]
    exact getLsbD_setBit_same _ _ _ hk
  · rw [takeSafeState_again hsafe]
    exact ⟨rfl, rfl, rfl⟩

/-! ## The slot, the exchange and the windows of the lanes (R16, R24 to R27) -/

theorem effectExchange_eq {s : State} (hcommit : s.saf.commit = none) (hexchanging : exchanging s = true) :
    effectExchange s = crossLaneExchange s := by
  obtain ⟨hkept, -⟩ := crossLaneExchange_keeps hexchanging
  simp only [effectExchange, hkept, hcommit]

/-- The bad windows in a row that a lane has counted of the other lane. -/
def badWindows (s : State) (lane : Lane) : Nat :=
  match lane with | .ibex => s.saf.lanes.badWindowsIbex | .chamois => s.saf.lanes.badWindowsChamois

theorem tickWindow_good {lane : Lane} {s : State} (hup : laneUp s lane = true) :
    (tickWindow lane false s).saf.lanes.safe = s.saf.lanes.safe ∧ badWindows (tickWindow lane false s) lane = 0 := by
  simp only [tickWindow, hup, Bool.not_true, Bool.false_eq_true, if_false]
  cases lane <;> exact ⟨rfl, rfl⟩

/-- The first bad window is counted with no other effect. -/
theorem tickWindow_first {lane : Lane} {s : State} (hup : laneUp s lane = true) (hwas : badWindows s lane = 0) :
    (tickWindow lane true s).saf.lanes.safe = s.saf.lanes.safe ∧ badWindows (tickWindow lane true s) lane = 1 := by
  cases lane <;>
    · simp only [badWindows] at hwas
      simp only [tickWindow, hup, hwas, Bool.not_true, Bool.false_eq_true, if_false, if_true]
      exact ⟨rfl, rfl⟩

/-- The second bad window in a row takes the module safe state. -/
theorem tickWindow_second {lane : Lane} {s : State} (hup : laneUp s lane = true) (hwas : 1 ≤ badWindows s lane) :
    (tickWindow lane true s).saf.lanes.safe = true := by
  cases lane <;>
    · simp only [badWindows] at hwas
      simp only [tickWindow, hup, Bool.not_true, Bool.false_eq_true, if_false, if_true]
      rw [if_pos (by omega)]
      exact takeSafeState_safe _ _

/-! ## The halt of a lane (R27, R420) -/

/-- What a halted lane is known by: the lanes and the restarts that are under way. -/
def State.lanesDown (s : State) : Lanes × List (Lane × Nat) := (s.saf.lanes, s.boot.laneDown)

theorem lanesDown_of_besidesMotion {s t : State} (h : t.besidesMotion = s.besidesMotion) : t.lanesDown = s.lanesDown := by
  rw [State.lanesDown, State.lanesDown, saf_of_besidesMotion h, boot_of_besidesMotion h]

theorem besidesMotion_endJog (a : Nat) (s : State) : (endJog a s).besidesMotion = s.besidesMotion := by
  unfold endJog
  exact ite_keeps _ _ (by simp) rfl

/-- The pins of a session that ends take their safe values; nothing of the lanes follows. -/
theorem lanesDown_safePin (n : Nat) (s : State) :
    (safePin n (s.modPin n fun p => { p with writer := 0 })).lanesDown = s.lanesDown := by
  simp [State.lanesDown, safePin, cmdPin]

theorem lanesDown_endJog (a : Nat) (s : State) : (endJog a s).lanesDown = s.lanesDown :=
  lanesDown_of_besidesMotion (besidesMotion_endJog a s)

theorem lanesDown_discardQueue (a : Nat) (s : State) : (discardQueue a s).lanesDown = s.lanesDown := by
  simp [State.lanesDown, discardQueue]

theorem lanesDown_endSession (x : Session) (s : State) : (endSession x s).lanesDown = s.lanesDown := by
  unfold endSession
  extract_lets s1 s2 s3 s4
  have h1 : s1.lanesDown = s.lanesDown := each_keeps State.lanesDown 112 _
    (fun s n => ite_keeps _ _ (lanesDown_safePin n s) rfl) s
  have h2 : s2.lanesDown = s1.lanesDown := each_keeps State.lanesDown 24 _ (fun s a => by
    extract_lets u
    have hu : u.lanesDown = s.lanesDown := by
      simp only [u]
      split
      · exact ite_keeps _ _ (lanesDown_endJog a s) rfl
      · rfl
    rw [← hu]
    split
    · exact ite_keeps _ _ (lanesDown_discardQueue a u) rfl
    · rfl) s1
  clear_value s2
  have h4 : s4.lanesDown = s2.lanesDown := by
    simp only [s4, s3, State.lanesDown, State.modBoot, State.modKcp]
    split
    · split <;> rfl
    · rfl
  rw [← h1, ← h2, ← h4]
  clear_value s4
  split <;> rfl

theorem lanesDown_endSessions (f : Session → Bool) (s : State) : (endSessions f s).lanesDown = s.lanesDown := by
  unfold endSessions
  exact foldl_keeps State.lanesDown (fun s x => endSession x s) (fun s x => lanesDown_endSession x s) _ s

theorem lanesDown_stopIbex (s : State) : (stopIbex s).lanesDown = s.lanesDown := by
  have hend := lanesDown_endSessions (fun _ => true) s
  unfold stopIbex
  simpa [State.lanesDown] using hend

theorem lanesDown_stoAll (s : State) : (stoAll s).lanesDown = s.lanesDown :=
  lanesDown_of_besidesMotion (each_keeps State.besidesMotion 24 _
    (fun s a => ite_keeps _ _ (by simp) rfl) s)

/-- The lane's halt counted, and the lane down. -/
def laneHalted (lane : Lane) (s : State) : State :=
  s.modLanes fun l => { l with
    restarts := inc32 l.restarts
    restartTimes := s.jrn.opTime :: s.saf.lanes.restartTimes.filter fun t => s.jrn.opTime ≤ t + 600000
    ibexUp := l.ibexUp && lane != .ibex, chamoisUp := l.chamoisUp && lane != .chamois }

theorem laneUp_laneHalted (lane : Lane) (s : State) : laneUp (laneHalted lane s) lane = false := by
  cases lane <;> exact Bool.and_false _

theorem laneUp_of_lanesDown {s t : State} (h : t.lanesDown = s.lanesDown) (lane : Lane) : laneUp t lane = laneUp s lane := by
  have hlanes : t.saf.lanes = s.saf.lanes := congrArg Prod.fst h
  cases lane <;> simp only [laneUp, hlanes]

/-- A lane that halts takes the module safe state with it, and its restart begins. -/
theorem haltLane_restarts {lane : Lane} {cause bitNo : Nat} {s : State} (hon : s.boot.power = .on) (htrial : trial s = false)
    (hrecent : (s.saf.lanes.restartTimes.filter fun t => s.jrn.opTime ≤ t + 600000).length < 3) :
    ∃ u v : State, u.lanesDown = (laneHalted lane s).lanesDown ∧ v.lanesDown = (takeSafeState bitNo u).lanesDown ∧
      haltLane lane cause bitNo s = v.modBoot fun b =>
        { b with laneDown := (lane, cause) :: b.laneDown.filter (fun x => x.1 != lane), confirmFrom := none } := by
  have hstops : ¬3 ≤ (s.saf.lanes.restartTimes.filter fun t => s.jrn.opTime ≤ t + 600000).length := by omega
  cases lane
  · refine ⟨stoAll (laneHalted .ibex s), stopIbex (takeSafeState bitNo (stoAll (laneHalted .ibex s))),
      lanesDown_stoAll _, lanesDown_stopIbex _, ?_⟩
    simp [haltLane, hon, htrial, hstops, laneHalted]
  · refine ⟨(laneHalted .chamois s).modSaf fun x => { x with shadowC := [] },
      takeSafeState bitNo ((laneHalted .chamois s).modSaf fun x => { x with shadowC := [] }), ?_, rfl, ?_⟩
    · simp [State.lanesDown, State.modSaf]
    · simp [haltLane, hon, htrial, hstops, laneHalted]

/-- Settles O21: a slot is its own order of evaluations, the exchange and the windows count up to the module safe state. -/
theorem laneCommandsComplete : Obligations.LaneCommandsComplete := by
  unfold Obligations.LaneCommandsComplete
  refine ⟨fun lane m s hon hup => ?slot, fun s hon hibex hchamois hcommit => ?exchange, fun s hlit hdisagree => ?disagree,
    fun lane cycles s hlit hup hgood => ?window, fun lane s hlit hup => ⟨fun hwas => ?first, fun hwas => ?second⟩,
    fun lane cause bitNo c s hc hon htrial hrecent => ?halt⟩
  case slot =>
    have hexec : exec (.laneSlot lane m) s = answerOn s (laneSlot lane m) := rfl
    intro s1 s2 s3 s4
    have hslot : laneSlot lane m s = endSafety s4 := by
      cases lane <;> simp [laneSlot, hup, hon, s4, s3, s2, s1]
    exact answers_of_lit hexec (lit_of_power hon) hslot
  case exchange =>
    intro s1 bad
    have hexchanging := exchanging_iff.mpr ⟨hibex, hchamois, hon⟩
    refine exec_of_lit rfl (lit_of_power hon) ?_
    have hs1 : freezeCounts s = s1 := rfl
    have hbad : exchangeFindings s = bad := rfl
    have hus : s1.us = s.us := freezeCounts_us s
    rw [settle_lanes, settle_ax, effectExchange_eq hcommit hexchanging, crossLaneExchange_eq hexchanging, hs1, hbad]
    clear_value bad s1
    exact ⟨rfl, rfl, congrArg some hus, rfl⟩
  case disagree => exact answers_of_lit rfl hlit (if_pos hdisagree)
  case window =>
    refine exec_of_lit rfl hlit ?_
    rw [hgood]
    simp only [settle_lanes]
    cases lane <;> exact tickWindow_good hup
  case first =>
    refine exec_of_lit rfl hlit ?_
    simp only [settle_lanes]
    cases lane <;> exact tickWindow_first hup hwas
  case second =>
    refine exec_of_lit rfl hlit ?_
    simp only [settle_lanes]
    cases lane <;> exact tickWindow_second hup hwas
  case halt =>
    have hexec : exec c s = answerOn s (haltLane lane cause bitNo) := by
      rcases hc with ⟨rfl, rfl, rfl, rfl⟩ | ⟨rfl, rfl, rfl, rfl⟩ | ⟨rfl, rfl, rfl, rfl⟩ <;> rfl
    obtain ⟨u, v, hu, hv, heq⟩ := haltLane_restarts (cause := cause) (bitNo := bitNo) (lane := lane) hon htrial hrecent
    obtain ⟨run, hlanes⟩ := takeSafeState_lanes bitNo u
    have hv' : v.saf.lanes = (takeSafeState bitNo u).saf.lanes := congrArg Prod.fst hv
    have hdown : v.boot.laneDown = s.boot.laneDown :=
      calc v.boot.laneDown = (takeSafeState bitNo u).boot.laneDown := congrArg Prod.snd hv
        _ = u.boot.laneDown := by rw [takeSafeState_boot]
        _ = (laneHalted lane s).boot.laneDown := congrArg Prod.snd hu
        _ = s.boot.laneDown := rfl
    have hup : laneUp u lane = false := (laneUp_of_lanesDown hu lane).trans (laneUp_laneHalted lane s)
    refine exec_of_lit hexec (lit_of_power hon) ?_
    rw [heq, settle_lanes, settle_boot]
    refine ⟨?_, ?_, ?_⟩
    · rw [State.modBoot_saf, hv', hlanes]
    · have hup' : laneUp v lane = false := by
        rw [← hup]
        cases lane <;> simp only [laneUp, hv', hlanes]
      cases lane <;> simpa only [laneUp, settle_lanes, State.modBoot_saf] using hup'
    · rw [← hdown]
      exact congrArg (List.cons (lane, cause)) (List.filter_congr fun x _ => by rw [decide_not, bne]; rfl)

end Sys2Proof.Machine
end

section
/-! PROOF. The contacts and the safe channel: the obligations on contacts, their filters, discrepancies and a stuck reset, and on
the copies, windows, watchdog and send cycle of the KSC (O22, O25). -/

namespace Sys2Proof.Machine

/-! ## Contacts (R190, R191, R212) -/

@[simp] theorem PairLane.contact_setContact (x : PairLane) (second : Bool) (c : Contact) :
    (x.setContact second c).contact second = c := by
  cases second <;> rfl

theorem effectContactChange_contact {p : Nat} (hp : p < 32) (second : Bool) (lane : Lane) (closed : Bool) (s : State) :
    ((effectContactChange p second lane closed s).pair lane p).contact second =
      if ((s.pair lane p).contact second).raw = closed then (s.pair lane p).contact second
      else { (s.pair lane p).contact second with raw := closed, since := s.us } := by
  unfold effectContactChange
  rw [State.pair_modPair_same _ _ _ _ hp]
  by_cases hsame : ((s.pair lane p).contact second).raw = closed
  · simp only [hsame, if_true]
  · simp only [hsame, if_false, PairLane.contact_setContact]

@[simp] theorem laneRaise_saf (e detail : Nat) (s : State) : (laneRaise e detail s).saf = s.saf := by simp [laneRaise]

theorem raiseStuck_stuck (s : State) : (raiseStuck s).saf.stuck = true := by
  unfold raiseStuck
  split
  · next h => exact h
  · rw [laneRaise_saf]; rfl

theorem pair_congr {s t : State} (hsaf : t.saf = s.saf) (lane : Lane) (p : Nat) : t.pair lane p = s.pair lane p := by
  cases lane <;> simp only [State.pair, hsaf]

/-- The filtered level follows the raw level at the end of the filter time. -/
theorem effectFilterExpiry_contact {p : Nat} (hp : p < 32) {second : Bool} {lane : Lane} {s : State}
    (hdiffers : ((s.pair lane p).contact second).raw ≠ ((s.pair lane p).contact second).filt)
    (hfeed : ((s.pair lane p).contact second).raw = true → feedOff s p second = false) :
    ((effectFilterExpiry p second lane s).pair lane p).contact second =
        { (s.pair lane p).contact second with filt := ((s.pair lane p).contact second).raw } ∧
      ((s.pair lane p).contact second).since + 1000 * s.safN (.inFiltMs p) ≤ (effectFilterExpiry p second lane s).us := by
  have hacts : (decide (((s.pair lane p).contact second).raw = ((s.pair lane p).contact second).filt) ||
      ((s.pair lane p).contact second).raw && feedOff s p second) = false := by
    cases hraw : ((s.pair lane p).contact second).raw <;> simp_all
  have hpair (t : Option Nat) : (forwardTo t s).pair lane p = s.pair lane p := pair_congr (forwardTo_saf t s) lane p
  simp only [effectFilterExpiry, hacts, Bool.false_eq_true, if_false]
  constructor
  · rw [State.pair_modPair_same _ _ _ _ hp, PairLane.contact_setContact, hpair]
  · simp

/-- Settles O22: the contact's pair is the only part that each row writes. -/
theorem contactCommandsComplete : Obligations.ContactCommandsComplete := by
  unfold Obligations.ContactCommandsComplete
  refine ⟨fun p second lane closed s => ?change, fun p second lane s hlit => ⟨fun hraw hfeed => ?fed, fun hdiffers hfeed => ?filter⟩,
    fun p lane at_ s hlit htimer => ?discrepancy, fun lane at_ s hlit hsince => ?stuck⟩
  case change =>
    refine ⟨_, rfl, ?_⟩
    simp only [settle_pair]
    rw [effectContactChange_contact p.isLt]
    split
    · next h => exact ⟨h, rfl, fun hne => absurd h hne⟩
    · exact ⟨rfl, rfl, fun _ => rfl⟩
  case fed => exact answers_of_lit rfl hlit (if_pos (by rw [hraw, hfeed, Bool.and_self, Bool.or_true]))
  case filter =>
    obtain ⟨hcontact, htime⟩ := effectFilterExpiry_contact p.isLt hdiffers hfeed
    refine exec_of_lit rfl hlit ?_
    rw [settle_pair, settle_us, hcontact]
    exact ⟨rfl, rfl, htime⟩
  case discrepancy => exact answers_of_lit rfl hlit (by simp only [effectDiscrepancy, htimer])
  case stuck =>
    refine exec_of_lit rfl hlit ?_
    rw [settle_saf Safety.stuck (fun _ _ => rfl)]
    simp only [effectResetStuck, hsince]
    exact raiseStuck_stuck _

/-! ## The safe channel (R221 to R223) -/

theorem started_iff {s : State} : started s = true ↔ s.boot.step = 0 ∧ s.boot.power = .on := by simp [started]

/-- Settles O25: a copy is judged against the open window, and the windows and the watchdog end by their own moments. -/
theorem kscCommandsComplete : Obligations.KscCommandsComplete := by
  unfold Obligations.KscCommandsComplete
  refine ⟨fun lane netB src data s hup hon hstate => ?copy, fun lane w rest s hlit hwindows => ?window,
    fun lane at_ s hlit hwd => ?watchdog, fun s hconn hstarted hibex hchamois => ?cycle⟩
  case copy =>
    intro s1 k seq known
    have hruns : ¬(!laneUp s lane || s.boot.power != .on || (kscOf s lane).state == .off) = true := by
      simp [hup, hon, hstate]
    have hexec {t : State} (h : effectKscCopy lane netB src data s = t) : Answers (.kscCopyRx lane netB src data) s t :=
      answers_of_lit rfl (lit_of_power hon) h
    have hform {b : Bool} (h : kscFormOk s1 netB src data = b) : (!kscFormOk s1 netB src data) = !b := congrArg not h
    refine ⟨fun hbad => hexec ((if_neg hruns).trans (if_pos (hform hbad))), fun hok hnew hseq => hexec ?_,
      fun hok hnew hseq hfirst => hexec ?_, fun w hok hnew hseq hwindow hnet => ⟨fun hsame => hexec ?_, fun hother => hexec ?_⟩⟩
    all_goals
      have hok' : ¬(!kscFormOk s1 netB src data) = true := by rw [hform hok]; decide
      have hnew' : ¬known = true := by rw [hnew]; decide
      refine (if_neg hruns).trans ((if_neg hok').trans ((if_neg hnew').trans ?_))
    · exact if_pos (congrArg not hseq)
    all_goals
      have hseq' : ¬(!kscSeqOk s1 k seq) = true := by rw [hseq]; decide
      refine (if_neg hseq').trans ?_
    · simp only [k, s1, seq] at hfirst
      simp only [hfirst]
      rfl
    · simp only [k, s1, seq] at hwindow
      simp only [hwindow, hnet, hsame, if_false, if_true]
      rfl
    · simp only [k, s1, seq] at hwindow
      simp only [hwindow, hnet, hother, if_false]
      rfl
  case window => exact answers_of_lit rfl hlit (by simp only [effectKscWindow, hwindows])
  case watchdog => exact answers_of_lit rfl hlit (by simp only [effectKscWatchdog, hwd])
  case cycle =>
    intro s1 seq head
    have hcycle : (decide (s.safN .kscConnId = 0) || !started s || !s.saf.lanes.ibexUp || !s.saf.lanes.chamoisUp) = false := by
      have hibex' : s.saf.lanes.ibexUp = true := hibex
      have hchamois' : s.saf.lanes.chamoisUp = true := hchamois
      simp [hconn, hstarted, hibex', hchamois']
    refine answers_of_lit rfl (lit_of_power (started_iff.mp hstarted).2) ?_
    simp only [effectKscTx, hcycle, Bool.false_eq_true, if_false]
    rfl

end Sys2Proof.Machine
end

section
/-! PROOF. The safe outputs: what locks a pair off, what a switch test leaves, and the obligation on on-delay, tests, faults,
clears, closing current and safe stop (O23). -/

namespace Sys2Proof.Machine

/-! ## One output -/

theorem out_congr {s t : State} (h : t.saf.outs = s.saf.outs) (o : Nat) : t.out o = s.out o := by rw [State.out, State.out, h]

@[simp] theorem out_laneRaise (e detail : Nat) (s : State) (o : Nat) : (laneRaise e detail s).out o = s.out o :=
  out_congr (by rw [laneRaise_saf]) o

/-- A pulse that is discarded leaves its pair's current, and of its status all but the test bit (R204). -/
theorem discardPulse_out {o : Nat} (ho : o < 4) (demand : Bool) (s : State) :
    ((discardPulse o demand s).out o).current = (s.out o).current := by
  simp only [discardPulse]
  split
  · split
    · rw [State.out_modOut_same _ _ _ ho]
      rfl
    · rfl
  · rfl

/-- A pair that is locked off has the bit of its cause; its current reading stays (R201). -/
theorem lockOut_out {o : Nat} (ho : o < 4) {b : Nat} (hb : b < 16) (s : State) :
    ((lockOut o b s).out o).status.getLsbD b = true ∧ ((lockOut o b s).out o).current = (s.out o).current := by
  unfold lockOut
  split
  · next hlocked => exact ⟨hlocked, rfl⟩
  · simp only [out_laneRaise]
    rw [State.out_modOut_same _ _ _ ho]
    exact ⟨getLsbD_setBit_same _ _ _ hb, discardPulse_out ho false s⟩

/-- Without a pulse under way none is discarded. -/
theorem discardPulse_none {s : State} (hpulse : s.saf.pulse = none) (o : Nat) (demand : Bool) : discardPulse o demand s = s := by
  simp only [discardPulse, hpulse]

theorem lockOut_test {o b : Nat} {s : State} (hpulse : s.saf.pulse = none) :
    (lockOut o b s).saf.pulse = none ∧ (lockOut o b s).saf.testPlace = s.saf.testPlace := by
  unfold lockOut
  split
  · exact ⟨hpulse, rfl⟩
  · simp only [discardPulse_none hpulse, laneRaise_saf]
    exact ⟨hpulse, rfl⟩

@[simp] theorem grazeResult_saf (i k : Nat) (pass : Bool) (s : State) : (grazeResult i k pass s).saf = s.saf := by
  unfold grazeResult
  extract_lets g full g1 first g2 done g3 s1
  split
  · rfl
  · split
    · exact raise_saf _ _ _
    · rfl

theorem failBit_lt (high off : Bool) : failBit high off < 16 := by
  cases high <;> cases off <;> decide

/-! ## The switch tests (R202 to R204) -/

/-- A new rotation of the tests notes its start (R202). -/
def beginRotation (s : State) : State :=
  if s.saf.testPlace = 0 then s.modSaf fun y => { y with testFrom := some s.us } else s

theorem beginRotation_eq (s : State) :
    beginRotation s = { s with saf := { s.saf with testFrom := (beginRotation s).saf.testFrom } } := by
  unfold beginRotation
  split <;> rfl

section Tests

variable {s : State} (hstarted : started s = true) (hsafe : s.saf.lanes.safe = false) (hpulse : s.saf.pulse = none)
  (htime : s.saf.pulseAt + 1000000 ≤ s.us) (hrotation : rotationDone s = false)

include hstarted hsafe hpulse htime hrotation

/-- The conditions of a test that comes due while the module safe state does not stand. -/
theorem testPulse_due :
    ¬(!started s || s.saf.lanes.safe || s.saf.pulse.isSome || s.us < s.saf.pulseAt + 1000000 || rotationDone s) = true := by
  simp [hstarted, hsafe, hpulse, hrotation, htime]

/-- A pair whose demand has just changed is tested 1 s later. -/
theorem effectTestPulse_recent (hrecent : s.us < (s.out (lget testPlaces s.saf.testPlace (0, true)).1).changedAt + 100000) :
    effectTestPulse s = s.modSaf fun y => { y with pulseAt := s.us } :=
  (if_neg (testPulse_due hstarted hsafe hpulse htime hrotation)).trans (if_pos hrecent)

/-- A switch that is held open is passed over. -/
theorem effectTestPulse_held (hsettled : (s.out (lget testPlaces s.saf.testPlace (0, true)).1).changedAt + 100000 ≤ s.us)
    (hheld : heldOpen (s.out (lget testPlaces s.saf.testPlace (0, true)).1) (lget testPlaces s.saf.testPlace (0, true)).2 = true) :
    effectTestPulse s = (beginRotation s).modSaf fun y => { y with testPlace := (y.testPlace + 1) % 8, pulseAt := (beginRotation s).us } :=
  (if_neg (testPulse_due hstarted hsafe hpulse htime hrotation)).trans ((if_neg (Nat.not_lt.mpr hsettled)).trans (if_pos hheld))

/-- Otherwise the pulse begins. -/
theorem effectTestPulse_pulse (hsettled : (s.out (lget testPlaces s.saf.testPlace (0, true)).1).changedAt + 100000 ≤ s.us)
    (hfree : heldOpen (s.out (lget testPlaces s.saf.testPlace (0, true)).1) (lget testPlaces s.saf.testPlace (0, true)).2 = false) :
    (effectTestPulse s).saf.pulse = some ((lget testPlaces s.saf.testPlace (0, true)).1,
      (lget testPlaces s.saf.testPlace (0, true)).2, s.us, (s.out (lget testPlaces s.saf.testPlace (0, true)).1).hsCmd &&
        (s.out (lget testPlaces s.saf.testPlace (0, true)).1).lsCmd) := by
  have hus : (beginRotation s).us = s.us := by rw [beginRotation_eq]
  rw [← hus]
  have hfree' : ¬heldOpen (s.out (lget testPlaces s.saf.testPlace (0, true)).1) (lget testPlaces s.saf.testPlace (0, true)).2 =
      true := by rw [hfree]; decide
  exact congrArg (fun t : State => t.saf.pulse) ((if_neg (testPulse_due hstarted hsafe hpulse htime hrotation)).trans
    ((if_neg (Nat.not_lt.mpr hsettled)).trans (if_neg hfree')))

end Tests

/-- Whatever the verdict on a pulse that is over, the rotation goes on from the next place. -/
theorem judged_test {c c' : Prop} [Decidable c] [Decidable c'] {o b b' place : Nat} {u : State} (hpulse : u.saf.pulse = none)
    (hplace : u.saf.testPlace = place) :
    (if c then lockOut o b u else if c' then lockOut o b' u else u).saf.pulse = none ∧
      (if c then lockOut o b u else if c' then lockOut o b' u else u).saf.testPlace = place := by
  split
  · rw [← hplace]; exact lockOut_test hpulse
  · split
    · rw [← hplace]; exact lockOut_test hpulse
    · exact ⟨hpulse, hplace⟩

theorem effectTestPulseEnd_test {o at_ : Nat} {high on : Bool} {s : State} (hpulse : s.saf.pulse = some (o, high, at_, on))
    (during after : Bool) :
    (effectTestPulseEnd during after s).saf.pulse = none ∧
      (effectTestPulseEnd during after s).saf.testPlace = (s.saf.testPlace + 1) % 8 := by
  simp only [effectTestPulseEnd, hpulse]
  exact judged_test (by simp [State.modOut, State.modSaf]) (by simp [State.modOut, State.modSaf])

/-- The second test of a clear waits for its moment; the pair stays as it is (R205). -/
theorem clearWait_out (first : Prop) [Decidable first] (at_ : Option Nat) (s : State) (o : Nat) :
    (if first then s else forwardTo at_ s).out o = s.out o :=
  ite_keeps (fun t => t.out o) first rfl (out_congr (by rw [forwardTo_saf]) o)

/-- Settles O23: each fault is a lock of its output, and the tests go round by their place. -/
theorem safeOutputCommandsComplete : Obligations.SafeOutputCommandsComplete := by
  unfold Obligations.SafeOutputCommandsComplete
  refine ⟨fun lane since s hlit hsince hready => ?onDelay,
    fun s hstarted hsafe hpulse htime hrotation => ?test, fun s hdone => ?rotation,
    fun during after o high on at_ s hlit hpulse => ?testEnd, fun o high conducting s hlit htest hcmd => ?fail,
    fun o mA s hlit hover => ?overload, fun o mA s hlit => ?openLoad,
    fun o m s hlit hmask => ⟨?clearFailed, fun hfirst => ?clearFirst, fun hsecond => ?clearSecond⟩,
    fun a s hlit hmonitored hlimit hslots => ?current,
    fun a t0 v0 s hlit hstop => ?stop⟩
  case onDelay => exact answers_of_lit rfl hlit (by simp only [effectOnDelay, hsince, hready])
  case test =>
    intro place x
    have hlit := lit_of_power (started_iff.mp hstarted).2
    refine ⟨fun hrecent => exec_of_lit rfl hlit ?_, fun hsettled hheld => exec_of_lit rfl hlit ?_,
      fun hsettled hfree => exec_of_lit rfl hlit ?_⟩
    · rw [effectTestPulse_recent hstarted hsafe hpulse htime hrotation hrecent, settle_unsafe (by exact hsafe)]
      exact ⟨hpulse, rfl, rfl⟩
    · rw [effectTestPulse_held hstarted hsafe hpulse htime hrotation hsettled hheld, beginRotation_eq, settle_unsafe (by exact hsafe)]
      exact ⟨hpulse, rfl, rfl⟩
    · rw [settle_saf Safety.pulse (fun _ _ => rfl)]
      exact effectTestPulse_pulse hstarted hsafe hpulse htime hrotation hsettled hfree
  case rotation => exact answers_self rfl (if_pos (by rw [hdone, Bool.or_true]))
  case testEnd =>
    refine exec_of_lit rfl hlit ?_
    rw [settle_saf Safety.pulse (fun _ _ => rfl), settle_saf Safety.testPlace (fun _ _ => rfl)]
    exact effectTestPulseEnd_test hpulse during after
  case fail =>
    refine exec_of_lit rfl hlit ?_
    have hfails : (underTest s o.val high || decide ((if high then (s.out o.val).hsCmd else (s.out o.val).lsCmd) = conducting)) =
        false := by simp [htest, hcmd]
    rw [settle_out (fun x => x.status.getLsbD (failBit high conducting)) (fun _ => rfl) _ _ o.isLt]
    simp only [effectSwitchFail, hfails, Bool.false_eq_true, if_false]
    exact (lockOut_out o.isLt (failBit_lt high conducting) s).1
  case overload =>
    refine exec_of_lit rfl hlit ?_
    rw [settle_out (fun x => x.status.getLsbD 8) (fun _ => rfl) _ _ o.isLt, settle_out SafeOut.current (fun _ => rfl) _ _ o.isLt]
    simp only [effectSoOverload, hover, if_true]
    obtain ⟨hbit, hcurrent⟩ := lockOut_out o.isLt (b := 8) (by decide) ((s.modOut o.val fun x => { x with current := mA }).modOut
      o.val fun x =>
        let l := s.us :: x.overTimes.filter fun t => s.us ≤ t + 600000000
        { x with overTimes := l, overLock := x.overLock || decide (3 ≤ l.length) })
    rw [State.out_modOut_same _ _ _ o.isLt, State.out_modOut_same _ _ _ o.isLt] at hcurrent
    exact ⟨hbit, hcurrent⟩
  case openLoad =>
    refine exec_of_lit rfl hlit ?_
    rw [settle_out SafeOut.current (fun _ => rfl) _ _ o.isLt, settle_out (fun x => x.status.getLsbD 9) (fun _ => rfl) _ _ o.isLt]
    simp only [effectSoOpenLoad]
    rw [State.out_modOut_same _ _ _ o.isLt]
    exact ⟨rfl, getLsbD_setBit_same _ _ _ (by decide)⟩
  case clearFailed =>
    refine exec_of_lit rfl hlit ?_
    rw [settle_out SafeOut.clearMask (fun _ => rfl) _ _ o.isLt, settle_out SafeOut.status (fun _ => rfl) _ _ o.isLt]
    simp only [effectClearTest, hmask, Bool.not_false, if_true]
    rw [State.out_modOut_same _ _ _ o.isLt, clearWait_out]
    exact ⟨rfl, rfl⟩
  case clearFirst =>
    refine exec_of_lit rfl hlit ?_
    rw [settle_out SafeOut.clearPassed (fun _ => rfl) _ _ o.isLt]
    simp only [effectClearTest, hmask, hfirst, if_true, Bool.not_true, Bool.false_eq_true, if_false]
    rw [State.out_modOut_same _ _ _ o.isLt]
  case clearSecond =>
    refine exec_of_lit rfl hlit ?_
    rw [settle_out SafeOut.clearMask (fun _ => rfl) _ _ o.isLt, settle_out SafeOut.status (fun _ => rfl) _ _ o.isLt]
    have hsecond' : ¬((forwardTo (some ((s.out o.val).clearAt + 1000000)) s).out o.val).clearPassed = 0 := by
      rwa [out_congr (s := s) (by rw [forwardTo_saf])]
    simp only [effectClearTest, hmask, hsecond, hsecond', if_false, Bool.not_true, Bool.false_eq_true]
    rw [State.out_modOut_same _ _ _ o.isLt, out_congr (s := s) (by rw [forwardTo_saf])]
    exact ⟨rfl, rfl⟩
  case current => exact answers_of_lit rfl hlit (if_pos (by simp [hmonitored, hlimit, hslots]))
  case stop =>
    intro s1
    obtain ⟨vI, vC⟩ := v0
    refine ⟨fun hmoving => answers_of_lit rfl hlit ?_, fun hrest => answers_of_lit rfl hlit ?_⟩
    · simp only [effectSafeStopTimeout, hstop]
      exact if_pos hmoving
    · simp only [effectSafeStopTimeout, hstop]
      exact if_neg (by rw [hrest]; decide)

end Sys2Proof.Machine
end

section
/-! PROOF. The drive stage: what the values that wait for rest leave of an axis, and what an opening of the
bridges does. -/

namespace Sys2Proof.Machine

/-! ## What values that wait for rest leave alone (R94) -/

/-- A drive without its phase, its commutation and its sine table. -/
def Drive.stage (d : Drive) : Drive := { d with phaseValid := false, commValid := false, commPrev := none, sineOld := false }

/-- What a value taken at rest cannot change of an axis: whether it moves, and the rest of its drive. -/
def Axis.stage (x : Axis) : Option Rat × Drive := (x.elapsed, x.drive.stage)

/-- What a change of an axis keeps of every axis, it keeps of each axis in the state. -/
theorem axis_modAxis_keeps {β : Type} (g : Axis → β) {f : Axis → Axis} (hf : ∀ x, g (f x) = g x) (s : State) (a b : Nat) :
    g ((s.modAxis a f).axis b) = g (s.axis b) := by
  by_cases hb : b = a
  · subst hb
    by_cases ha : b < 24
    · rw [State.axis_modAxis_same _ _ _ ha, hf]
    · simp [State.modAxis, State.setAxis, State.axis, ha]
  · rw [State.axis_modAxis_other _ _ _ _ hb]

section Stage

variable (s : State) (b : Nat)

theorem stage_modFb (a : Nat) (f : Feedback → Feedback) : ((s.modFb a f).axis b).stage = (s.axis b).stage :=
  axis_modAxis_keeps Axis.stage (by intro _; rfl) s a b

/-- A change of the drive that concerns the phase, the commutation and the sine table alone. -/
theorem stage_modDrive {f : Drive → Drive} (hf : ∀ d, (f d).stage = d.stage) (a : Nat) :
    ((s.modDrive a f).axis b).stage = (s.axis b).stage :=
  axis_modAxis_keeps Axis.stage (by intro x; exact congrArg (Prod.mk x.elapsed) (hf x.drive)) s a b

theorem stage_of_ax {s t : State} (h : t.ax = s.ax) (b : Nat) : (t.axis b).stage = (s.axis b).stage := by rw [axis_congr h]

theorem stage_raiseAxis (a k detail : Nat) (inj : Bool) : ((raiseAxis a k detail inj s).axis b).stage = (s.axis b).stage :=
  stage_of_ax (raiseAxis_ax a k detail inj s) b

theorem stage_clearPosValid (a : Nat) : ((clearPosValid a s).axis b).stage = (s.axis b).stage := by
  unfold clearPosValid
  split
  · refine (stage_of_ax (State.modDoor_ax _ _ _) b).trans ((stage_modDrive _ b (fun d => ?_) a).trans (stage_modFb _ b a _))
    split <;> rfl
  · rfl

theorem stage_holdCount (a : Nat) (f : Int) : ((holdCount a f s).axis b).stage = (s.axis b).stage := by
  simp only [holdCount]
  split
  · split
    · exact (stage_raiseAxis _ b _ _ _ _).trans ((stage_modFb _ b _ _).trans (stage_modFb _ b _ _))
    · exact stage_modFb _ b _ _
  · exact stage_modFb _ b _ _

theorem stage_untaught (d : Nat) : ((untaught d s).axis b).stage = (s.axis b).stage :=
  (stage_of_ax (State.modDoor_ax _ _ _) b).trans
    (foldl_keeps (fun s => (s.axis b).stage) (fun s sl => s.modAxis (axisOf d sl) fun x =>
      { x with learned := x.learned.noEnvelopes, saved := x.saved.noEnvelopes })
      (fun s _ => axis_modAxis_keeps Axis.stage (by intro _; rfl) s _ b) [0, 1, 2] s)

theorem stage_valChanged (p : Par) : ((valChanged p s).axis b).stage = (s.axis b).stage := by
  unfold valChanged
  split
  · exact stage_clearPosValid s b _
  · exact stage_clearPosValid s b _
  · exact (stage_untaught _ b _).trans ((stage_clearPosValid _ b _).trans (stage_modDrive s b (by intro _; rfl) _))
  · exact (stage_untaught _ b _).trans (stage_modDrive s b (by intro _; rfl) _)
  · exact stage_modDrive s b (by intro _; rfl) _
  · exact stage_untaught s b _
  · exact stage_untaught s b _
  · exact stage_holdCount s b _ _
  · exact stage_holdCount s b _ _
  · exact stage_modDrive s b (by intro _; rfl) _
  · exact stage_untaught s b _
  · rfl

theorem stage_takeVal (p : Par) (v : Int) : ((takeVal p v s).axis b).stage = (s.axis b).stage :=
  ite_keeps (fun s => (s.axis b).stage) _ rfl ((stage_valChanged _ b p).trans (stage_of_ax (State.setVal_ax _ _ _) b))

theorem stage_applyShadow (g i : Nat) : ((applyShadow g i s).axis b).stage = (s.axis b).stage := by
  unfold applyShadow
  exact foldl_keeps (fun s => (s.axis b).stage) _ (fun s e => by
    split
    · exact stage_takeVal s b _ _
    · rfl) _ _

/-- Values held over that come into force again. -/
theorem stage_heldOver (l : List (Nat × Int)) : ((l.foldl (fun s e => match keyOf e.1 with
    | some (.scalar p) => valChanged p s
    | _ => s) s).axis b).stage = (s.axis b).stage :=
  foldl_keeps (fun s => (s.axis b).stage) _ (fun s e => by
    split
    · exact stage_valChanged s b _
    · rfl) l s

theorem stage_applyHeld (a : Nat) : ((applyHeld a s).axis b).stage = (s.axis b).stage := by
  unfold applyHeld
  exact (stage_heldOver _ b _).trans (axis_modAxis_keeps Axis.stage (by intro _; rfl) s a b)

theorem stage_applyHeldDoor (d : Nat) : ((applyHeldDoor d s).axis b).stage = (s.axis b).stage := by
  unfold applyHeldDoor
  exact (stage_heldOver _ b _).trans (stage_of_ax (State.modDoor_ax _ _ _) b)

theorem applySines_ax : (applySines s).ax = s.ax := by
  unfold applySines
  exact each_keeps State.ax 4 _ (fun s t => by
    split
    · split <;> rfl
    · rfl) s

theorem applyCams_ax : (applyCams s).ax = s.ax := by
  unfold applyCams
  exact each_keeps State.ax 8 _ (fun s t => by
    split
    · split <;> rfl
    · rfl) s

/-- The values that an axis takes at rest stop nothing and start nothing. -/
theorem stage_restShadows (a : Nat) : ((restShadows a s).axis b).stage = (s.axis b).stage := by
  simp only [restShadows]
  refine (ite_keeps (fun s => (s.axis b).stage) _ ((stage_applyShadow _ b _ _).trans (stage_applyHeldDoor _ b _)) rfl).trans ?_
  refine (stage_of_ax (applySines_ax _) b).trans ((stage_of_ax (applyCams_ax _) b).trans ?_)
  refine (axis_modAxis_keeps Axis.stage ?_ _ a b).trans ((stage_applyShadow _ b _ _).trans (stage_applyHeld _ b _))
  exact fun _ => rfl

end Stage

end Sys2Proof.Machine
end

section
/-! PROOF. The reports of the drive stage: ends of profiles and ramps, the hold delay and the phase record, STO and derating, stage
faults (O32, O33, O34). -/

namespace Sys2Proof.Machine

/-! ## Opening the bridges (R120) -/

theorem closeBins_drive (x : Axis) : (closeBins x).drive = x.drive := by
  unfold closeBins
  extract_lets y
  have hy : y.drive = x.drive := by
    simp only [y]
    split <;> rfl
  rw [← hy]
  split
  · rfl
  · split <;> rfl

theorem learnFric_drive (opening : Bool) (x : Axis) : (learnFric opening x).drive = x.drive := by
  unfold learnFric
  split <;> rfl

/-- A move that is cut off changes, of the drive, the measurement of the load angle alone. -/
theorem cutMove_drive (x : Axis) : ∃ n, (cutMove x).drive = { x.drive with laLeft := n } := by
  unfold cutMove
  split
  · exact ⟨x.drive.laLeft, rfl⟩
  · extract_lets y d z
    have hy : y.drive = x.drive := closeBins_drive x
    have hz : ∃ n, z.drive = { x.drive with laLeft := n } := by
      simp only [z]
      split
      · exact ⟨0, congrArg (fun d : Drive => { d with laLeft := 0 }) hy⟩
      · exact ⟨x.drive.laLeft, hy⟩
    split
    · rwa [learnFric_drive]
    · exact hz

theorem axis_abortHoming {a : Nat} (ha : a < 24) (s : State) : ((abortHoming a s).axis a).drive = (s.axis a).drive := by
  unfold abortHoming
  split
  · rfl
  · simp [ha]

/-- What the stage of a drive tells. -/
theorem Axis.stage_eq {x y : Axis} (h : x.stage = y.stage) : x.elapsed = y.elapsed ∧ x.drive.stage = y.drive.stage :=
  Prod.ext_iff.mp h

/-- An axis whose bridges open: in FAULT, at rest, both enables down; what its stage has shown stays. -/
theorem openBridges_axis {a : Nat} (ha : a < 24) (loseComm : Bool) (s : State) :
    let x := (openBridges a loseComm s).axis a
    x.drive.state = .fault ∧ x.elapsed = none ∧ x.drive.enIbex = false ∧ x.drive.enChamois = false ∧
      x.drive.stageFault = (s.axis a).drive.stageFault ∧ x.drive.stageTemp = (s.axis a).drive.stageTemp := by
  obtain ⟨n, hcut⟩ := cutMove_drive ((abortHoming a s).axis a)
  simp only [openBridges]
  obtain ⟨helapsed, hdrive⟩ := Axis.stage_eq (stage_restShadows ((abortHoming a s).modAxis a fun x =>
    let en := x.drive.energised
    let x := dropMove x
    { x with drive := { x.drive with state := .fault, stoSince := none, stoDone := true, iSel := 0, iApplied := 0,
                                     recordDue := none, recovery := none, enIbex := false, enChamois := false,
                                     phaseValid := x.drive.phaseValid && !en,
                                     commValid := x.drive.commValid && !(en && loseComm),
                                     commPrev := if en && loseComm then none else x.drive.commPrev } }) a a)
  rw [State.axis_modAxis_same _ _ _ ha] at helapsed hdrive
  have hfault : (dropMove ((abortHoming a s).axis a)).drive.stageFault = (s.axis a).drive.stageFault := by
    simp only [dropMove, hcut, axis_abortHoming ha]
  have htemp : (dropMove ((abortHoming a s).axis a)).drive.stageTemp = (s.axis a).drive.stageTemp := by
    simp only [dropMove, hcut, axis_abortHoming ha]
  exact ⟨(congrArg Drive.state hdrive :), helapsed, (congrArg Drive.enIbex hdrive :), (congrArg Drive.enChamois hdrive :),
    (congrArg Drive.stageFault hdrive :).trans hfault, (congrArg Drive.stageTemp hdrive :).trans htemp⟩

/-! ## Stage faults (R120, R121) -/

/-- A latched stage fault sets its bit and leaves the rest of what is asked of the axis as it was. -/
theorem latchStage_axis {a b : Nat} (ha : a < 24) (hb : b < 16) (s : State) :
    let x := (latchStage a b s).axis a
    x.drive.stageFault.getLsbD b = true ∧ x.elapsed = (s.axis a).elapsed ∧
      ∃ w, x.drive = { (s.axis a).drive with stageFault := w } := by
  simp only [latchStage]
  split
  · next hset => exact ⟨hset, rfl, _, rfl⟩
  · rw [axis_congr (raiseAxis_ax _ _ _ _ _), State.axis_modAxis_same _ _ _ ha]
    exact ⟨getLsbD_setBit_same _ _ _ hb, rfl, _, rfl⟩

theorem countOc_axis {a : Nat} (ha : a < 24) (s : State) :
    ∃ l w, (countOc a s).axis a = { s.axis a with drive := { (s.axis a).drive with ocTimes := l, stageFault := w } } := by
  simp only [countOc]
  rw [State.axis_modDrive_same _ _ _ ha]
  exact ⟨_, _, rfl⟩

/-- An overcurrent or a short opens the bridges at once. -/
theorem ocFault_axis {a b : Nat} (ha : a < 24) (hb : b < 16) {s : State} (hon : s.axOn a = true) :
    let x := (ocFault a b s).axis a
    x.drive.stageFault.getLsbD b = true ∧ x.drive.state = .fault ∧ x.elapsed = none ∧ x.drive.enIbex = false ∧
      x.drive.enChamois = false := by
  obtain ⟨hstate, helapsed, hibex, hchamois, -, -⟩ := openBridges_axis ha true s
  simp only [ocFault, hon, if_true]
  obtain ⟨u, hu, l, w, haxis⟩ : ∃ u, u = (if !(s.axis a).drive.stageFault.getLsbD b then countOc a (openBridges a true s)
      else openBridges a true s) ∧ ∃ l w, u.axis a = { (openBridges a true s).axis a with
        drive := { ((openBridges a true s).axis a).drive with ocTimes := l, stageFault := w } } := by
    refine ⟨_, rfl, ?_⟩
    split
    · exact countOc_axis ha _
    · exact ⟨_, _, rfl⟩
  rw [← hu]
  obtain ⟨hbit, hsame, w', hdrive⟩ := latchStage_axis ha hb u
  refine ⟨hbit, ?_, ?_, ?_, ?_⟩
  · rw [hdrive, haxis]; exact hstate
  · rw [hsame, haxis]; exact helapsed
  · rw [hdrive, haxis]; exact hibex
  · rw [hdrive, haxis]; exact hchamois

/-- A slow fault of an axis at rest opens its bridges. -/
theorem slowFault_rest {a b : Nat} (ha : a < 24) (hb : b < 16) {s : State} (hon : s.axOn a = true) (hrest : moving s a = false) :
    let x := (slowFault a b s).axis a
    x.drive.state = .fault ∧ x.drive.stageFault.getLsbD b = true ∧ x.drive.stageTemp = (s.axis a).drive.stageTemp := by
  obtain ⟨hbit, hsame, w, hdrive⟩ := latchStage_axis ha hb s
  have hrest' : moving (latchStage a b s) a = false := by rw [moving, hsame]; exact hrest
  obtain ⟨hstate, -, -, -, hfault, htemp⟩ := openBridges_axis ha true (latchStage a b s)
  simp only [slowFault, hon, hrest', if_true, Bool.false_eq_true, if_false]
  exact ⟨hstate, by rw [hfault]; exact hbit, by rw [htemp, hdrive]⟩

/-- A slow fault of a moving axis opens them when it has stopped. -/
theorem slowFault_moving {a b : Nat} (ha : a < 24) (hb : b < 16) {s : State} (hon : s.axOn a = true) (hmoving : moving s a = true) :
    ((slowFault a b s).axis a).drive.faultAtRest = true := by
  obtain ⟨-, hsame, -⟩ := latchStage_axis ha hb s
  have hmoving' : moving (latchStage a b s) a = true := by rw [moving, hsame]; exact hmoving
  simp only [slowFault, hon, hmoving', if_true]
  rw [State.axis_modDrive_same _ _ _ ha]

/-- The measured temperature of an axis's stage. -/
def setStageTemp (a : Nat) (temp : Int) (s : State) : State := s.modDrive a fun d => { d with stageTemp := temp }

theorem axis_stageTemp {a : Nat} (ha : a < 24) (temp : Int) (s : State) : (setStageTemp a temp s).axis a =
    { s.axis a with drive := { (s.axis a).drive with stageTemp := temp } } := State.axis_modDrive_same _ _ _ ha

theorem stageTemp_on {a : Nat} {s : State} (hon : s.axOn a = true) (temp : Int) : (setStageTemp a temp s).axOn a = true := hon

theorem stageTemp_moving {a : Nat} (ha : a < 24) (temp : Int) (s : State) : moving (setStageTemp a temp s) a = moving s a := by
  rw [moving, moving, axis_stageTemp ha]

theorem effectOvertemperature_hot {a : Nat} {temp : Int} {s : State} (hon : s.axOn a = true) (htemp : 1500 ≤ temp) :
    effectOvertemperature a temp s = slowFault a 9 (setStageTemp a temp s) := by
  simp only [effectOvertemperature, hon, htemp, if_true]
  rfl

/-- The warning sets its bit, with its event the first time, and stops nothing. -/
theorem effectOtWarning_axis {a : Nat} (ha : a < 24) {temp : Int} {s : State} (hon : s.axOn a = true) (hwarm : 1350 ≤ temp) :
    ((effectOtWarning a temp s).axis a).drive.stageFault.getLsbD 8 = true ∧
      ((effectOtWarning a temp s).axis a).drive.state = (s.axis a).drive.state := by
  simp only [effectOtWarning, hon, if_true, hwarm, decide_true, Bool.true_and]
  cases hwas : (s.axis a).drive.stageFault.getLsbD 8 with
  | true =>
    simp only [Bool.not_true, Bool.false_eq_true, if_false]
    rw [State.axis_modDrive_same _ _ _ ha]
    exact ⟨hwas, rfl⟩
  | false =>
    simp only [Bool.not_false, if_true]
    rw [axis_congr (raise_ax _ _ _), State.axis_modDrive_same _ _ _ ha, State.axis_modDrive_same _ _ _ ha]
    exact ⟨getLsbD_setBit_same _ _ _ (by decide), rfl⟩

/-- Settles O34: the fast faults open the bridges and then latch, the slow ones latch and then stop or open. -/
theorem stageFaultCommandsComplete : Obligations.StageFaultCommandsComplete := by
  unfold Obligations.StageFaultCommandsComplete
  refine ⟨fun a s hlit hon c b hc => ?fast, fun a phaseB temp s hlit hon hrest => ⟨?openRest, fun htemp => ?hotRest⟩,
    fun a phaseB temp s hlit hon hmoving => ⟨?openMoving, fun htemp => ?hotMoving⟩,
    fun a temp s hlit hon => ⟨fun hwarm => ?warning, fun hcool => ?cleared⟩,
    fun mV s hlit => ⟨fun hunder => answers_of_lit rfl hlit (if_pos hunder), fun hover => answers_of_lit rfl hlit (if_pos hover)⟩⟩
  case fast =>
    have hfault : exec c s = answerOn s (ocFault a.val b) ∧ b < 16 := by
      simp only [List.mem_cons, Prod.mk.injEq, List.not_mem_nil, or_false] at hc
      obtain ⟨rfl, rfl⟩ | ⟨rfl, rfl⟩ | ⟨rfl, rfl⟩ | ⟨rfl, rfl⟩ | ⟨rfl, rfl⟩ := hc <;> exact ⟨rfl, by decide⟩
    obtain ⟨hbit, hstate, helapsed, hibex, hchamois⟩ := ocFault_axis a.isLt hfault.2 hon
    exact exec_of_lit hfault.1 hlit ⟨hbit, hstate, congrArg Option.isSome helapsed, hibex, hchamois⟩
  case openRest =>
    obtain ⟨hstate, hbit, -⟩ := slowFault_rest a.isLt (b := if phaseB then 7 else 6) (by split <;> decide) hon hrest
    exact exec_of_lit rfl hlit ⟨hstate, hbit⟩
  case openMoving =>
    exact exec_of_lit rfl hlit (slowFault_moving a.isLt (b := if phaseB then 7 else 6) (by split <;> decide) hon hmoving)
  case hotRest =>
    obtain ⟨hstate, hbit, htemp'⟩ := slowFault_rest a.isLt (b := 9) (by decide) (stageTemp_on hon temp)
      ((stageTemp_moving a.isLt temp s).trans hrest)
    rw [axis_stageTemp a.isLt] at htemp'
    exact exec_of_lit rfl hlit ((effectOvertemperature_hot hon htemp).symm ▸ ⟨hstate, hbit, htemp'⟩)
  case hotMoving =>
    have hfault := slowFault_moving a.isLt (b := 9) (by decide) (stageTemp_on hon temp) ((stageTemp_moving a.isLt temp s).trans hmoving)
    exact exec_of_lit rfl hlit ((effectOvertemperature_hot hon htemp).symm ▸ hfault)
  case warning =>
    obtain ⟨hbit, hstate⟩ := effectOtWarning_axis a.isLt hon hwarm
    exact exec_of_lit rfl hlit ⟨hbit, hstate⟩
  case cleared =>
    refine exec_of_lit rfl hlit ?_
    simp only [effectOtCleared, hon, if_true, hcool, settle_axis]
    rw [State.axis_modDrive_same _ _ _ a.isLt]
    exact ⟨getLsbD_setBit_same _ _ _ (by decide), rfl⟩

end Sys2Proof.Machine
end

section
/-! PROOF. The timers of the drive: the hold delay, the ends of the ramps, the phase record and a park without it, the STO dwell,
and derating (O32, O33). -/

namespace Sys2Proof.Machine

/-! ## Time and the axes (R343) -/

/-- Whatever does not read the energised time of an axis is the same after time has passed. -/
theorem axis_forwardTo_keeps {β : Type} (g : Axis → β) (hg : ∀ x us, g { x with ltEnergUs := us } = g x) (t : Option Nat)
    (s : State) (a : Nat) : g ((forwardTo t s).axis a) = g (s.axis a) := by
  have helapse (us : Nat) : g ((elapse us s).axis a) = g (s.axis a) := by
    rw [axis_elapse]
    split
    · exact hg _ _
    · rfl
  unfold forwardTo
  split
  · split
    · exact helapse _
    · rfl
  · rfl

theorem drive_forwardTo (t : Option Nat) (s : State) (a : Nat) : ((forwardTo t s).axis a).drive = (s.axis a).drive :=
  axis_forwardTo_keeps Axis.drive (fun _ _ => rfl) t s a

theorem axN_forwardTo (t : Option Nat) (s : State) (a : Nat) (p : AxP) : (forwardTo t s).axN a p = s.axN a p := by
  rw [State.axN, State.axN, axp_congr_held (forwardTo_par t s) (axis_forwardTo_keeps Axis.held (fun _ _ => rfl) t s a)]

/-- Time that passes changes no region of the store. -/
theorem storeFailed_forwardTo (t : Option Nat) (s : State) : storeFailed (forwardTo t s) = storeFailed s := by
  have helapse (us : Nat) : (elapse us s).jrn.regions = s.jrn.regions := by
    cases hoff : s.boot.power == .off <;> simp [elapse, hoff, advanceOp, State.modJrn]
  have hregions : (forwardTo t s).jrn.regions = s.jrn.regions := by
    unfold forwardTo
    split
    · split
      · exact helapse _
      · rfl
    · rfl
  simp only [storeFailed, regFailed, State.region, hregions]

/-! ## Parking (R111, R398) -/

theorem takeQueuedEnable_none {a : Nat} {s : State} (h : (s.axis a).drive.enableQueued = false) : takeQueuedEnable a s = s := by
  simp only [takeQueuedEnable, h, Bool.false_eq_true, if_false]

/-- An axis that parks with nothing waiting on it: PARKED, its record no longer due, its phase valid where it may be. -/
theorem enterParked_drive {a : Nat} (ha : a < 24) (valid : Bool) {s : State}
    (hqueued : (s.axis a).drive.enableQueued = false) (hrest : (s.axis a).drive.disableAtRest = false) :
    let d := ((enterParked a valid s).axis a).drive
    d.state = .parked ∧ d.phaseValid = valid ∧ d.recordDue = none ∧ d.record = (s.axis a).drive.record := by
  simp only [enterParked]
  rw [takeQueuedEnable_none (by rw [State.axis_modDrive_same _ _ _ ha]; exact hqueued), State.axis_modDrive_same _ _ _ ha]
  simp [hrest]

theorem storeLearned_drive {a : Nat} (ha : a < 24) (s : State) : ((storeLearned a s).axis a).drive = (s.axis a).drive := by
  simp only [storeLearned]
  rw [axis_congr (State.modDoor_ax _ _ _), State.axis_modAxis_same _ _ _ ha]

/-- A commutation that is taken changes the drive's commutation alone. -/
theorem takeComm_drive {a : Nat} (ha : a < 24) (s : State) : ∃ offset prev valid, ((takeComm a s).axis a).drive =
    { (s.axis a).drive with commOffset := offset, commPrev := prev, commValid := valid } := by
  simp only [takeComm]
  rw [State.axis_modDrive_same _ _ _ ha]
  split
  · exact ⟨_, _, _, rfl⟩
  · split <;> exact ⟨_, _, _, rfl⟩

/-- A record that the store has confirmed, on an axis that parks. -/
theorem confirmPhase_drive {a : Nat} (ha : a < 24) {r : PhaseRec} {due_ : Nat} {s : State}
    (hdue : (s.axis a).drive.recordDue = some (r, due_)) (hstate : (s.axis a).drive.state = .standstill)
    (hqueued : (s.axis a).drive.enableQueued = false) (hrest : (s.axis a).drive.disableAtRest = false) :
    let d := ((confirmPhase a s).axis a).drive
    d.state = .parked ∧ d.phaseValid = posValid s a ∧ d.recordDue = none ∧
      d.record = some { r with valid := r.valid && posValid s a } := by
  obtain ⟨u, hu⟩ : ∃ u, u = (s.modDrive a fun d => { d with
      record := some { r with valid := r.valid && posValid s a }, recordDue := none, phaseValid := posValid s a }).modJrn
        fun j => { j with queue := j.queue.filter (· ≠ .phase a) } := ⟨_, rfl⟩
  have haxis : (u.axis a).drive = { (s.axis a).drive with
      record := some { r with valid := r.valid && posValid s a }, recordDue := none, phaseValid := posValid s a } := by
    rw [hu, axis_congr (State.modJrn_ax _ _), State.axis_modDrive_same _ _ _ ha]
  obtain ⟨v, hv, offset, prev, valid, hdrive⟩ : ∃ v,
      v = (if posValid s a then takeComm a (storeLearned a u) else storeLearned a u) ∧
      ∃ offset prev valid, (v.axis a).drive = { (u.axis a).drive with commOffset := offset, commPrev := prev, commValid := valid } := by
    refine ⟨_, rfl, ?_⟩
    rw [← storeLearned_drive ha u]
    split
    · exact takeComm_drive ha _
    · exact ⟨_, _, _, rfl⟩
  have hconfirm : confirmPhase a s = enterParked a (posValid s a) v := by
    have hstate' : (u.axis a).drive.state = .standstill := by rw [haxis]; exact hstate
    rw [hv]
    subst hu
    simp only [confirmPhase, hdue, hstate', beq_self_eq_true, if_true]
  rw [haxis] at hdrive
  obtain ⟨hparked, hphase, hnone, hrecord⟩ := enterParked_drive ha (posValid s a) (s := v) (by rw [hdrive]; exact hqueued)
    (by rw [hdrive]; exact hrest)
  rw [hconfirm]
  exact ⟨hparked, hphase, hnone, hrecord.trans (by rw [hdrive])⟩

/-- Settles O32: each timer's row is its operation, and what parks with nothing waiting on it is parked. -/
theorem rampCommandsComplete : Obligations.RampCommandsComplete := by
  unfold Obligations.RampCommandsComplete
  refine ⟨fun a s hlit hmoving => ⟨?profile, fun hramp => ?stop⟩, fun a at_ s hlit hhold hstate hleaf => ?hold,
    fun a at_ s hlit => ⟨fun hramp => ?enable, fun hramp => ?park, fun hramp => ?disable⟩,
    fun a r due_ s hlit hdue hstate hqueued hrest => ?confirmed,
    fun a s hlit hstate hdue hfailed hqueued hrest => ?timeout⟩
  case profile =>
    intro s1 hramp
    have hends : (moving s a.val && (s.axis a.val).ramp.isNone) = true := by rw [hmoving, hramp]; rfl
    refine ⟨fun hdone => answers_of_lit rfl hlit ((if_pos hends).trans (if_neg ?_)),
      fun hnew hnot => answers_of_lit rfl hlit ((if_pos hends).trans (if_pos ?_))⟩
    · show ¬((s1.axis a.val).ramp.isSome && !planDone (s1.axis a.val)) = true
      rcases hdone with hnone | hdone <;> simp [*]
    · show ((s1.axis a.val).ramp.isSome && !planDone (s1.axis a.val)) = true
      simp [Option.isSome_iff_ne_none.mpr hnew, hnot]
  case stop =>
    refine answers_of_lit rfl hlit (if_pos ?_)
    rw [hmoving, Bool.true_and, Option.isSome_iff_ne_none]
    exact hramp
  case hold =>
    refine exec_of_lit rfl hlit ?_
    have hfree : (isLeaf a.val && ((s.door (doorOf a.val)).leaf == .sealTest || (s.door (doorOf a.val)).leaf == .locking ||
        (s.door (doorOf a.val)).leaf == .closedNotLocked)) = false := by
      cases hkind : isLeaf a.val with
      | false => rfl
      | true =>
        obtain ⟨htest, hlocking, hclosed⟩ := hleaf hkind
        simp [htest, hlocking, hclosed]
    have hstate' : ((forwardTo (some at_) s).axis a.val).drive.state = .standstill := by rw [drive_forwardTo, hstate]
    simp only [effectHoldExpiry, hhold, hfree, hstate', beq_self_eq_true, if_true, Bool.false_eq_true, if_false, settle_axis]
    rw [State.axis_modDrive_same _ _ _ a.isLt, axN_forwardTo]
    exact ⟨rfl, rfl⟩
  case enable =>
    intro s1
    refine answers_of_lit rfl hlit ?_
    simp only [effectEnableRampEnd, hramp, beq_iff_eq]
    rfl
  case park => exact answers_of_lit rfl hlit (by simp only [effectParkRampEnd, hramp])
  case disable => exact answers_of_lit rfl hlit (by simp only [effectDisableRampEnd, hramp])
  case confirmed => exact exec_of_lit rfl hlit (confirmPhase_drive a.isLt hdue hstate hqueued hrest)
  case timeout =>
    have htimeout : ((s.axis a.val).drive.state == .standstill && (s.axis a.val).drive.recordDue.isSome && storeFailed s) = true := by
      rw [hstate, hdue, hfailed]; rfl
    obtain ⟨hparked, hphase, -, -⟩ := enterParked_drive a.isLt false hqueued hrest
    refine exec_of_lit rfl hlit ?_
    rw [parkTimeout, if_pos htimeout]
    exact ⟨hparked, hphase⟩

/-! ## STO and derating (R107, R112) -/

/-- The end of the dwell, with nothing waiting on the axis: the axis stays in STO and may be enabled. -/
theorem effectStoDwell_axis {a at_ : Nat} (ha : a < 24) {s : State} (hsince : (s.axis a).drive.stoSince = some at_)
    (hstate : (s.axis a).drive.state = .sto) (hnot : (s.axis a).drive.stoDone = false)
    (hqueued : (s.axis a).drive.enableQueued = false)
    (hrecord : (s.axis a).drive.recordDue = none ∨ storeFailed s = true) :
    ((effectStoDwell a s).axis a).drive.stoDone = true ∧ ((effectStoDwell a s).axis a).drive.state = .sto ∧
      at_ + 50000 ≤ (effectStoDwell a s).us := by
  obtain ⟨u, hu⟩ : ∃ u, u = (forwardTo (some (at_ + 50000)) s).modDrive a fun d =>
      { d with stoDone := true, stoSince := none, recordDue := none, phaseValid := d.phaseValid && d.recordDue.isNone } := ⟨_, rfl⟩
  have haxis : (u.axis a).drive = { (s.axis a).drive with
      stoDone := true, stoSince := none, recordDue := none
      phaseValid := (s.axis a).drive.phaseValid && (s.axis a).drive.recordDue.isNone } := by
    rw [hu, State.axis_modDrive_same _ _ _ ha, drive_forwardTo]
  have hends : (((forwardTo (some (at_ + 50000)) s).axis a).drive.state == .sto &&
      !((forwardTo (some (at_ + 50000)) s).axis a).drive.stoDone &&
      (((forwardTo (some (at_ + 50000)) s).axis a).drive.recordDue.isNone || storeFailed (forwardTo (some (at_ + 50000)) s))) =
        true := by
    rw [drive_forwardTo, storeFailed_forwardTo, hstate, hnot]
    rcases hrecord with h | h <;> simp [h]
  obtain ⟨-, hstage⟩ := Axis.stage_eq (stage_restShadows u a a)
  rw [haxis] at hstage
  have hdwell : effectStoDwell a s = restShadows a u := by
    rw [effectStoDwell, hsince]
    simp only [endStoDwell, hends, if_true]
    rw [← hu]
    exact takeQueuedEnable_none ((congrArg Drive.enableQueued hstage :).trans hqueued)
  rw [hdwell]
  refine ⟨(congrArg Drive.stoDone hstage :), (congrArg Drive.state hstage :).trans hstate, ?_⟩
  have hus : (restShadows a u).us = u.us := (congrArg State.us (besidesMotion_restShadows u a) :)
  rw [hus, hu]
  simp

/-- The derating of one axis at rest (R107). -/
def derateAxis (temp : Int) (s : State) (a : Nat) : State :=
  if s.axOn a && !moving s a then s.modDrive a fun d => { d with derate := deratingOf temp } else s

/-- The derating of the first axes: each at rest takes it, the others keep theirs. -/
theorem derateAxes (temp : Int) (s : State) : ∀ n ≤ 24,
    let t := (List.range n).foldl (derateAxis temp) s
    t.par = s.par ∧ t.dw = s.dw ∧ t.sup = s.sup ∧ ∀ b, t.axis b =
      if b < n ∧ s.axOn b = true ∧ moving s b = false
      then { s.axis b with drive := { (s.axis b).drive with derate := deratingOf temp } } else s.axis b
  | 0, _ => ⟨rfl, rfl, rfl, fun b => by simp⟩
  | n + 1, hn => by
    obtain ⟨hpar, hdw, hsup, haxes⟩ := derateAxes temp s n (by omega)
    simp only [List.range_succ, List.foldl_append, List.foldl_cons, List.foldl_nil]
    generalize (List.range n).foldl (derateAxis temp) s = t at hpar hdw hsup haxes ⊢
    have hself : t.axis n = s.axis n := by rw [haxes]; simp
    have hon : t.axOn n = s.axOn n := axOn_congr hpar hdw n
    have hmoving : moving t n = moving s n := by rw [moving, moving, hself]
    unfold derateAxis
    rw [hon, hmoving]
    by_cases hrest : s.axOn n = true ∧ moving s n = false
    · rw [if_pos (by simp [hrest])]
      refine ⟨hpar, hdw, hsup, fun b => ?_⟩
      by_cases hb : b = n
      · subst hb
        rw [State.axis_modDrive_same _ _ _ (by omega), hself, if_pos ⟨by omega, hrest⟩]
      · rw [State.axis_modDrive_other _ _ _ _ hb, haxes]
        have : b < n + 1 ↔ b < n := by omega
        simp only [this]
    · rw [if_neg (by simpa using hrest)]
      refine ⟨hpar, hdw, hsup, fun b => ?_⟩
      rw [haxes]
      by_cases hb : b = n
      · subst hb
        simp [hrest]
      · have : b < n + 1 ↔ b < n := by omega
        simp only [this]

theorem effectDerating_axes (temp : Int) (s : State) :
    (effectDerating temp s).sup = { s.sup with baseTemp := temp, basePeak := max s.sup.basePeak temp } ∧
      ∀ a < 24, ((effectDerating temp s).axis a).drive.derate =
        if s.axOn a = true ∧ moving s a = false then deratingOf temp else (s.axis a).drive.derate := by
  obtain ⟨u, hu⟩ : ∃ u, u = s.modSup fun u => { u with baseTemp := temp, basePeak := max u.basePeak temp } := ⟨_, rfl⟩
  have heffect : effectDerating temp s = (List.range 24).foldl (derateAxis temp) u := by rw [hu]; rfl
  have husup : u.sup = { s.sup with baseTemp := temp, basePeak := max s.sup.basePeak temp } := by rw [hu]; rfl
  have hon (a : Nat) : u.axOn a = s.axOn a := by rw [hu]; rfl
  have haxis (a : Nat) : u.axis a = s.axis a := by rw [hu]; rfl
  obtain ⟨-, -, hsup, haxes⟩ := derateAxes temp u 24 le_rfl
  rw [heffect]
  refine ⟨hsup.trans husup, fun a ha => ?_⟩
  rw [haxes, hon, moving, haxis, moving]
  by_cases hrest : s.axOn a = true ∧ (s.axis a).elapsed.isSome = false
  · rw [if_pos ⟨ha, hrest⟩, if_pos hrest]
  · rw [if_neg fun h => hrest h.2, if_neg hrest]

/-- Settles O33: the readback, the dwell and the derating act on the axis they name. -/
theorem stoAndDeratingCommandsComplete : Obligations.StoAndDeratingCommandsComplete := by
  unfold Obligations.StoAndDeratingCommandsComplete
  refine ⟨fun a i c s hlit hstate => ⟨fun hoff => ?off, fun hbad => ?bad⟩,
    fun a at_ s hlit hsince hstate hnot hqueued hrecord => ?dwell, fun temp s hlit => ?derating⟩
  case off =>
    refine exec_of_lit rfl hlit ?_
    simp only [effectStoReadback, hstate, beq_self_eq_true, if_true, hoff, Bool.not_true]
    rw [settle_axis, State.axis_modDrive_same _ _ _ a.isLt]
    exact ⟨rfl, by simp⟩
  case bad =>
    refine exec_of_lit rfl hlit ?_
    simp only [effectStoReadback, hstate, beq_self_eq_true, if_true, hbad, Bool.false_eq_true, if_false, settle_lanes]
    exact takeSafeState_safe _ _
  case dwell =>
    obtain ⟨hdone, hsto, htime⟩ := effectStoDwell_axis a.isLt hsince hstate hnot hqueued hrecord
    exact exec_of_lit rfl hlit ⟨hdone, hsto, htime⟩
  case derating =>
    refine exec_of_lit rfl hlit ?_
    obtain ⟨hsup, haxes⟩ := effectDerating_axes temp s
    simp only [settle_sup, settle_axis, hsup, true_and]
    exact fun a => haxes a.val a.isLt

end Sys2Proof.Machine
end

section
/-! PROOF. Homing: the stop found, the switch, the distance used up, the settling and the retry (O31). -/

namespace Sys2Proof.Machine

/-! ## The halt on a stop (R153, R154) -/

/-- Following a plan moves its axis alone, and tells nothing of its homing. -/
theorem followPlan_keeps {a : Nat} (ha : a < 24) (dtUs : Rat) (s : State) :
    (followPlan a dtUs s).par = s.par ∧ (followPlan a dtUs s).dw = s.dw ∧
      ((followPlan a dtUs s).axis a).home = (s.axis a).home ∧ ∀ b, b ≠ a → (followPlan a dtUs s).axis b = s.axis b := by
  have hmove (p v acc : Rat) (cnt : Bool) : (s.modAxis a (putCmd cnt p v acc)).par = s.par ∧
      (s.modAxis a (putCmd cnt p v acc)).dw = s.dw ∧ ((s.modAxis a (putCmd cnt p v acc)).axis a).home = (s.axis a).home ∧
        ∀ b, b ≠ a → (s.modAxis a (putCmd cnt p v acc)).axis b = s.axis b :=
    ⟨rfl, rfl, by rw [State.axis_modAxis_same _ _ _ ha]; rfl, fun _ hb => State.axis_modAxis_other _ _ _ _ hb⟩
  simp only [followPlan]
  split
  · split
    · exact hmove _ _ _ _
    · exact ⟨rfl, rfl, rfl, fun _ _ => rfl⟩
  · exact hmove _ _ _ _

/-- The axes homed together depend on the configuration and on who has asked for the homing. -/
theorem homedWith_congr {s t : State} (hpar : t.par = s.par) (hdw : t.dw = s.dw) {a : Nat}
    (hhost : (t.axis a).home.byHost = (s.axis a).home.byHost) : homedWith t a = homedWith s a := by
  have htype (d : Nat) : t.dtype d = s.dtype d := dwp_congr hpar hdw d _
  have hslot (d sl : Nat) : t.slotOn d sl = s.slotOn d sl := by simp only [State.slotOn, htype, dwp_congr hpar hdw]
  simp only [homedWith, hhost, htype, State.leafAxes, hslot]

/-- An axis that has met its stop: no microstep follows. -/
def haltOnStop (a : Nat) (s : State) : State :=
  setHome a .halted ((followPlan a 0 s).modAxis a fun x => { x with elapsed := none, cmdV := 0, cmdA := 0, path := [], ramp := none })

theorem haltOnStop_axis {a : Nat} (ha : a < 24) (s : State) :
    ((haltOnStop a s).axis a).elapsed = none ∧ ((haltOnStop a s).axis a).home.phase = .halted ∧
      ((haltOnStop a s).axis a).home.byHost = (s.axis a).home.byHost := by
  obtain ⟨-, -, hhome, -⟩ := followPlan_keeps ha 0 s
  simp only [haltOnStop, setHome]
  rw [State.axis_modHome_same _ _ _ ha, State.axis_modAxis_same _ _ _ ha]
  exact ⟨rfl, rfl, (congrArg Homing.byHost hhome :)⟩

theorem haltOnStop_other {a b : Nat} (ha : a < 24) (hb : b ≠ a) (s : State) : (haltOnStop a s).axis b = s.axis b := by
  obtain ⟨-, -, -, hothers⟩ := followPlan_keeps ha 0 s
  simp only [haltOnStop, setHome]
  rw [State.axis_modHome_other _ _ _ _ hb, State.axis_modAxis_other _ _ _ _ hb, hothers b hb]

theorem haltOnStop_par {a : Nat} (ha : a < 24) (s : State) : (haltOnStop a s).par = s.par := by
  simp [haltOnStop, setHome, (followPlan_keeps ha 0 s).1]

theorem haltOnStop_dw {a : Nat} (ha : a < 24) (s : State) : (haltOnStop a s).dw = s.dw := by
  simp [haltOnStop, setHome, (followPlan_keeps ha 0 s).2.1]

/-- Where another axis homed with it still searches, the axis that has met its stop waits, halted. -/
theorem homeHalt_first {a : Nat} (ha : a < 24) {s : State} (hseeks : seeksStop s a = true)
    (hother : ∃ b ∈ homedWith s a, b ≠ a ∧ (s.axis b).home.phase = .search) : homeHalt a s = haltOnStop a s := by
  obtain ⟨b, hb, hne, hsearch⟩ := hother
  obtain ⟨-, -, hhost⟩ := haltOnStop_axis ha s
  have hwith : homedWith (haltOnStop a s) a = homedWith s a := homedWith_congr (haltOnStop_par ha s) (haltOnStop_dw ha s) hhost
  have hsome : ¬((homedWith (haltOnStop a s) a).all fun b => ((haltOnStop a s).axis b).home.phase != .search) = true := by
    intro hall
    have hnot := List.all_eq_true.mp hall b (hwith ▸ hb)
    rw [haltOnStop_other ha hne, hsearch] at hnot
    exact absurd hnot (by decide)
  unfold haltOnStop at hsome ⊢
  unfold homeHalt
  rw [if_pos hseeks]
  exact if_neg hsome

/-- An axis with a switch to home by watches its edges while it moves. -/
theorem watchesSwitch {s : State} {a : Nat} (hon : s.axOn a = true) (hmoving : moving s a = true)
    (htype : s.axN a .homeType = 2 ∨ s.axN a .homeType = 3) :
    (s.axOn a && moving s a && (decide (s.axN a .homeType = 2) || decide (s.axN a .homeType = 3))) = true := by
  rcases htype with h | h <;> simp [hon, hmoving, h]

/-- Settles O31: each row finds its phase of the homing and leaves the next one. -/
theorem homingCommandsComplete : Obligations.HomingCommandsComplete := by
  unfold Obligations.HomingCommandsComplete
  refine ⟨fun a s hlit hon hphase hmoving htype hlags hsearch hother => ?stop,
    fun a s hlit hon hmoving htype => ⟨fun hphase => ?close, fun hphase hcleared => ?open_⟩,
    fun a s hlit hnot => ?noStop, fun a s hlit => ?distance, fun a s hlit hphase => ?settle,
    fun a s hlit huntil => ⟨fun hphase => ?retry, fun hphase => ?backOff⟩⟩
  case stop =>
    have hseeks : seeksStop s a.val = true := by
      rcases htype with h | h <;> simp [seeksStop, hon, hphase, hmoving, h]
    obtain ⟨b, hb, hne⟩ := hother
    have hhalt : effectHomeStop a.val s = haltOnStop a.val s :=
      (if_pos (by rw [hseeks, hlags]; rfl)).trans (homeHalt_first a.isLt hseeks ⟨b, hb, hne, hsearch b hb hne⟩)
    obtain ⟨helapsed, hhalted, -⟩ := haltOnStop_axis a.isLt s
    exact exec_of_lit rfl hlit (hhalt ▸ ⟨hhalted, congrArg Option.isSome helapsed⟩)
  case close =>
    refine answers_of_lit rfl hlit ?_
    have hswitch := watchesSwitch hon hmoving htype
    simp only [effectHomeSwitch, hswitch, hphase, if_true]
  case open_ =>
    refine answers_of_lit rfl hlit ?_
    have hswitch := watchesSwitch hon hmoving htype
    simp only [effectHomeSwitch, hswitch, hphase, hcleared, if_true, Bool.not_false, Bool.and_self]
  case noStop =>
    refine answers_of_lit rfl hlit (if_neg ?_)
    rcases hnot with h | h <;> simp [h]
  case distance =>
    intro gone
    refine ⟨fun hsearching hgone => answers_of_lit rfl hlit (if_pos ?_), fun hgone => answers_of_lit rfl hlit (if_neg ?_)⟩
    · rw [hsearching, Bool.true_and]
      exact decide_eq_true hgone
    · rw [Bool.and_eq_true, decide_eq_true_iff]
      exact fun h => absurd h.2 (not_le.mpr hgone)
  case settle =>
    intro s1 l
    have hsettles : ((s.axis a.val).home.phase == .settle) = true := by rw [hphase]; rfl
    refine ⟨fun hagree => answers_of_lit rfl hlit ((if_pos hsettles).trans ?_),
      fun ⟨b, hb, hdiffers⟩ => answers_of_lit rfl hlit ((if_pos hsettles).trans ?_)⟩
    · have hall : (l.all fun b => stopAgrees s1 b) = true := List.all_eq_true.mpr hagree
      simp only [l, s1] at hall
      simp only [hall, if_true]
      rfl
    · have hall : (l.all fun b => stopAgrees s1 b) = false := by
        rw [Bool.eq_false_iff]
        exact fun h => absurd (List.all_eq_true.mp h b hb) (by rw [hdiffers]; decide)
      simp only [l, s1] at hall
      simp only [hall, Bool.false_eq_true, if_false]
      rfl
  case retry =>
    refine answers_of_lit rfl hlit ?_
    simp only [effectHomeRetry, huntil, hphase, beq_self_eq_true, Bool.and_self, if_true]
  case backOff =>
    refine answers_of_lit rfl hlit ((if_neg ?_).trans (if_pos ?_))
    · rw [huntil, hphase]; decide
    · rw [huntil, hphase]; rfl

end Sys2Proof.Machine
end

section
/-! PROOF. The contact check and the force steps of the seal test (O36). -/

namespace Sys2Proof.Machine

/-! ## What the test reads of the configuration and the axes -/

/-- An axis without the time it has been energised. -/
def Axis.untimed (x : Axis) : Axis := { x with ltEnergUs := 0 }

/-- Two states whose configuration in force and whose axes, but for their energised times, are the same. -/
structure SameForce (s t : State) : Prop where
  par : t.par = s.par
  held : ∀ d, (t.door d).held = (s.door d).held
  untimed : ∀ a, (t.axis a).untimed = (s.axis a).untimed

namespace SameForce

variable {s t u : State}

theorem trans (h : SameForce s t) (h' : SameForce t u) : SameForce s u :=
  ⟨h'.par.trans h.par, fun d => (h'.held d).trans (h.held d), fun a => (h'.untimed a).trans (h.untimed a)⟩

theorem forwardTo (at_ : Option Nat) (s : State) : SameForce s (forwardTo at_ s) :=
  ⟨forwardTo_par at_ s, fun d => by rw [State.door, State.door, forwardTo_dw],
    fun a => axis_forwardTo_keeps Axis.untimed (by intro _ _; rfl) at_ s a⟩

theorem modDoor {f : Doorway → Doorway} (hf : ∀ x, (f x).held = x.held) {d : Nat} (hd : d < 8) (s : State) :
    SameForce s (s.modDoor d f) := by
  refine ⟨rfl, fun e => ?_, fun _ => rfl⟩
  by_cases he : e = d
  · rw [he, State.door_modDoor_same _ _ _ hd, hf]
  · rw [State.door_modDoor_other _ _ _ _ he]

variable (h : SameForce s t)
include h

theorem dwp (d : Nat) (p : DwP) : t.dwp d p = s.dwp d p := dwp_congr_held h.par (h.held d) p

theorem axp (a : Nat) (p : AxP) : t.axp a p = s.axp a p :=
  axp_congr_held h.par (congrArg Axis.held (h.untimed a) :) p

theorem drive (a : Nat) : (t.axis a).drive = (s.axis a).drive := (congrArg Axis.drive (h.untimed a) :)

theorem fb (a : Nat) : (t.axis a).fb = (s.axis a).fb := (congrArg Axis.fb (h.untimed a) :)

theorem learned (a : Nat) : (t.axis a).learned = (s.axis a).learned := (congrArg Axis.learned (h.untimed a) :)

theorem testedAxes (d : Nat) : testedAxes t d = testedAxes s d := by
  rw [Machine.testedAxes, Machine.testedAxes, State.dtype, State.dtype, h.dwp]

theorem gapOf (d : Nat) : gapOf t d = gapOf s d := by
  simp only [Machine.gapOf, h.testedAxes, posExact, posAt, umCount, h.axp, h.fb]

theorem sealTarget (a k : Nat) : sealTarget t a k = sealTarget s a k := by
  simp only [Machine.sealTarget, sealF, h.dwp, h.axp, fricOf, usable0, modelCurrent, closingCurrent, h.drive, h.learned]

theorem sealForceOk (d k : Nat) : sealForceOk t d k = sealForceOk s d k := by
  simp only [Machine.sealForceOk, h.testedAxes, h.sealTarget, h.axp, h.drive]

end SameForce

/-! ## How the test goes on and ends -/

section
variable {d : Nat} (hd : d < 8) {s : State}
include hd

theorem sealEnd_door (cause : Nat) : ((sealEnd d cause s).door d).sealTest.step = none ∧
    ((sealEnd d cause s).door d).sealTest.cause = cause ∧
    ((sealEnd d cause s).door d).sealTest.steps = (s.door d).sealTest.steps ∧
    ((sealEnd d cause s).door d).sealTest.g = (s.door d).sealTest.g := by
  rw [sealEnd, State.door_modDoor_same _ _ _ hd]
  exact ⟨rfl, rfl, rfl, rfl⟩

/-- A step for which the thrust suffices begins with an empty window. -/
theorem sealStep_door {k : Nat} (hok : sealForceOk s d k = true) : ((sealStep d k s).door d).sealTest.step = some k ∧
    ((sealStep d k s).door d).sealTest.window = [] ∧
    ((sealStep d k s).door d).sealTest.cause = (s.door d).sealTest.cause := by
  rw [sealStep, if_pos hok, State.door_modDoor_same _ _ _ hd]
  exact ⟨rfl, rfl, rfl⟩

/-- A step for which it does not ends the test for want of thrust. -/
theorem sealStep_fails {k : Nat} (hweak : sealForceOk s d k = false) : ((sealStep d k s).door d).sealTest.step = none ∧
    ((sealStep d k s).door d).sealTest.cause = 10 ∧
    ((sealStep d k s).door d).sealTest.steps = (s.door d).sealTest.steps ∧
    ((sealStep d k s).door d).sealTest.g = (s.door d).sealTest.g := by
  rw [sealStep, if_neg (Bool.eq_false_iff.mp hweak)]
  exact sealEnd_door hd 10

/-- Whatever a step finds, the steps done and their gaps stand. -/
theorem sealStep_results (k : Nat) : ((sealStep d k s).door d).sealTest.steps = (s.door d).sealTest.steps ∧
    ((sealStep d k s).door d).sealTest.g = (s.door d).sealTest.g := by
  unfold sealStep
  split
  · rw [State.door_modDoor_same _ _ _ hd]
    exact ⟨rfl, rfl⟩
  · obtain ⟨-, -, hsteps, hg⟩ := sealEnd_door hd (s := s) 10
    exact ⟨hsteps, hg⟩

end

theorem sealEnd_us (d cause : Nat) (s : State) : (sealEnd d cause s).us = s.us := rfl

theorem sealStep_us (d k : Nat) (s : State) : (sealStep d k s).us = s.us := by
  unfold sealStep
  split <;> rfl

theorem sealJudge_us (d : Nat) (s : State) : (sealJudge d s).us = s.us := by
  simp only [sealJudge]
  repeat' split
  all_goals rfl

/-- The verdict after step 4 (R179), in the order of its checks. -/
theorem sealJudge_door {d : Nat} (hd : d < 8) (s : State) :
    let x := (s.door d).sealTest
    let gapBad : Bool := if x.absolute then decide (s.dwp d .sealGapMax < lget x.g 3 0)
      else decide (s.dwp d .sealGapTol < lget x.g 3 0 - lget x.gRef 3 0)
    let softBad : Bool := !x.absolute && decide ((lget x.gRef 0 0 - lget x.gRef 3 0) * (100 + s.dwp d .sealCompTolPct)
      < (lget x.g 0 0 - lget x.g 3 0) * 100)
    ((sealJudge d s).door d).sealTest.step = none ∧
      ((sealJudge d s).door d).sealTest.cause =
        (if gapBad then 4 else if softBad then 5 else if pairActive s (3 * d) then 1 else 7) ∧
      ((sealJudge d s).door d).sealTest.steps = x.steps ∧ ((sealJudge d s).door d).sealTest.g = x.g := by
  intro x gapBad softBad
  simp only [sealJudge]
  generalize hu : s.modDoor d _ = u
  have hforce : SameForce s u := hu ▸ SameForce.modDoor (by intro _; rfl) hd s
  have hdoor : (u.door d).sealTest.steps = x.steps ∧ (u.door d).sealTest.g = x.g := by
    rw [← hu, State.door_modDoor_same _ _ _ hd]
    exact ⟨rfl, rfl⟩
  have hactive : pairActive u (3 * d) = pairActive s (3 * d) := by rw [← hu]; rfl
  have hend (cause : Nat) : ((sealEnd d cause u).door d).sealTest.step = none ∧
      ((sealEnd d cause u).door d).sealTest.cause = cause ∧
      ((sealEnd d cause u).door d).sealTest.steps = x.steps ∧ ((sealEnd d cause u).door d).sealTest.g = x.g := by
    obtain ⟨hstep, hcause, hsteps, hg⟩ := sealEnd_door hd (s := u) cause
    exact ⟨hstep, hcause, hsteps.trans hdoor.1, hg.trans hdoor.2⟩
  rw [hforce.dwp, hforce.dwp, hactive]
  cases hgap : gapBad
  · rw [if_neg (Bool.eq_false_iff.mp hgap)]
    cases hsoft : softBad
    · rw [if_neg (Bool.eq_false_iff.mp hsoft)]
      cases pairActive s (3 * d)
      · exact hend 7
      · exact hend 1
    · rw [if_pos hsoft]
      exact hend 5
  · rw [if_pos hgap]
    exact hend 4

/-- At its moment the contact check takes step 1, or ends the test where the leaves have not come to rest (R178). -/
theorem effectSealContact_eq {d : Nat} {s : State} (hleaf : (s.door d).leaf = .sealTest)
    (hstep : (s.door d).sealTest.step = some 0) :
    let u := forwardTo (some ((s.door d).sealTest.started + 1000 * s.dwN d .sealContactMs)) s
    effectSealContact d s = if settled u d then sealStep d 1 u else sealEnd d 2 u :=
  if_pos (by simp [hleaf, hstep])

/-- At the end of a force step the gap is taken, where the leaves have come to rest, and judged (R179). -/
theorem effectSealStep_eq {d k : Nat} {s : State} (hleaf : (s.door d).leaf = .sealTest)
    (hstep : (s.door d).sealTest.step = some k) (hk : 1 ≤ k) :
    let x := (s.door d).sealTest
    let u := forwardTo (some (x.started + 1000 * (s.dwN d .sealContactMs + k * s.dwN d .sealStepMs))) s
    let g := rnd (if x.window = [] then gapOf u d else meanL x.window)
    let v := u.modDoor d fun y => { y with sealTest := { y.sealTest with steps := k, g := y.sealTest.g.set (k - 1) g } }
    effectSealStep d s = if !settled u d then sealEnd d 6 u
      else if (if x.absolute then decide (v.dwp d .sealGapMax + v.dwp d .sealAbortGap < g)
        else decide (v.dwp d .sealAbortGap < g - lget x.gRef (k - 1) 0)) then sealEnd d 3 v
      else if k < 4 then sealStep d (k + 1) v else sealJudge d v := by
  intro x u g v
  simp only [effectSealStep]
  rw [hstep]
  exact if_pos (by simp [hleaf, hk])

/-- A step begins with its force, or the test ends where the force is not given (R178); `s` is an earlier state of the same
force. -/
theorem sealStep_begun {d : Nat} (hd : d < 8) {s v : State} (hforce : SameForce s v) (k : Nat) :
    (sealForceOk s d k = true → ((sealStep d k v).door d).sealTest.step = some k ∧
      ((sealStep d k v).door d).sealTest.window = [] ∧
      ((sealStep d k v).door d).sealTest.cause = (v.door d).sealTest.cause) ∧
    (sealForceOk s d k = false → ((sealStep d k v).door d).sealTest.step = none ∧
      ((sealStep d k v).door d).sealTest.cause = 10) := by
  refine ⟨fun hok => sealStep_door hd ((hforce.sealForceOk d k).trans hok), fun hweak => ?_⟩
  obtain ⟨hnone, hcause, -, -⟩ := sealStep_fails hd ((hforce.sealForceOk d k).trans hweak)
  exact ⟨hnone, hcause⟩

theorem effectSealContact_idle {d : Nat} {s : State}
    (h : (s.door d).leaf ≠ .sealTest ∨ (s.door d).sealTest.step ≠ some 0) : effectSealContact d s = s := by
  refine if_neg fun hc => ?_
  rw [Bool.and_eq_true, beq_iff_eq, decide_eq_true_iff] at hc
  exact h.elim (absurd hc.1) (absurd hc.2)

theorem effectSealStep_idle {d : Nat} {s : State} (h : (s.door d).leaf ≠ .sealTest ∨ (s.door d).sealTest.step = none ∨
    (s.door d).sealTest.step = some 0) : effectSealStep d s = s := by
  simp only [effectSealStep]
  cases hstep : (s.door d).sealTest.step with
  | none => rfl
  | some k =>
    refine if_neg fun hc => ?_
    rw [Bool.and_eq_true, beq_iff_eq, decide_eq_true_iff] at hc
    obtain ⟨hleaf, hk⟩ := hc
    simp [hleaf, hstep] at h
    omega

/-- Settles O36: a test begins, goes on or ends by the one judgement of its step; without a test both rows find nothing. -/
theorem sealCommandsComplete : Obligations.SealCommandsComplete := by
  unfold Obligations.SealCommandsComplete
  refine ⟨fun d s hlit hleaf hstep => ?contact, fun d k s hlit hleaf hstep hk => ?step,
    fun d s => ⟨fun h => answers_self rfl (effectSealContact_idle h), fun h => answers_self rfl (effectSealStep_idle h)⟩⟩
  case contact =>
    intro x at_
    have heq := effectSealContact_eq hleaf hstep
    generalize hu : forwardTo (some ((s.door d.val).sealTest.started + 1000 * s.dwN d.val .sealContactMs)) s = u at heq
    have hforce : SameForce s u := hu ▸ SameForce.forwardTo _ s
    have hus : u.us = at_ := by rw [← hu, forwardTo_us]
    have hdoor : u.door d.val = s.door d.val := by rw [← hu, State.door, State.door, forwardTo_dw]
    have hsettled : settled u d.val = true ↔ x.fastAt + 10000 ≤ at_ := by
      simp only [settled, decide_eq_true_iff, hdoor, hus]
      rfl
    refine exec_of_lit (f := effectSealContact d.val) rfl hlit ?_
    simp only [settle_us, settle_door]
    rw [heq]
    by_cases hrest : settled u d.val = true
    · have hnow := hsettled.mp hrest
      rw [if_pos hrest]
      have hbegun := sealStep_begun d.isLt hforce 1
      rw [hdoor] at hbegun
      exact ⟨(sealStep_us _ _ _).trans hus, fun _ => hbegun.1, fun _ => hbegun.2, fun hearly => absurd hnow (by omega)⟩
    · have hearly := fun h => hrest (hsettled.mpr h)
      rw [if_neg hrest]
      obtain ⟨hnone, hcause, -, -⟩ := sealEnd_door d.isLt (s := u) 2
      exact ⟨hus, fun h => absurd h hearly, fun h => absurd h hearly, fun _ => ⟨hnone, hcause⟩⟩
  case step =>
    intro x at_ g gs abort gapBad softBad
    have heq := effectSealStep_eq hleaf hstep hk
    dsimp only at heq
    generalize hu : forwardTo _ s = u at heq
    have hforce : SameForce s u := hu ▸ SameForce.forwardTo _ s
    have hus : u.us = at_ := by rw [← hu, forwardTo_us]
    have hdoor : u.door d.val = s.door d.val := by rw [← hu, State.door, State.door, forwardTo_dw]
    have hsettled : settled u d.val = true ↔ x.fastAt + 10000 ≤ at_ := by
      simp only [settled, decide_eq_true_iff, hdoor, hus]
      rfl
    rw [hforce.gapOf] at heq
    generalize hv : u.modDoor d.val _ = v at heq
    have hforce' : SameForce s v := hforce.trans (hv ▸ SameForce.modDoor (by intro _; rfl) d.isLt u)
    have hvus : v.us = at_ := by rw [← hv, State.modDoor_us, hus]
    have hvdoor : (v.door d.val).sealTest = { x with steps := k, g := gs } := by
      rw [← hv, State.door_modDoor_same _ _ _ d.isLt, hdoor]
    refine exec_of_lit (f := effectSealStep d.val) rfl hlit ?_
    simp only [settle_us, settle_door]
    rw [heq]
    by_cases hrest : settled u d.val = true
    swap
    · have hearly := fun h => hrest (hsettled.mpr h)
      rw [if_pos (by simp [hrest])]
      obtain ⟨hnone, hcause, -, -⟩ := sealEnd_door d.isLt (s := u) 6
      exact ⟨hus, fun _ => ⟨hnone, hcause⟩, fun h => absurd h hearly⟩
    have hnow := hsettled.mp hrest
    have hended (cause : Nat) := sealEnd_door d.isLt (s := v) cause
    have hjudged := sealJudge_door d.isLt v
    simp only [hvdoor] at hended hjudged
    rw [hforce'.dwp, hforce'.dwp, hforce'.dwp] at hjudged
    rw [hforce'.dwp, hforce'.dwp]
    rw [if_neg (by simp [hrest])]
    cases habort : abort
    swap
    · rw [if_pos habort]
      obtain ⟨hnone, hcause, hsteps, hg⟩ := hended 3
      exact ⟨hvus, fun h => absurd hnow (by omega),
        fun _ => ⟨hsteps, hg, fun _ => ⟨hnone, hcause⟩, by simp, by simp, by simp⟩⟩
    rw [if_neg (Bool.eq_false_iff.mp habort)]
    by_cases hlast : k < 4
    · rw [if_pos hlast]
      obtain ⟨hsteps, hg⟩ := sealStep_results d.isLt (s := v) (k + 1)
      have hbegun := sealStep_begun d.isLt hforce' (k + 1)
      rw [hvdoor] at hsteps hg hbegun
      exact ⟨(sealStep_us _ _ _).trans hvus, fun h => absurd hnow (by omega), fun _ => ⟨hsteps, hg, by simp,
        fun _ _ => hbegun.1, fun _ _ => hbegun.2, fun _ h => absurd hlast (by omega)⟩⟩
    · rw [if_neg hlast]
      obtain ⟨hnone, hcause, hsteps, hg⟩ := hjudged
      have hactive : pairActive v (3 * d.val) = pairActive s (3 * d.val) := by
        rw [pairActive, pairActive, pairResult, pairResult, pair_congr (s := s)]
        rw [← hv, State.modDoor_saf, ← hu, forwardTo_saf]
      rw [hactive] at hcause
      exact ⟨(sealJudge_us _ _).trans hvus, fun h => absurd hnow (by omega), fun _ => ⟨hsteps, hg, by simp,
        fun _ h => absurd h hlast, fun _ h => absurd h hlast, fun _ _ => ⟨hnone, hcause⟩⟩⟩

end Sys2Proof.Machine
end

section
/-! PROOF. The cycle of the field link and the states of its stations (O40). -/

namespace Sys2Proof.Machine

theorem station_congr {s t : State} (h : t.stations = s.stations) (f : Nat) : t.station f = s.station f := by
  rw [State.station, State.station, h]

@[simp] theorem settle_station (q : List Instr) (s : State) (f : Nat) : (settle q s).station f = s.station f := rfl

section
variable {f : Nat} (hf : f < 16) (s : State)
include hf

/-! ## Missed frames (R253) -/

theorem loseStation_state : ((loseStation f s).station f).state = .lost := by
  simp only [loseStation]
  rw [station_congr (raise_stations _ _ _), station_congr (State.modLink_stations _ _), State.station_modStation_same _ _ _ hf]

/-- What a missed frame does follows the state it finds. -/
theorem missFrame_state : ((missFrame f s).station f).state = match (s.station f).state with
    | .joining => .lost
    | .run => .missing
    | .missing => if 3 ≤ min 3 ((s.station f).missed + 1) then .lost else .missing
    | x => x := by
  unfold missFrame
  extract_lets u
  have hu : u.station f = { s.station f with
      missed := min 3 ((s.station f).missed + 1), missedTotal := inc32 (s.station f).missedTotal, goodRun := 0 } :=
    State.station_modStation_same _ _ _ hf
  clear_value u
  have hstate : (u.station f).state = (s.station f).state := by rw [hu]
  have hmissed : (u.station f).missed = min 3 ((s.station f).missed + 1) := by rw [hu]
  rw [hstate, hmissed]
  cases hx : (s.station f).state <;> dsimp only
  case joining => exact loseStation_state hf u
  case run => rw [State.station_modStation_same _ _ _ hf]
  case missing =>
    split
    · exact loseStation_state hf u
    · rw [hstate, hx]
  all_goals rw [hstate, hx]

/-! ## Good frames (R253) -/

/-- A station that runs: its inputs are those of its frame. -/
def stationRuns (data : Bytes) (x : Station) : Station :=
  { x with state := .run, inputs := data, everRun := true, status := setBit x.status 9 false }

/-- A good frame is counted, and the station takes what its state lets it take. -/
theorem goodFrame_station (data : Bytes) : let x := { s.station f with missed := 0, goodRun := (s.station f).goodRun + 1 }
    (goodFrame f data s).station f = match (s.station f).state with
      | .joining => if 2 ≤ (s.station f).goodRun + 1 then stationRuns data x else x
      | .lost => { x with state := .joining, goodRun := 1 }
      | .run | .missing => stationRuns data x
      | .off => x := by
  intro x
  unfold goodFrame
  extract_lets run u
  have hu : u.station f = x := State.station_modStation_same _ _ _ hf
  clear_value u
  have hrun : (u.modStation f run).station f = stationRuns data x := by rw [State.station_modStation_same _ _ _ hf, hu]; rfl
  have hstate : (u.station f).state = (s.station f).state := by rw [hu]
  have hgood : (u.station f).goodRun = (s.station f).goodRun + 1 := by rw [hu]
  rw [hstate, hgood]
  cases (s.station f).state <;> dsimp only
  case joining =>
    split
    · exact hrun
    · exact hu
  case lost => rw [State.station_modStation_same _ _ _ hf, hu]
  case off => exact hu
  all_goals exact hrun

end

/-! ## The input image (R247 step 4) -/

/-- The image of the first stations: each shows what its own state gives. -/
theorem imageOfStations (s : State) : ∀ n ≤ 16,
    let t := each n (fun s f => s.modStation f fun x => { x with seen := stationSeen s f }) s
    t.par = s.par ∧ ∀ f, t.station f = if f < n then { s.station f with seen := stationSeen s f } else s.station f
  | 0, _ => ⟨rfl, fun f => by simp [each]⟩
  | n + 1, hn => by
    obtain ⟨hpar, hstations⟩ := imageOfStations s n (by omega)
    simp only [each, List.range_succ, List.foldl_append, List.foldl_cons, List.foldl_nil] at hpar hstations ⊢
    generalize (List.range n).foldl _ s = t at hpar hstations ⊢
    have hself : t.station n = s.station n := by rw [hstations, if_neg (by omega)]
    have hsubst : substitute t n = substitute s n := by rw [substitute, substitute, State.fsp, State.fsp, val_congr hpar, hself]
    have hseen : stationSeen t n = stationSeen s n := by rw [stationSeen, stationSeen, hself, hsubst]
    refine ⟨hpar, fun f => ?_⟩
    by_cases hf : f = n
    · rw [hf, State.station_modStation_same _ _ _ (by omega), hseen, hself, if_pos (by omega)]
    · rw [State.station_modStation_other _ _ _ _ hf, hstations]
      have : f < n + 1 ↔ f < n := by omega
      simp only [this]

theorem newImage_seen {f : Nat} (hf : f < 16) (s : State) : ((newImage s).station f).seen = stationSeen s f := by
  obtain ⟨-, hstations⟩ := imageOfStations s 16 le_rfl
  rw [newImage, hstations, if_pos hf]

/-! ## The cycle (R247) -/

/-- The frame of a field task that is due goes out, and the link waits for its return. -/
theorem effectFieldCycle_sends {s : State} (hruns : ibexRuns s = true) (hmode : s.sup.powerMode = 0) (hdue : s.link.due = true)
    (hany : anyStation s = true) : ∃ frame u, effectFieldCycle s = send (.fieldFrame frame (bothPorts s.link.ring)) u ∧
      u.net = s.net ∧ u.link = { s.link with
        cycle := wrap32 (s.link.cycle + 1), due := false, sentAt := some s.us, frame := frame } := by
  unfold effectFieldCycle
  rw [if_pos (by simp [hruns, hmode, hdue]), if_neg (by simp [hany])]
  extract_lets ring n b u
  have hkeeps {β : Type} (g : State → β) (hg : ∀ s f k, g (State.modStation s f k) = g s) : g u = g s :=
    foldl_keeps g _ (fun _ _ => hg _ _ _) _ _
  have hnet : u.net = s.net := hkeeps State.net (by intros; rfl)
  have hlink : u.link = s.link := hkeeps State.link (by intros; rfl)
  have hus : u.us = s.us := hkeeps State.us (by intros; rfl)
  clear_value u
  refine ⟨b, u.modLink _, rfl, hnet, ?_⟩
  rw [State.modLink_link, hlink, hus]

/-- Settles O40: the cycle by its frame, the stations by what each missed or good frame makes of them. -/
theorem fieldLinkCommandsComplete : Obligations.FieldLinkCommandsComplete := by
  unfold Obligations.FieldLinkCommandsComplete
  refine ⟨fun s hlit hruns hmode hdue hany => ?cycle, fun f s hlit hruns hsent => answers_of_lit rfl hlit rfl,
    fun at_ s hlit hruns hsent => answers_of_lit (f := effectFrameTimeout) rfl hlit ?timeout, fun f s => ?missed,
    fun f data s => ?good, fun f s => ?seen⟩
  case cycle =>
    obtain ⟨frame, u, heffect, hnet, hlink⟩ := effectFieldCycle_sends hruns hmode hdue hany
    refine exec_of_lit (f := effectFieldCycle) rfl hlit ?_
    rw [heffect]
    have hsettled : (settle s.pending (send (.fieldFrame frame (bothPorts s.link.ring)) u)).link = u.link := by
      rw [settle_link, send_link]
    rw [hsettled, settle_net, send_sent, hlink, hnet]
    exact ⟨rfl, rfl, rfl, rfl⟩
  case timeout => rw [effectFrameTimeout, hsent]
  case missed =>
    rw [missFrame_state f.isLt]
    refine ⟨fun h => ?_, fun h => ?_, fun h hn => ?_, fun h => ?_⟩ <;> rw [h]
    exact if_pos (by omega)
  case good =>
    intro x
    have hx : x = _ := goodFrame_station f.isLt s data
    refine ⟨fun h => ?_, fun h hn => ?_, fun h hn => ?_, fun h => ?_⟩
    · rw [hx, h]
      exact ⟨rfl, rfl⟩
    · rw [hx, h, hn]
      exact h
    · rw [hx, h]
      dsimp only
      rw [if_pos (by omega)]
      exact ⟨rfl, rfl⟩
    · rcases h with h | h <;> (rw [hx, h]; exact ⟨rfl, rfl, rfl⟩)
  case seen =>
    intro seen
    have hseen : seen = stationSeen s f := newImage_seen f.isLt s
    rw [hseen, stationSeen]
    refine ⟨fun h => ?_, fun h => ?_⟩
    · rcases h with h | h <;> rw [h]
    · rcases h with h | h <;> rw [h]

end Sys2Proof.Machine
end

section
/-! PROOF. Release, end and overrun of the tasks of the logic (O41). -/

namespace Sys2Proof.Machine

/-! ## What an event leaves of the logic (R271) -/

section
variable {β : Type} (g : Logic → β) (hg : ∀ l triggers stats, g { l with triggers := triggers, stats := stats } = g l)
include hg

/-- A trigger waits in its own queue, or is counted as discarded. -/
theorem pushTrigger_logic (k tag : Nat) (s : State) : g (pushTrigger k tag s).logic = g s.logic := by
  simp only [pushTrigger, State.modLogic_logic]
  split
  · exact hg _ _ s.logic.stats
  · exact hg _ s.logic.triggers _

theorem releaseTasks_logic (mode : Nat) (ok : Nat → Bool) (tag : Nat) (s : State) :
    g (releaseTasks mode ok tag s).logic = g s.logic := by
  unfold releaseTasks
  refine ite_keeps (fun s => g s.logic) _ ?_ rfl
  exact foldl_keeps (fun s => g s.logic) _ (fun s x => ite_keeps (fun s => g s.logic) _ (pushTrigger_logic g hg _ _ s) rfl) _ s

theorem raise_logic (e detail : Nat) (s : State) : g (raise e detail s).logic = g s.logic := by
  unfold raise raiseBy
  split
  · rw [recordRaise_logic]
    split
    · rw [releaseTasks_logic g hg, State.modEv_logic]
    · rw [State.modEv_logic]
  · rfl

end

/-! ## The logic stops (R276) -/

theorem liftHold_logic (i : Inst) (s : State) : (liftHold i s).logic = s.logic := by
  unfold liftHold doorReq
  refine ite_keeps State.logic _ ?_ rfl
  exact ite_keeps State.logic _ rfl rfl

/-- The logic that stops remembers why, and runs and holds no task. -/
theorem stopLogic_logic (cause : Nat) {s : State} (hstate : s.logic.state ≠ .stop) : (stopLogic cause s).logic =
    { s.logic with state := .stop, holdPending := false, stopCause := cause, running := [], ready := [], late := [],
                   triggers := .replicate 16 [], forces := [] } := by
  unfold stopLogic
  rw [if_neg (by simpa using hstate)]
  extract_lets u
  have hu : u.logic = s.logic := by
    cases hactive : s.logic.active with
    | none => simp only [u, hactive]
    | some p =>
      simp only [u, hactive]
      exact foldl_keeps State.logic (fun s i => liftHold i s) (fun s i => liftHold_logic i s) p.insts s
  clear_value u
  rw [State.modLogic_logic, hu]

theorem overrunTask_logic (task cause : Nat) {s : State} (hstate : s.logic.state ≠ .stop) :
    (overrunTask task cause s).logic.state = .stop ∧ (overrunTask task cause s).logic.stopCause = cause ∧
      (overrunTask task cause s).logic.overTask = task ∧ (overrunTask task cause s).logic.running = [] := by
  unfold overrunTask
  extract_lets u v
  have hv : v.logic = { u.logic with
      overTask := task, exch := if u.logic.exchQueued.isSome then 5 else u.logic.exch, exchQueued := none } := rfl
  have hu : u.logic = _ := stopLogic_logic cause hstate
  clear_value u v
  rw [raise_logic Logic.state (by intros; rfl), raise_logic Logic.stopCause (by intros; rfl),
    raise_logic Logic.overTask (by intros; rfl), raise_logic Logic.running (by intros; rfl), hv, hu]
  exact ⟨rfl, rfl, rfl, rfl⟩

/-! ## The end of a run (R260) -/

/-- A run that ends in its budget, where no exchange is queued, hands over; a waiting HOLD then comes once nothing runs. -/
theorem effectTaskRunEnd_inBudget {p : PlanImg} {r : TaskRun} {rest : List TaskRun} {task us : Nat} {s u : State}
    (hruns : ibexRuns s = true) (hactive : s.logic.active = some p) (hrunning : s.logic.running = r :: rest)
    (htask : r.task = task) (hbudget : us ≤ ((p.taskOf task).map Task.budget).getD 0)
    (hu : handOver r us (s.modLogic fun g => { g with running := rest }) = u) (hexch : u.logic.exchQueued = none) :
    effectTaskRunEnd task us s = dispatch (if u.logic.holdPending && u.logic.running.isEmpty then
      u.modLogic fun g => { g with state := .hold, holdPending := false } else u) := by
  unfold effectTaskRunEnd
  rw [if_neg (by simp [hruns]), hrunning, hactive]
  dsimp only
  rw [if_pos htask, if_neg (by omega), hu, hexch]

theorem effectTaskRunEnd_overBudget {p : PlanImg} {r : TaskRun} {rest : List TaskRun} {task us : Nat} {s : State}
    (hruns : ibexRuns s = true) (hactive : s.logic.active = some p) (hrunning : s.logic.running = r :: rest)
    (htask : r.task = task) (hbudget : ((p.taskOf task).map Task.budget).getD 0 < us) :
    effectTaskRunEnd task us s = overrunTask task 1 s := by
  unfold effectTaskRunEnd
  rw [if_neg (by simp [hruns]), hrunning, hactive]
  dsimp only
  rw [if_pos htask, if_pos hbudget]

/-- Settles O41: a task runs, ends or overruns by its place at the head of the running tasks. -/
theorem logicTaskCommandsComplete : Obligations.LogicTaskCommandsComplete := by
  unfold Obligations.LogicTaskCommandsComplete
  refine ⟨fun p s hlit hruns hstate hactive hlate => answers_of_lit (f := effectLogicSlot) rfl hlit ?slot,
    fun t s hlit hruns hstate hlate => answers_of_lit (f := effectLogicSlot) rfl hlit ?lateSlot,
    fun p r rest task us s hlit hruns hactive hrunning htask => ⟨fun hbudget => ?inBudget, fun hbudget =>
      answers_of_lit (f := effectTaskRunEnd task.val us) rfl hlit (effectTaskRunEnd_overBudget hruns hactive hrunning htask hbudget)⟩,
    fun r rest task s hlit hruns hstate => ⟨fun hrunning htask =>
      answers_of_lit (f := effectTaskOverrun task.val false) rfl hlit ?overrun,
      fun hlate hbusy => answers_of_lit (f := effectTaskOverrun task.val true) rfl hlit ?release⟩,
    fun task cause s hstate => overrunTask_logic task cause hstate⟩
  case slot =>
    unfold effectLogicSlot
    rw [if_pos (by simp [hruns, hstate]), hlate, hactive]
    rfl
  case lateSlot =>
    unfold effectLogicSlot
    rw [if_pos (by simp [hruns, hstate]), hlate]
  case inBudget =>
    intro s1 hexch
    have heffect := effectTaskRunEnd_inBudget hruns hactive hrunning htask hbudget (u := s1) rfl hexch
    refine ⟨fun hpending => answers_of_lit (f := effectTaskRunEnd task.val us) rfl hlit ?_,
      fun hpending hempty => answers_of_lit (f := effectTaskRunEnd task.val us) rfl hlit ?_⟩
    · rw [heffect, if_neg (by simp [hpending])]
    · rw [heffect, if_pos (by simp [hpending, hempty])]
      rfl
  case overrun =>
    simp only [effectTaskOverrun]
    rw [if_neg (by simp [hruns, hstate]), if_neg (by simp), hrunning]
    exact if_pos htask
  case release =>
    simp only [effectTaskOverrun]
    rw [if_neg (by simp [hruns, hstate]), if_pos trivial]
    exact if_pos (by simp [hlate, hbusy])

end Sys2Proof.Machine
end

section
/-! PROOF. The journal engine: its writes, the store that fails and is tested again, its periods (O42). -/

namespace Sys2Proof.Machine

/-! ## The states of the regions (R395, R399) -/

section
variable {s t : State} (q : Nat)

theorem regState_of_regions (h : t.jrn.regions = s.jrn.regions) : (t.region q).state = (s.region q).state := by
  rw [State.region, State.region, h]

theorem regState_modJrn {f : Journal → Journal} (hf : ∀ j, (f j).regions = j.regions) (s : State) :
    ((s.modJrn f).region q).state = (s.region q).state := regState_of_regions q (hf s.jrn)

theorem regState_modRegion {f : Region → Region} (hf : ∀ g, (f g).state = g.state) (r : Nat) (s : State) :
    ((s.modRegion r f).region q).state = (s.region q).state := by
  by_cases hq : q = r
  · subst hq
    by_cases hr : q < 5
    · rw [State.region_modRegion_same _ _ _ hr, hf]
    · simp [State.region, State.modRegion, hr]
  · rw [State.region_modRegion_other _ _ _ _ hq]

theorem regState_putRec (r : Nat) (b : Bytes) (s : State) : ((putRec r b s).region q).state = (s.region q).state := by
  simp only [putRec]
  rw [regState_modJrn q (by intro _; rfl), regState_modRegion q (by intro _; rfl)]

theorem regState_kindRecord (kind flags : Nat) (body : Bytes) (caddy : Bool) (s : State) :
    ((kindRecord kind flags body caddy s).region q).state = (s.region q).state :=
  foldl_keeps (fun s => (s.region q).state) _ (fun s r => regState_putRec q r _ s) _ s

theorem regState_foldInto (r : Nat) (f : Fold) (s : State) : ((foldInto r f s).region q).state = (s.region q).state := by
  simp only [foldInto, rewriteRec]
  rw [regState_of_regions q (congrArg Journal.regions (State.modEv_jrn _ _)), regState_modJrn q (by intro _; rfl),
    regState_modRegion q (by intro _; rfl)]

theorem regState_recordIn (e origin detail : Nat) (inj suppress : Bool) (s : State) (r : Nat) :
    ((recordIn e origin detail inj suppress s r).region q).state = (s.region q).state := by
  unfold recordIn
  split
  · exact regState_foldInto q r _ s
  · split
    · rfl
    · exact regState_putRec q r _ s

theorem noteRaise_regions (e : Nat) (full suppress : Bool) (s : State) :
    (noteRaise e full suppress s).jrn.regions = s.jrn.regions := by
  unfold noteRaise
  split <;> rfl

theorem regState_raise (e detail : Nat) (s : State) : ((raise e detail s).region q).state = (s.region q).state := by
  have hrecord (inj : Bool) (u : State) : ((recordRaise e 0 detail inj u).region q).state = (u.region q).state := by
    have hfold (l : List Nat) (b : Bool) : ((l.foldl (recordIn e 0 detail inj b) u).region q).state = (u.region q).state :=
      foldl_keeps (fun s => (s.region q).state) _ (fun s r => regState_recordIn q e 0 detail inj b s r) l u
    simp only [recordRaise]
    split
    · exact hfold _ _
    · rw [regState_of_regions q (noteRaise_regions _ _ _ _), hfold]
  unfold raise raiseBy
  split
  · rw [hrecord]
    refine regState_of_regions q ?_
    split <;> simp
  · rfl

end

theorem setRegion_state {r : Nat} (hr : r < 5) (st : RegState) (cause line : Nat) (s : State) (q : Nat) :
    ((setRegion r st cause line s).region q).state = if q = r then st else (s.region q).state := by
  simp only [setRegion]
  by_cases hold : (s.region r).state = st
  · rw [if_pos hold]
    split
    case isTrue hq => rw [hq, hold]
    case isFalse => rfl
  · rw [if_neg hold, regState_raise, regState_kindRecord]
    by_cases hq : q = r
    · rw [if_pos hq, hq, State.region_modRegion_same _ _ _ hr]
    · rw [if_neg hq, State.region_modRegion_other _ _ _ _ hq]

/-- The store that fails takes its four regions with it. -/
theorem failStore_state {s : State} (hup : storeFailed s = false) (cause : Nat) (r : Fin 4) :
    ((failStore cause s).region r.val).state = .failed := by
  simp only [failStore]
  rw [if_neg (by simp [hup])]
  simp only [each, show List.range 4 = [0, 1, 2, 3] from rfl, List.foldl_cons, List.foldl_nil]
  rw [setRegion_state (by decide), setRegion_state (by decide), setRegion_state (by decide), setRegion_state (by decide)]
  have hr : r.val = 3 ∨ r.val = 2 ∨ r.val = 1 ∨ r.val = 0 := by omega
  rcases hr with hr | hr | hr | hr <;> simp [hr]

/-! ## The writes of the engine (R395 to R397) -/

section
variable {w : JWrite} {s : State} (hnext : nextWrite s = some w)
include hnext

theorem effectWriteDone_ok : effectWriteDone .ok s = writeOk w s := by
  unfold effectWriteDone
  rw [hnext]
  dsimp only
  split <;> rfl

theorem effectWriteDone_lineFails (hstore : writeRegion w ≠ 4) {r : WriteResult} (hr : r = .remapped ∨ r = .noSpare) :
    effectWriteDone r s = lineFails (writeRegion w) w s := by
  unfold effectWriteDone
  rw [hnext]
  dsimp only
  rw [if_neg hstore]
  rcases hr with rfl | rfl <;> rfl

theorem effectWriteDone_failed (hstore : writeRegion w ≠ 4) (hfew : s.jrn.failRun + 1 < s.jrnN .failLimit) :
    effectWriteDone .failed s = s.modJrn fun j => { j with failRun := s.jrn.failRun + 1 } := by
  unfold effectWriteDone
  rw [hnext]
  dsimp only
  rw [if_neg hstore]
  exact if_neg (Nat.not_le.mpr hfew)

theorem effectWriteDone_caddy (hcaddy : writeRegion w = 4) {r : WriteResult} (hr : r ≠ .ok) :
    effectWriteDone r s = caddyFault (voidRec w (popWrite w s)) := by
  unfold effectWriteDone
  rw [hnext]
  dsimp only
  rw [if_pos hcaddy, if_neg hr]

end

/-- Settles O42: the engine by the first write that may go on, the store by its state. -/
theorem journalEngineCommandsComplete : Obligations.JournalEngineCommandsComplete := by
  unfold Obligations.JournalEngineCommandsComplete
  refine ⟨fun w s hlit hnext => ⟨answers_of_lit (f := effectWriteDone .ok) rfl hlit (effectWriteDone_ok hnext),
      fun hstore r hr => ?line, fun hstore hfew => answers_of_lit (f := effectWriteDone .failed) rfl hlit
        (effectWriteDone_failed hnext hstore hfew),
      fun hcaddy r hr => answers_of_lit (f := effectWriteDone r) rfl hlit (effectWriteDone_caddy hnext hcaddy hr)⟩,
    fun s hlit hup => ⟨exec_of_lit (f := failStore 3) rfl hlit fun r => failStore_state hup 3 r,
      exec_of_lit (f := failStore 4) rfl hlit fun r => failStore_state hup 4 r⟩,
    fun s hlit hdown => ?recheck, fun s hlit hperiod => answers_of_lit (f := effectSealPeriod) rfl hlit (if_neg hperiod),
    fun s hlit hup => answers_of_lit (f := effectOpTimeStore) rfl hlit (if_neg (by simp [hup]))⟩
  case line =>
    intro s1
    have heffect := effectWriteDone_lineFails hnext hstore hr
    exact ⟨fun hspare => answers_of_lit (f := effectWriteDone r) rfl hlit (heffect.trans (if_pos hspare)),
      fun hspare => answers_of_lit (f := effectWriteDone r) rfl hlit (heffect.trans (if_neg hspare.not_gt))⟩
  case recheck =>
    intro s1 s2
    have heffect (ok : Bool) : effectRecheck ok s = if ok then storeBack s2 else s2 := if_neg (by simp [hdown])
    exact ⟨answers_of_lit (f := effectRecheck false) rfl hlit (heffect false),
      answers_of_lit (f := effectRecheck true) rfl hlit (heffect true)⟩

end Sys2Proof.Machine
end

section
/-! PROOF. Frames, links, supervision and the redundancy status (O43). -/

namespace Sys2Proof.Machine

theorem portIndex_lt (p : Port) : Port.index p < 3 := by cases p <;> decide

theorem port_congr {s t : State} (h : t.net = s.net) (p : Nat) : t.port p = s.port p := by rw [State.port, State.port, h]

@[simp] theorem settle_port (q : List Instr) (s : State) (p : Nat) : (settle q s).port p = s.port p := rfl

/-! ## Frames received (R335, R339) -/

section
variable {f : Frame} {s : State} (hlistens : listens s = true) (hport : portOn s (Port.index f.port) = true)
include hlistens hport

/-- A frame of the time, safety or herd protocols is counted; here only a Delay_Req is answered. -/
theorem effectFrameRx_protocol (hcls : otherClass f.cls = false) : effectFrameRx f s =
    if f.cls = .ptp then takePtpFrame (Port.index f.port) f.data (netCount (Port.index f.port) 0 s)
    else netCount (Port.index f.port) 0 s := by
  unfold effectFrameRx
  rw [if_neg (by simp [hlistens, hport])]
  exact if_pos (by simp [hcls])

/-- A frame beyond the rate of its port is dropped. -/
theorem effectFrameRx_dropped (hcls : otherClass f.cls = true)
    (hdrop : (takeIn (Port.index f.port) (netCount (Port.index f.port) 0 s)).2 = false) :
    effectFrameRx f s = (takeIn (Port.index f.port) (netCount (Port.index f.port) 0 s)).1 := by
  unfold effectFrameRx
  rw [if_neg (by simp [hlistens, hport])]
  refine (if_neg (by simp [hcls])).trans ?_
  generalize takeIn (Port.index f.port) (netCount (Port.index f.port) 0 s) = r at hdrop ⊢
  obtain ⟨u, kept⟩ := r
  cases hdrop
  rfl

/-- A frame that comes on one network alone goes to the protocol of commands where its port takes it. -/
theorem effectFrameRx_single (hcls : otherClass f.cls = true) (htrailer : f.trailer = false) (hsup : f.cls ≠ .prpSupervision)
    {u : State} (hkept : takeIn (Port.index f.port) (netCount (Port.index f.port) 0 s) = (u, true)) :
    effectFrameRx f s = if kcpOn u f then kcpPacket f u else u := by
  unfold effectFrameRx
  rw [if_neg (by simp [hlistens, hport])]
  refine (if_neg (by simp [hcls])).trans ?_
  simp [hkept, htrailer, hsup]

end

/-! ## Links (R334) and the redundancy status (R337, R338) -/

theorem setPrp_status (v : Nat) (s : State) : (setPrp v s).net.prpStatus = v := by
  simp only [setPrp]
  split
  · assumption
  · split
    · rw [raise_net]
      rfl
    · rfl

/-! ## What is sent (R336, R337) -/

theorem netp_congr {s t : State} (hpar : t.par = s.par) (p : NetP) : t.netp p = s.netp p := val_congr hpar _

theorem netN_congr {s t : State} (hpar : t.par = s.par) (p : NetP) : t.netN p = s.netN p := by
  rw [State.netN, State.netN, netp_congr hpar]

theorem prpOn_congr {s t : State} (hpar : t.par = s.par) : prpOn t = prpOn s := by rw [prpOn, prpOn, netp_congr hpar]

/-- How a frame goes out depends on the configuration and on the count of the redundancy trailer. -/
theorem wiresOf_congr {s t : State} (hpar : t.par = s.par) (hcount : t.net.prpTx = s.net.prpTx) (x : Sent) :
    wiresOf t x = wiresOf s x := by
  have hip (p : Nat) : portIp t p = portIp s p := by rw [portIp, portIp, prpOn_congr hpar, netN_congr hpar]
  have hwire (c : Nat) (trailer ip : Bool) (dst : Nat → Nat) (p : Nat) : wireOn t c trailer ip dst p = wireOn s c trailer ip dst p := by
    rw [wireOn, wireOn, portOn, portOn, hip, netN_congr hpar, netN_congr hpar, netN_congr hpar, hcount]
  have hpeer : peerOn t = peerOn s := funext fun p => by
    rw [peerOn, peerOn, prpOn_congr hpar]
    exact congrArg Int.toNat (val_congr hpar _)
  cases x <;> simp only [wiresOf, wiresAB, hwire, prpOn_congr hpar, netp_congr hpar, netN_congr hpar, hpeer]

/-- A state sends a frame as an earlier one would have, where nothing has been sent since and the configuration stands. -/
theorem send_sent_of {s u : State} (hpar : u.par = s.par) (hsent : u.net.sent = s.net.sent) (hcount : u.net.prpTx = s.net.prpTx)
    (x : Sent) : (send x u).net.sent = s.net.sent ++ [(x, wiresOf s x)] := by
  rw [send_sent, hsent, wiresOf_congr hpar hcount]

theorem send_supAt (x : Sent) (s : State) : (send x s).net.supAt = s.net.supAt := by
  have hcount (l : List Wire) : (l.foldl (fun s w => netCount w.port 1 s) s).net.supAt = s.net.supAt :=
    foldl_keeps (fun s => s.net.supAt) (fun s (w : Wire) => netCount w.port 1 s) (by intros; rfl) l s
  simp only [send, countWires]
  split
  · exact hcount _
  · exact hcount _

/-- Settles O43: a frame by its class, the links and the status by their ports. -/
theorem networkPortCommandsComplete : Obligations.NetworkPortCommandsComplete := by
  unfold Obligations.NetworkPortCommandsComplete
  refine ⟨fun f s hlit hlistens hport hcls => answers_of_lit (f := effectFrameRx f) rfl hlit (effectFrameRx_protocol hlistens hport hcls),
    fun n data s => ?delay, fun f s hlit hlistens hport hcls => ⟨fun hdrop =>
      answers_of_lit (f := effectFrameRx f) rfl hlit (effectFrameRx_dropped hlistens hport hcls hdrop),
      fun hkept htrailer hsup => answers_of_lit (f := effectFrameRx f) rfl hlit ?single⟩,
    fun p gigabit s hlit => ?link, fun s hlit hprp hlistens => ?supervision, fun a b s hlit => ?singleLan⟩
  case delay =>
    intro s1
    refine ⟨fun hon hmaster hreq => if_pos (by simp [n.isLt, hon, hmaster, hreq]), fun h => if_neg ?_⟩
    rcases h with h | h | h <;> simp [h]
  case single => exact effectFrameRx_single hlistens hport hcls htrailer hsup (Prod.ext rfl hkept)
  case link =>
    intro i
    have hi : i < 3 := portIndex_lt p
    refine ⟨fun hup => exec_of_lit (f := effectLinkLoss i) rfl hlit ?_,
      fun henabled => exec_of_lit (f := effectLinkUp i gigabit) rfl hlit ?_⟩
    · rw [effectLinkLoss, if_neg hup, settle_port, port_congr (raise_net _ _ _)]
      generalize hu : netCount i 8 _ = u
      have hev : u.ev = s.ev := by rw [← hu, netCount_ev, State.modPort_ev]
      have hport : (u.port i).link = 0 ∧ (u.port i).lostSince = some s.us := by
        rw [← hu, netCount, State.port_modPort_same _ _ _ hi, State.port_modPort_same _ _ _ hi]
        exact ⟨rfl, rfl⟩
      exact ⟨hport.1, hport.2, (raise_raisedOnce_module (by decide) (by decide) _ hev).settle _⟩
    · rw [effectLinkUp, if_pos henabled, settle_port, State.port_modPort_same _ _ _ hi]
      have hfast : (gigabit && decide (i < 2) && decide (s.netp (.speedCfg i) = 0)) = true ↔
          gigabit = true ∧ p ≠ .svc ∧ s.netp (.speedCfg i) = 0 := by
        have hnet : i < 2 ↔ p ≠ .svc := by cases p <;> simp [i, Port.index]
        simp [hnet, and_assoc]
      refine ⟨rfl, ?_⟩
      dsimp only
      simp only [hfast]
  case supervision =>
    refine exec_of_lit (f := effectPrpSup) rfl hlit ?_
    rw [effectPrpSup, if_pos (by simp [hprp, hlistens])]
    extract_lets u
    have hpar : u.par = s.par := forwardTo_par _ s
    have hnet : u.net = s.net := forwardTo_net _ s
    have hus : u.us = max s.us (s.net.supAt + 1000 * s.netN .prpSupMs) := forwardTo_us _ s
    clear_value u
    generalize hv : u.modNet _ = v
    have hsent := send_sent_of (s := s) (u := v) (by rw [← hv, State.modNet_par, hpar]) (by rw [← hv, State.modNet_net, hnet])
      (by rw [← hv, State.modNet_net, hnet]) .supervision
    have hat : (send .supervision v).net.supAt = u.us := by
      rw [send_supAt, ← hv]
      rfl
    have hvus : v.us = u.us := by rw [← hv, State.modNet_us]
    rw [settle_net, settle_us, hsent, send_us, hat, hvus]
    exact ⟨rfl, rfl, hus ▸ le_max_right _ _⟩
  case singleLan =>
    refine exec_of_lit (f := effectSingleLan a b) rfl hlit ?_
    rw [settle_net, effectSingleLan]
    split
    · rw [setPrp_status]
      simp only [Bool.and_eq_true]
    · rfl

end Sys2Proof.Machine
end

section
/-! PROOF. The messages of the network clocks and the trust of the two networks (O44). -/

namespace Sys2Proof.Machine

theorem clock_congr {s t : State} (h : t.time = s.time) (n : Nat) : t.clock n = s.clock n := by rw [State.clock, State.clock, h]

@[simp] theorem settle_clock (q : List Instr) (s : State) (n : Nat) : (settle q s).clock n = s.clock n := rfl

@[simp] theorem clock_netCount (p k : Nat) (s : State) (n : Nat) : (netCount p k s).clock n = s.clock n :=
  clock_congr (netCount_time _ _ _) n

/-! ## What a change of the source leaves of the clocks (R342, R345) -/

section
variable {β : Type}

theorem clock_modClock_keeps (g : Clock → β) {f : Clock → Clock} (hf : ∀ c, g (f c) = g c) (k n : Nat) (s : State) :
    g ((s.modClock k f).clock n) = g (s.clock n) := by
  by_cases hn : n = k
  · subst hn
    by_cases hlt : n < 2
    · rw [State.clock_modClock_same _ _ _ hlt, hf]
    · simp [State.clock, State.modClock, hlt]
  · rw [State.clock_modClock_other _ _ _ _ hn]

/-- A clock but for the step that it refuses. -/
theorem clock_reselect (g : Clock → β) (hg : ∀ c r, g { c with refused := r } = g c) (n : Nat) (s : State) :
    g ((reselect s).clock n) = g (s.clock n) := by
  have hrefuse (k : Nat) (o : Int) (kind : Nat) (s : State) : g ((refuseStep k o kind s).clock n) = g (s.clock n) := by
    simp only [refuseStep]
    rw [clock_congr (raise_time _ _ _)]
    exact clock_modClock_keeps g (fun c => hg c _) k n s
  have honce (s : State) : g ((selectOnce s).clock n) = g (s.clock n) := by
    unfold selectOnce
    extract_lets k diff
    refine ite_keeps (fun s => g (s.clock n)) _ rfl (ite_keeps (fun s => g (s.clock n)) _ rfl ?_)
    exact ite_keeps (fun s => g (s.clock n)) _ (hrefuse _ _ _ s) rfl
  rw [reselect, honce, honce, honce]

/-- The wait of a distrusted network outlasts a change of the source. -/
theorem recoverSince_reselect (s : State) : (reselect s).time.recoverSince = s.time.recoverSince := by
  have hrefuse (k : Nat) (o : Int) (kind : Nat) (s : State) :
      (refuseStep k o kind s).time.recoverSince = s.time.recoverSince := by
    simp only [refuseStep, raise_time]
    rfl
  have honce (s : State) : (selectOnce s).time.recoverSince = s.time.recoverSince := by
    unfold selectOnce
    extract_lets k diff
    refine ite_keeps (fun s => s.time.recoverSince) _ rfl (ite_keeps (fun s => s.time.recoverSince) _ rfl ?_)
    exact ite_keeps (fun s => s.time.recoverSince) _ (hrefuse _ _ _ s) rfl
  rw [reselect, honce, honce, honce]

end

theorem clock_modTime {f : Time → Time} (hf : ∀ t, (f t).clocks = t.clocks) (s : State) (n : Nat) :
    (s.modTime f).clock n = s.clock n := by
  rw [State.clock, State.clock, State.modTime_time, hf]

/-- Both networks are trusted again (R349). -/
theorem trustBoth_clock {n : Nat} (hn : n < 2) (s : State) :
    ((each 2 (fun s n => s.modClock n fun c => { c with distrusted := false }) s).clock n).distrusted = false := by
  simp only [each, show List.range 2 = [0, 1] from rfl, List.foldl_cons, List.foldl_nil]
  obtain rfl | rfl : n = 0 ∨ n = 1 := by omega
  · rw [State.clock_modClock_other _ _ _ _ (by decide), State.clock_modClock_same _ _ _ (by decide)]
  · rw [State.clock_modClock_same _ _ _ (by decide)]

/-! ## Messages received (R339, R344) -/

section
variable {n : Nat} {m : SyncMsg} {s : State} (hlistens : listens s = true) (hon : ptpOn s n = true)
include hlistens hon

/-- A complete Sync of the master, at a slave: a sample at once, or kept for its Follow_Up. -/
theorem effectPtpSync_taken (hcomplete : m.complete = true) (hmaster : m.fromMaster = true)
    (hslave : (s.clock n).state = 2) :
    effectPtpSync n m s = if m.twoStep then (netCount n 9 s).modClock n fun c => { c with pendingSync := some (m, s.us) }
      else takeSample n m (netCount n 9 s) := by
  unfold effectPtpSync
  rw [if_neg (by simp [hlistens, hon])]
  refine (if_neg (by simp [hcomplete])).trans ?_
  exact if_neg (by simp [hmaster, hslave])

theorem effectPtpFollowUp_inTime {p : SyncMsg × Nat} (hpending : (s.clock n).pendingSync = some p)
    (hmaster : m.fromMaster = true) (hcomplete : m.complete = true) (hlog : 0 ≤ p.1.logInterval)
    (hin : s.us ≤ p.2 + 1000000 * 2 ^ p.1.logInterval.toNat) :
    effectPtpFollowUp n m s =
      takeSample n { p.1 with originNs := m.originNs, correctionNs := p.1.correctionNs + m.correctionNs }
        ((netCount n 9 s).modClock n fun c => { c with pendingSync := none }) := by
  unfold effectPtpFollowUp
  rw [if_neg (by simp [hlistens, hon])]
  simp only [clock_netCount, hpending]
  refine if_neg ?_
  rw [if_pos hlog]
  simpa [hmaster, hcomplete] using hin

/-- The measured path delay is the first, or a step, or filtered into the one before (R344). -/
theorem effectPtpDelay_pathDelay (hn : n < 2) (raw : Nat) (hslave : (s.clock n).state = 2) :
    ((effectPtpDelay n raw s).clock n).pathDelay = some (match (s.clock n).pathDelay with
      | none => (raw : Rat)
      | some f => if (s.netN .pdStepNs : Rat) < absR (raw - f) then (raw : Rat) else f + ((raw : Rat) - f) / 8) := by
  rw [effectPtpDelay, if_neg (by simp [hlistens, hon, hslave])]
  extract_lets old rawNs u shift
  have hu : (u.clock n).pathDelay = _ := congrArg Clock.pathDelay
    ((clock_netCount _ _ _ _).trans (State.clock_modClock_same s n _ hn))
  clear_value u
  rw [State.clock_modClock_same _ _ _ hn]
  refine hu.trans ?_
  cases (s.clock n).pathDelay with
  | none => rfl
  | some f => exact apply_ite Clock.pathDelay _ _ _ |>.trans (apply_ite some _ _ _).symm

/-- An Announce of the best master known, or of a better one, is taken. -/
theorem effectPtpAnnounce_eq (a : AnnounceMsg) :
    effectPtpAnnounce n a s = if (match (s.clock n).best with
      | none => true
      | some b => b.gmId = a.gmId || betterClock a b) then
        decideMaster n ((netCount n 9 s).modClock n fun c => { c with best := some a, announceAt := s.us })
      else netCount n 9 s := by
  have hbest : ((netCount n 9 s).clock n).best = (s.clock n).best := by rw [clock_netCount]
  rw [← hbest]
  exact if_neg (by simp [hlistens, hon])

/-- Without Announces the master is lost: the unit listens as a slave only, or is master itself (R339). -/
theorem effectAnnounceTimeout_clock (hn : n < 2) (hslave : (s.clock n).state ≠ 3) :
    ((effectAnnounceTimeout n s).clock n).best = none ∧ ((effectAnnounceTimeout n s).clock n).locked = false ∧
      ((effectAnnounceTimeout n s).clock n).state = if s.netp .slaveOnly = 1 then 1 else 3 := by
  rw [effectAnnounceTimeout, if_neg (by simp [hlistens, hon, hslave])]
  extract_lets u only v
  have honly : only ↔ s.netp .slaveOnly = 1 := by rw [← netp_congr (forwardTo_par _ s)]
  have hv : v.clock n = _ := State.clock_modClock_same u n _ hn
  clear_value v
  simp only [loseMaster]
  rw [clock_reselect Clock.best (by intros; rfl), clock_reselect Clock.locked (by intros; rfl),
    clock_reselect Clock.state (by intros; rfl), State.clock_modClock_same _ _ _ hn, hv]
  refine ⟨rfl, rfl, ?_⟩
  dsimp only
  simp only [honly]

end

/-! ## The two networks (R349) -/

theorem effectAbRecover_trust {at_ : Nat} {s : State} (hsince : s.time.recoverSince = some at_) :
    ((effectAbRecover s).clock 0).distrusted = false ∧ ((effectAbRecover s).clock 1).distrusted = false ∧
      (effectAbRecover s).time.recoverSince = none := by
  unfold effectAbRecover
  rw [hsince]
  dsimp only
  generalize forwardTo _ s = u
  rw [clock_reselect Clock.distrusted (by intros; rfl), clock_reselect Clock.distrusted (by intros; rfl),
    recoverSince_reselect, clock_modTime (by intro _; rfl), clock_modTime (by intro _; rfl)]
  exact ⟨trustBoth_clock (by decide) u, trustBoth_clock (by decide) u, rfl⟩

/-- Settles O44: a message by the state of its clock, the two networks by their trust. -/
theorem ptpCommandsComplete : Obligations.PtpCommandsComplete := by
  unfold Obligations.PtpCommandsComplete
  refine ⟨fun n m s hlit hlistens hon hcomplete hmaster hslave => ⟨fun hone => ?oneStep, fun htwo => ?twoStep⟩,
    fun n m p s hlit hlistens hon hpending hmaster hcomplete hlog hin => ?followUp,
    fun n raw s hlit hlistens hon hslave => ?delay, fun n m s hlit hlistens hon => ?announce,
    fun n s hlit hlistens hon hslave => ?timeout, fun n s hlit hlistens hon => ⟨fun hmaster => ?sync, fun hslave => ?delayReq⟩,
    fun at_ s hlit hdeciding => answers_of_lit (f := effectAbDecision) rfl hlit ?decision,
    fun at_ s hlit hsince => ?recover, fun at_ s hlit hsince => answers_of_lit (f := effectStepConfirm) rfl hlit ?confirm⟩
  case oneStep =>
    refine answers_of_lit (f := effectPtpSync n.val m) rfl hlit ?_
    rw [effectPtpSync_taken hlistens hon hcomplete hmaster hslave, if_neg (by simp [hone])]
  case twoStep =>
    refine exec_of_lit (f := effectPtpSync n.val m) rfl hlit ?_
    rw [effectPtpSync_taken hlistens hon hcomplete hmaster hslave, if_pos htwo, settle_clock,
      State.clock_modClock_same _ _ _ n.isLt, clock_netCount]
    exact ⟨rfl, rfl⟩
  case followUp =>
    exact answers_of_lit (f := effectPtpFollowUp n.val m) rfl hlit
      (effectPtpFollowUp_inTime hlistens hon hpending hmaster hcomplete hlog hin)
  case delay =>
    exact exec_of_lit (f := effectPtpDelay n.val raw) rfl hlit (effectPtpDelay_pathDelay hlistens hon n.isLt raw hslave)
  case announce =>
    have heffect := effectPtpAnnounce_eq hlistens hon m
    refine ⟨fun b hb hother hworse => answers_of_lit (f := effectPtpAnnounce n.val m) rfl hlit (heffect.trans (if_neg ?_)),
      fun htake => answers_of_lit (f := effectPtpAnnounce n.val m) rfl hlit (heffect.trans (if_pos ?_))⟩
    · rw [hb]
      simp [hother, hworse]
    · obtain hnone | ⟨b, hb, hbetter⟩ := htake
      · rw [hnone]
      · rw [hb]
        simpa using hbetter
  case timeout =>
    exact exec_of_lit (f := effectAnnounceTimeout n.val) rfl hlit (effectAnnounceTimeout_clock hlistens hon n.isLt hslave)
  case sync =>
    refine exec_of_lit (f := effectPtpSyncTx n.val) rfl hlit ?_
    rw [effectPtpSyncTx, if_pos (by simp [hlistens, hon, hmaster]), settle_net, send_sent]
  case delayReq =>
    refine exec_of_lit (f := effectPtpDelayReqTx n.val) rfl hlit ?_
    rw [effectPtpDelayReqTx, if_pos (by simp [hlistens, hon, hslave]), settle_net, send_sent]
  case decision =>
    unfold effectAbDecision
    rw [hdeciding]
    rfl
  case recover => exact exec_of_lit (f := effectAbRecover) rfl hlit (effectAbRecover_trust hsince)
  case confirm =>
    unfold effectStepConfirm
    rw [hsince]

end Sys2Proof.Machine
end

section
/-! PROOF. The cycle boundary of the herd, its bleats and the close of the window (O45). -/

namespace Sys2Proof.Machine

/-- A message of the right form is not discarded. -/
theorem herdTaken_ok {s : State} {type len src : Nat} {data : Bytes} (hok : herdOk s type len src data = true) :
    herdTaken len data s = s := by
  have hform : herdForm s len data = true := by
    simp only [herdOk, Bool.and_eq_true] at hok
    exact hok.1.1.1.1
  exact if_neg (by simp [hform])

/-- Time that passes leaves module time VALID, or not. -/
theorem timeValid_forwardTo (at_ : Option Nat) (s : State) : (forwardTo at_ s).time.valid = s.time.valid := by
  have helapse (us : Nat) : (elapse us s).time.valid = s.time.valid := by
    have hclocks (s : State) : (elapseClocks us s).time.valid = s.time.valid := by
      simp only [elapseClocks]
      split <;> rfl
    refine (hclocks _).trans ?_
    change (if s.boot.power == .off then s else advanceOp us s).time.valid = s.time.valid
    split <;> rfl
  unfold forwardTo
  split
  · exact ite_keeps (fun s => s.time.valid) _ (helapse _) rfl
  · rfl

/-! ## The boundary (R350) -/

theorem applyHerdWrites_none {s : State} (h : s.herd.writes = []) : applyHerdWrites s = s := by
  have hsame : s.modHerd (fun h => { h with writes := [] }) = s := by rw [State.modHerd, ← h]
  simp only [applyHerdWrites, h]
  rw [hsame]
  rfl

/-- Whether a hold ended before this cycle (R364). -/
def holdIsLate (s : State) : Bool := match s.herd.holdUntil with | some c => decide (c < cycleNow s) | none => false

/-- The herd at a new cycle: what it counted is the previous cycle's, and a late hold ends. -/
def Herd.nextCycle (cycle us : Nat) (late : Bool) (h : Herd) : Herd :=
  { h with cycle := cycle, boundaryAt := us, prev := h.counted, counted := [], staleNow := 0, windowClosed := false,
           masterBleat := false, fragment := 0, joinLeft := h.joinLeft - 1, grant := if late then 0 else h.grant,
           holdUntil := if late then none else h.holdUntil }

/-- The boundary of a cycle that has come, for a module that is no master, with no step, no write and no change of mode
waiting. -/
theorem effectBoundary_plain {s : State} (hlistens : listens s = true) (hstep : s.time.pendingStep = none)
    (hwrites : s.herd.writes = []) (hmode : s.herd.pendMode = none) (hvalid : s.time.valid = true)
    (hrole : s.herd.role ≠ .master) (hcycle : cycleNow s ≠ s.herd.cycle) :
    effectBoundary s = s.modHerd (Herd.nextCycle (cycleNow s) s.us (holdIsLate s)) := by
  unfold effectBoundary
  rw [if_neg (by simp [hlistens]), if_neg hcycle]
  extract_lets s0 s1 n u late v w x
  have hs1 : s1 = s := by
    simp only [s1, s0, applyPendingStep, hstep]
  have hv : v = s.modHerd (Herd.nextCycle (cycleNow s) s.us (holdIsLate s)) := by
    have hlate : late = holdIsLate s := by simp only [late, u, n, hs1]; rfl
    simp only [v, hlate, u, n, hs1]
    cases holdIsLate s <;> rfl
  have hw : w = v := by
    have hwrites' : v.herd.writes = [] := by rw [hv]; exact hwrites
    have hmode' : v.herd.pendMode = none := by rw [hv]; exact hmode
    simp only [w, applyHerdWrites_none hwrites', applyPending, hmode']
  have hx : x = v := by
    have hvalid' : v.time.valid = true := by rw [hv]; exact hvalid
    simp only [x, hw]
    exact if_neg (by simp [hvalid'])
  have hrole' : v.herd.role ≠ .master := by rw [hv]; exact hrole
  rw [hx, if_neg (by simpa using hrole'), hv]

/-! ## Bleats (R360) -/

/-- A module that is no master sends its bleat and, while the window is open, counts it. -/
theorem effectBleatTx_open {s : State} (hlistens : listens s = true) (hrole : s.herd.role ≠ .master)
    (hopen : s.herd.windowClosed = false) (hvalid : s.time.valid = true) :
    let u := forwardTo (some (s.herd.boundaryAt + 100 * selfM s)) s
    effectBleatTx s = countBleat (ownBleat u) (sendHerd (bleatBytes u (ownBleat u)) u) := by
  intro u
  have hherd : u.herd = s.herd := forwardTo_herd _ _
  have hvalid' : u.time.valid = true := (timeValid_forwardTo _ _).trans hvalid
  unfold effectBleatTx
  rw [if_neg (by simp [hlistens])]
  extract_lets b v w
  have hv : v.herd = u.herd := send_herd _ _
  have hw : w = countBleat (ownBleat u) (sendHerd (bleatBytes u (ownBleat u)) u) := if_neg (by
    have hvt : v.time = u.time := send_time _ _
    simp [hv, hvt, hherd, hopen, hvalid'])
  have hrole' : w.herd.role ≠ .master := by
    rw [hw]
    change (v.herd.role ≠ .master)
    rw [hv, hherd]
    exact hrole
  rw [if_neg (by simpa using hrole'), hw]

/-- A bleat of this cycle in the open window, from a member not yet counted, is counted; a master's is then accepted. -/
theorem effectBleatRx_counts {netB : Bool} {src : Nat} {data : Bytes} {s : State} (hlistens : listens s = true)
    (hok : herdOk s 1 92 src data = true) (hterm : s.herd.term ≤ (readBleat data).term)
    (hnew : ∀ x ∈ s.herd.counted, x.member ≠ (readBleat data).member) (hcycle : (readBleat data).cycle = s.herd.cycle)
    (hopen : s.herd.windowClosed = false) (hvalid : bit (readBleat data).flags 0 = true) :
    let u := countBleat (readBleat data) (s.modHerd fun h =>
      { h with bleatRx := vset h.bleatRx (b2n netB) (wrap32 (vget h.bleatRx (b2n netB) 0 + 1)) })
    effectBleatRx netB src data s = if (readBleat data).role ≠ 0 then u
      else if s.herd.role == .solo || (s.herd.role == .master && (readBleat data).term = s.herd.term) then u
      else acceptMaster (readBleat data) u := by
  intro u
  unfold effectBleatRx
  rw [herdTaken_ok hok]
  extract_lets s0 b n s1 h out s2 counts s3
  rw [if_neg (by simp [s0, hlistens, hok])]
  have hout : out = false := by
    have hsame : b.cycle = h.cycle := hcycle
    simp only [out, hsame]
    simp
  have hs2 : s2 = s1 := if_neg (by simp [hout])
  have hcounts : counts = true := by
    have hsame : b.cycle = h.cycle := hcycle
    have hwindow : h.windowClosed = false := hopen
    have hflag : bit b.flags 0 = true := hvalid
    simp only [counts, hsame, hwindow, hflag]
    rfl
  have hs3 : s3 = u := (if_pos hcounts).trans (by rw [hs2])
  have hfresh : (decide (b.term < h.term) || h.counted.any fun x => decide (x.member = b.member)) = false := by
    have hnew' : ∀ x ∈ h.counted, x.member ≠ b.member := hnew
    simpa using ⟨hterm, hnew'⟩
  rw [if_neg (by simpa using hfresh), hs3, hcounts]
  rfl

/-- Settles O45: the boundary and the window by the herd's cycle, the bleats by what they carry. -/
theorem herdCycleCommandsComplete : Obligations.HerdCycleCommandsComplete := by
  unfold Obligations.HerdCycleCommandsComplete
  refine ⟨fun s hlit hlistens hstep hwrites hmode hvalid hrole hcycle => ?boundary,
    fun s hlit hlistens hrole hopen hvalid => ?tx, fun b s => ⟨rfl, fun hb => vget_vset_same _ hb _ _⟩,
    fun netB src data s hlit hlistens hok => ?rx, fun s hlit hlistens hopen => ?close⟩
  case boundary =>
    exact answers_of_lit (f := effectBoundary) rfl hlit (effectBoundary_plain hlistens hstep hwrites hmode hvalid hrole hcycle)
  case tx =>
    intro s1
    exact answers_of_lit (f := effectBleatTx) rfl hlit (effectBleatTx_open hlistens hrole hopen hvalid)
  case rx =>
    intro b hterm hnew hcycle hopen hvalid
    have heffect := effectBleatRx_counts (netB := netB) hlistens hok hterm hnew hcycle hopen hvalid
    refine ⟨fun hrole => ?_, fun hmaster hrole => ?_⟩
    · refine exec_of_lit (f := effectBleatRx netB src data) rfl hlit ?_
      rw [heffect, if_pos hrole, settle_herd]
      rfl
    · refine answers_of_lit (f := effectBleatRx netB src data) rfl hlit (heffect.trans ?_)
      rw [if_neg (not_not_intro hmaster), if_neg (by rcases hrole with h | h <;> simp [h])]
      rfl
  case close =>
    intro s1 miss s2 s3
    refine answers_of_lit (f := effectWindowClose) rfl hlit ?_
    have heffect : effectWindowClose s = if s3.herd.role == .solo then s3 else if s3.herd.role == .master then masterQuorum s3
        else if s3.herd.masterBleat then s3 else masterMissing s3 := if_neg (by simp [hlistens, hopen])
    rw [heffect]
    cases s3.herd.role <;> rfl

end Sys2Proof.Machine
end

section
/-! PROOF. Joining, votes, elections and step-down in the herd (O46). -/

namespace Sys2Proof.Machine

/-! ## What a change of mode leaves of the herd (R275, R446) -/

theorem stopLogic_herd (cause : Nat) (s : State) : (stopLogic cause s).herd = s.herd := by
  have hlift (i : Inst) (s : State) : (liftHold i s).herd = s.herd := by
    unfold liftHold doorReq
    exact ite_keeps State.herd _ (ite_keeps State.herd _ rfl rfl) rfl
  unfold stopLogic
  refine ite_keeps State.herd _ rfl ?_
  rw [State.modLogic_herd]
  split
  · exact foldl_keeps State.herd (fun s i => liftHold i s) (fun s i => hlift i s) _ s
  · rfl

theorem logicModeChange_herd (s : State) : (logicModeChange s).herd = s.herd :=
  ite_keeps State.herd _ rfl (ite_keeps State.herd _ (stopLogic_herd 3 _) rfl)

theorem newImage_herd (s : State) : (newImage s).herd = s.herd := each_keeps State.herd 16 _ (by intros; rfl) s

theorem startLink_herd (s : State) : (startLink s).herd = s.herd :=
  (newImage_herd _).trans (each_keeps State.herd 16 _ (by intros; rfl) _)

theorem autostart_herd (cold : Bool) (s : State) : (autostart cold s).herd = s.herd := by
  refine ite_keeps State.herd _ rfl ?_
  unfold startLogic
  split <;> rfl

theorem leaveStandby_herd (src : Nat) (s : State) : (leaveStandby src s).herd = s.herd :=
  ite_keeps State.herd _ rfl ((autostart_herd _ _).trans (startLink_herd _))

theorem setMode_herd (m : Mode) (s : State) : (setMode m s).herd = { s.herd with mode := m } := by
  simp only [setMode, modeApplied]
  rw [leaveStandby_herd, logicModeChange_herd, State.modSaf_herd]
  split <;> rfl

/-! ## Elections (R366, R367, R371) -/

/-- What an election decides: the role, its term, this module's own request and its vote. -/
def Herd.election (h : Herd) : Role × Nat × Option (Nat × Nat × Nat) × Option Nat := (h.role, h.term, h.candidate, h.grantedTo)

/-- Whoever takes over is master of the new term, by its own vote. -/
theorem becomeMaster_herd (t reason : Nat) (s : State) : (becomeMaster t reason s).herd.role = .master ∧
    (becomeMaster t reason s).herd.term = t ∧ (becomeMaster t reason s).herd.candidate = none ∧
    (becomeMaster t reason s).herd.grantedTo = some (selfM s) := by
  unfold becomeMaster
  extract_lets snap u v
  have hu : u.herd.election = (.master, t, none, some (selfM s)) := rfl
  have hv : v.herd.election = u.herd.election := by
    clear_value u snap
    cases snap with
    | none => rfl
    | some m =>
      refine ite_keeps (fun s => s.herd.election) _ rfl ?_
      rw [setMode_herd]
      rfl
  clear_value v
  have hresult (w : State) (hw : w.herd.election = v.herd.election) : w.herd.role = .master ∧ w.herd.term = t ∧
      w.herd.candidate = none ∧ w.herd.grantedTo = some (selfM s) := by
    simpa [Herd.election] using hw.trans (hv.trans hu)
  split
  · exact hresult _ rfl
  · exact hresult _ rfl

theorem sendVote_herd (t cand : Nat) (refused : Option Nat) (s : State) : (sendVote t cand refused s).herd = s.herd :=
  send_herd _ _

/-- A request from a member for itself, not granted before, is judged by R367. -/
theorem effectVoteReqRx_judged {src : Nat} {data : Bytes} {s : State} (hlistens : listens s = true)
    (hok : herdOk s 2 36 src data = true) (hself : rd data 8 1 = rd data 24 1) (hstore : storeFailed s = false)
    (hrole : s.herd.role = .referee ∨ s.herd.role = .standby)
    (hnew : ¬(rd data 12 4 = s.herd.term ∧ s.herd.grantedTo = some (rd data 24 1))) :
    effectVoteReqRx src data s = match voteFails s (rd data 24 1) (rd data 25 1) (rd data 12 4) with
      | some i => sendVote (rd data 12 4) (rd data 24 1) (some i) s
      | none => sendVote (rd data 12 4) (rd data 24 1) none (s.modHerd fun h =>
          { h with term := rd data 12 4, grantedTo := some (rd data 24 1), votesGranted := inc32 h.votesGranted }) := by
  have hmay : (s.herd.role == .referee || s.herd.role == .standby) = true := by rcases hrole with h | h <;> simp [h]
  simp only [effectVoteReqRx, herdTaken_ok hok]
  rw [if_neg (by simp [hlistens, hok, hself, hstore, hmay])]
  refine (if_neg (by simpa using hnew)).trans ?_
  rfl

/-- A vote in time for this module's own request, from a member that has not voted, is counted. -/
theorem effectVoteRx_counts {src : Nat} {data : Bytes} {x : Nat × Nat × Nat} {s : State} (hlistens : listens s = true)
    (hok : herdOk s 3 36 src data = true) (hcand : s.herd.candidate = some x) (hterm : rd data 12 4 = x.1)
    (hto : rd data 24 1 = selfM s) (hyes : rd data 25 1 = 1) (hfirst : ∀ v ∈ s.herd.votes, v ≠ rd data 8 1)
    (hintime : s.us ≤ s.herd.boundaryAt + 9000) :
    effectVoteRx src data s = s.modHerd fun h => { h with votes := rd data 8 1 :: h.votes } := by
  have hnone : (s.herd.votes.any fun v => decide (v = rd data 8 1)) = false := by simpa using hfirst
  simp only [effectVoteRx, herdTaken_ok hok]
  rw [if_neg (by simp [hlistens, hok]), hcand]
  exact if_pos (by simp [hterm, hto, hyes, hnone, hintime])

/-- The deadline of a request: a quorum of votes makes the master, a first failure asks again, a second gives up. -/
theorem effectVoteDeadline_eq {x : Nat × Nat × Nat} {s : State} (hcand : s.herd.candidate = some x) :
    let u := forwardTo (some (s.herd.boundaryAt + 9000)) s
    effectVoteDeadline s = if quorum u ≤ s.herd.votes.length then becomeMaster x.1 x.2.1 u
      else if x.2.2 = 0 then u.modHerd fun h => { h with candidate := some (x.1, x.2.1, 1) }
      else u.modHerd fun h =>
        { h with candidate := none, votes := [], joinLeft := if x.2.1 = 0 then u.herdN .joinCycles else h.joinLeft } := by
  intro u
  have hvotes : u.herd.votes = s.herd.votes := congrArg Herd.votes (forwardTo_herd _ _)
  unfold effectVoteDeadline
  rw [hcand, ← hvotes]

/-- Settles O46: the votes by the term and the candidate, the roles by the judgement of R367. -/
theorem herdElectionCommandsComplete : Obligations.HerdElectionCommandsComplete := by
  unfold Obligations.HerdElectionCommandsComplete
  refine ⟨fun c s hlit hhold hc => answers_of_lit (f := effectHoldEnd) rfl hlit ?hold,
    fun s hlit hlistens hleft => ⟨fun hrole hvalid => answers_of_lit (f := effectJoinCycles) rfl hlit ?join,
      fun hrole hmissed hfree hclosed hstand hbest => answers_of_lit (f := effectJoinCycles) rfl hlit ?stand⟩,
    fun netB src data s hlit hlistens hok hself hstore hrole hnew => ⟨fun hgrant => ?grant, fun i hrefuse => ?refuse⟩,
    fun netB src data x s hlit hlistens hok hcand hterm hto hyes hfirst hintime => ?vote,
    fun x s hlit hcand => ⟨fun hmany => ?elected, fun hfew hfirst => ?again, fun hfew hsecond => ?given⟩,
    fun s hlit hrole hlost => ?stepDown⟩
  case hold =>
    unfold effectHoldEnd
    rw [hhold]
    exact if_pos hc
  case join =>
    unfold effectJoinCycles
    rw [if_neg (by simp [hlistens, hleft]), if_pos (by simp [hrole])]
    refine (if_pos hvalid).trans ?_
    have hcond : (decide (s.herd.standby = selfM s) && !shadowFault s) = true ↔ s.herd.standby = selfM s ∧ shadowFault s = false := by
      simp
    simp only [State.modHerd, hcond]
  case stand =>
    unfold effectJoinCycles
    rw [if_neg (by simp [hlistens, hleft]), if_neg (by simp [hrole])]
    exact if_pos (by simp [hrole, hmissed, hfree, hclosed, hstand, hbest])
  case grant =>
    exact answers_of_lit (f := effectVoteReqRx src data) rfl hlit ((effectVoteReqRx_judged hlistens hok hself hstore hrole hnew).trans
      (by rw [hgrant]; rfl))
  case refuse =>
    exact answers_of_lit (f := effectVoteReqRx src data) rfl hlit ((effectVoteReqRx_judged hlistens hok hself hstore hrole hnew).trans
      (by rw [hrefuse]))
  case vote =>
    exact answers_of_lit (f := effectVoteRx src data) rfl hlit (effectVoteRx_counts hlistens hok hcand hterm hto hyes hfirst hintime)
  case elected =>
    have heffect := (effectVoteDeadline_eq hcand).trans (if_pos hmany)
    refine exec_of_lit (f := effectVoteDeadline) rfl hlit ?_
    obtain ⟨hrole, hterm, hnone, hgranted⟩ := becomeMaster_herd x.1 x.2.1 (forwardTo (some (s.herd.boundaryAt + 9000)) s)
    rw [settle_herd, heffect]
    exact ⟨hrole, hterm, hnone, hgranted.trans (congrArg some (congrArg Int.toNat (val_congr (forwardTo_par _ s) _)))⟩
  case again =>
    exact answers_of_lit (f := effectVoteDeadline) rfl hlit ((effectVoteDeadline_eq hcand).trans
      ((if_neg (Nat.not_le.mpr hfew)).trans (if_pos hfirst)))
  case given =>
    have heffect := (effectVoteDeadline_eq hcand).trans ((if_neg (Nat.not_le.mpr hfew)).trans (if_neg hsecond))
    refine exec_of_lit (f := effectVoteDeadline) rfl hlit ?_
    rw [settle_herd, heffect, State.modHerd_herd, forwardTo_herd]
    exact ⟨rfl, rfl, rfl⟩
  case stepDown =>
    refine exec_of_lit (f := effectMasterStepDown) rfl hlit ?_
    rw [effectMasterStepDown, if_pos (by simp [hrole, hlost]), stepDown, settle_herd, raise_herd]
    exact ⟨rfl, rfl, (raise_raisedOnce_module (by decide) (by decide) _ (State.modHerd_ev _ _)).settle _⟩

end Sys2Proof.Machine
end

section
/-! PROOF. The mirror of the master and the shadow fault of the standby (O47). -/

namespace Sys2Proof.Machine

/-- The first fragment of a cycle carries the head of a new snapshot. -/
theorem effectMirrorTx_first {s : State} (hlistens : listens s = true) (hrole : s.herd.role = .master)
    (hfirst : s.herd.fragment = 0) :
    let u := forwardTo (some (s.herd.boundaryAt + 1000)) s
    let snap := snapshotOf u
    let part := snap.take 256
    snap ≠ [] → effectMirrorTx s = sendHerd (sealRec (herdHead u 4 u.herd.term ++ le 4 u.herd.mirrorSeq ++ le 1 0
      ++ le 1 ((snap.length + 255) / 256) ++ le 2 part.length ++ part))
      (u.modHerd fun h => { h with snapshot := snap, fragment := 1 }) := by
  intro u snap part hsnap
  have hfragment : u.herd.fragment = 0 := (congrArg Herd.fragment (forwardTo_herd _ _)).trans hfirst
  have hlength : ¬(snap.length + 255) / 256 ≤ 0 := by
    have := List.length_pos_of_ne_nil hsnap
    omega
  unfold effectMirrorTx
  rw [if_neg (by simp [hlistens, hrole])]
  extract_lets snap' frags k part' v
  have hsnap' : snap' = snap := if_pos hfragment
  have hk : k = 0 := hfragment
  have hpart : part' = part := by
    simp only [part', hsnap', hk]
    rfl
  rw [if_neg (by rw [hk]; simp only [frags, hsnap']; exact hlength)]
  have hv : v = u.modHerd fun h => { h with snapshot := snap, fragment := 1 } := by simp only [v, hsnap', hk]
  have hfrags : frags = (snap.length + 255) / 256 := by simp only [frags, hsnap']
  rw [hpart, hk, hfrags, hv]
  rfl

/-- A fragment of the master's snapshot, where none is held, is gathered; the last completes it. -/
theorem effectMirrorRx_first {src : Nat} {data : Bytes} {s : State} (hlistens : listens s = true)
    (hrole : s.herd.role = .standby) (hlen : rd data 30 2 ≤ 256) (hfrag : rd data 28 1 < rd data 29 1)
    (hok : herdOk s 4 (36 + rd data 30 2) src data = true) (hterm : s.herd.term ≤ rd data 12 4)
    (hmaster : rd data 8 1 = s.herd.master) (hnone : s.herd.partialM = none) :
    let m : Mirror := ⟨rd data 24 4, rd data 12 4, rd data 29 1, [(rd data 28 1, (data.drop 32).take (rd data 30 2))], []⟩
    effectMirrorRx src data s = match assemble m with
      | some d => s.modHerd fun h => { h with active := some { m with data := d, parts := [] }, activeAt := rd d 8 8, partialM := none }
      | none => s.modHerd fun h => { h with partialM := some m } := by
  simp only [effectMirrorRx, herdTaken_ok hok]
  rw [if_neg (by simp [hlistens, hrole, hok, hmaster]; omega), hnone]
  rfl

/-- Settles O47: a fragment by its place in the mirror, the shadow by its count. -/
theorem herdMirrorCommandsComplete : Obligations.HerdMirrorCommandsComplete := by
  unfold Obligations.HerdMirrorCommandsComplete
  refine ⟨fun s hlit hlistens hrole hfirst => ?tx, fun netB src data s => ?rx, fun s hlit hrole hmany hok => ?shadow⟩
  case tx =>
    intro s1 snap part hsnap
    exact answers_of_lit (f := effectMirrorTx) rfl hlit (effectMirrorTx_first hlistens hrole hfirst hsnap)
  case rx =>
    intro len m hlit hlistens hrole hlen hfrag hok hterm hmaster hnone
    have heffect := effectMirrorRx_first hlistens hrole hlen hfrag hok hterm hmaster hnone
    refine ⟨fun hpart => answers_of_lit (f := effectMirrorRx src data) rfl hlit (heffect.trans ?_),
      fun d hwhole => answers_of_lit (f := effectMirrorRx src data) rfl hlit (heffect.trans ?_)⟩
    · rw [hpart]
      rfl
    · rw [hwhole]
      rfl
  case shadow =>
    refine exec_of_lit (f := effectShadowFault) rfl hlit ?_
    rw [effectShadowFault, if_pos (by simp [hrole, hmany, hok]), shadowFault, settle_herd, raise_herd]
    generalize hu : herdFlag 13 true _ = u
    have hev : u.ev = s.ev := by rw [← hu]; rfl
    have hherd : u.herd.role = .referee ∧ u.herd.status.getLsbD 13 = true := by
      rw [← hu]
      exact ⟨rfl, getLsbD_setBit_same _ _ _ (by decide)⟩
    exact ⟨hherd.1, hherd.2, (raise_raisedOnce_module (by decide) (by decide) _ hev).settle _⟩

end Sys2Proof.Machine
end

section
/-! PROOF. Precharge, the DRIVE input, regeneration, insulation, feeds, encoder supplies and temperatures (O48). -/

namespace Sys2Proof.Machine

/-! ## The bits of the supply's status -/

theorem supBit_congr {s t : State} (h : t.sup = s.sup) (i : Nat) : supBit t i = supBit s i := by rw [supBit, supBit, h]

@[simp] theorem supBit_settle (q : List Instr) (s : State) (i : Nat) : supBit (settle q s) i = supBit s i := rfl
@[simp] theorem tempBit_settle (q : List Instr) (s : State) (i : Nat) : tempBit (settle q s) i = tempBit s i := rfl
@[simp] theorem supBit_raise (e detail : Nat) (s : State) (i : Nat) : supBit (raise e detail s) i = supBit s i :=
  supBit_congr (raise_sup _ _ _) i
@[simp] theorem tempBit_raise (e detail : Nat) (s : State) (i : Nat) : tempBit (raise e detail s) i = tempBit s i := by
  rw [tempBit, tempBit, raise_sup]

theorem supBit_supFlag_same {i : Nat} (hi : i < 16) (b : Bool) (s : State) : supBit (supFlag i b s) i = b :=
  getLsbD_setBit_same _ _ _ hi

theorem supBit_supFlag_other {i j : Nat} (hij : j ≠ i) (b : Bool) (s : State) : supBit (supFlag i b s) j = supBit s j :=
  getLsbD_setBit_other _ _ hij

theorem getLsbD_or_one {w i : Nat} (x : BitVec w) (hi : i < w) : (x ||| (1#w <<< i)).getLsbD i = true := by
  simp [hi]

theorem getLsbD_andNot_one {w i : Nat} (x : BitVec w) (hi : i < w) : (x &&& ~~~(1#w <<< i)).getLsbD i = false := by
  simp [hi]

theorem tempBit_tempFlag_same {i : Nat} (hi : i < 8) (b : Bool) (s : State) : tempBit (tempFlag i b s) i = b := by
  cases b
  · exact getLsbD_andNot_one _ hi
  · exact getLsbD_or_one _ hi

theorem tempBit_tempFlag_other {i j : Nat} (hij : j ≠ i) (b : Bool) (s : State) : tempBit (tempFlag i b s) j = tempBit s j := by
  have hbit : (1#8 <<< i).getLsbD j = false := by
    rw [BitVec.getLsbD_shiftLeft, BitVec.getLsbD_one]
    grind
  cases b
  · simp only [tempBit, tempFlag, State.modSup_sup, Bool.false_eq_true, if_false, BitVec.getLsbD_and, BitVec.getLsbD_not, hbit,
      Bool.not_false, Bool.and_true]
    exact Bool.and_eq_left_iff_imp.mpr fun hw => decide_eq_true (BitVec.lt_of_getLsbD hw)
  · simp only [tempBit, tempFlag, State.modSup_sup, if_true, BitVec.getLsbD_or, hbit, Bool.or_false]

/-- Time that passes changes of the supply only how long it has been hot. -/
theorem sup_forwardTo {β : Type} (g : Supply → β) (hg : ∀ u x y, g { u with base105Us := x, base125Us := y } = g u)
    (at_ : Option Nat) (s : State) : g (forwardTo at_ s).sup = g s.sup := by
  have helapse (us : Nat) : g (elapse us s).sup = g s.sup := by
    simp only [elapse, State.modSup_sup]
    refine (hg _ _ _).trans (congrArg g ?_)
    rw [elapseClocks_sup]
    split
    · rfl
    · exact advanceOp_sup us s
  unfold forwardTo
  split
  · exact ite_keeps (fun s => g s.sup) _ (helapse _) rfl
  · rfl

@[simp] theorem supFlag_ev (i : Nat) (b : Bool) (s : State) : (supFlag i b s).ev = s.ev := rfl
@[simp] theorem tempFlag_ev (i : Nat) (b : Bool) (s : State) : (tempFlag i b s).ev = s.ev := rfl

/-- A flag of the supply set together with its event: the flag stands, the source is raised once, and the rest of the supply is
as it was. -/
theorem raiseSup_bit {e : Nat} (hlow : 192 ≤ e) (hhigh : e < 219) (detail : Nat) {i : Nat} (hi : i < 16) (q : List Instr)
    {s u : State} (hev : u.ev = s.ev) : supBit (settle q (raise e detail (supFlag i true u))) i = true ∧
      RaisedOnce e s (settle q (raise e detail (supFlag i true u))) := by
  rw [supBit_settle, supBit_raise]
  exact ⟨supBit_supFlag_same hi _ _, (raise_raisedOnce_module hlow hhigh detail ((supFlag_ev _ _ _).trans hev)).settle q⟩

/-! ## Precharge and regeneration (R414, R436) -/

theorem effectPrechargeTimeout_due {at_ : Nat} {s : State} (hcharging : s.sup.precharging = some at_) :
    let t := effectPrechargeTimeout s
    t.sup.precharging = none ∧ t.sup.retryAt = some (t.us + 10000000) ∧ at_ + 1000 * s.modN .prechargeTimeoutMs ≤ t.us ∧
      supBit t 12 = true ∧ RaisedOnce 192 s t := by
  simp only [effectPrechargeTimeout, hcharging]
  generalize hu : forwardTo _ s = u
  have hev : u.ev = s.ev := by rw [← hu, forwardTo_ev]
  have hus : at_ + 1000 * s.modN .prechargeTimeoutMs ≤ u.us := by rw [← hu, forwardTo_us]; exact le_max_right _ _
  rw [raise_sup, raise_us, supBit_raise]
  exact ⟨rfl, rfl, hus, supBit_supFlag_same (by decide) _ _,
    raise_raisedOnce_module (by decide) (by decide) 3 ((supFlag_ev _ _ _).trans hev)⟩

theorem effectPrechargeRetry_due {at_ : Nat} {s : State} (hretry : s.sup.retryAt = some at_) (hmode : s.sup.powerMode = 0) :
    effectPrechargeRetry s = startPrecharge (forwardTo (some at_) s) := by
  unfold effectPrechargeRetry
  rw [hretry]
  exact if_pos hmode

/-- A clamp episode is counted; above 30 J it locks the openings and is told, else it raises nothing. -/
theorem effectRegenEnd_end (mJ : Nat) (s : State) :
    let t := effectRegenEnd mJ s
    t.sup.regenMj = mJ ∧ t.sup.regenEpisodes = inc32 s.sup.regenEpisodes ∧
      t.sup.regenLockEnd = (if 30000 < mJ then some (s.us + 60000000) else s.sup.regenLockEnd) ∧
      (30000 < mJ → supBit t 5 = true ∧ RaisedOnce 192 s t) ∧ (mJ ≤ 30000 → t.ev = s.ev) := by
  intro t
  by_cases hover : 30000 < mJ
  · have ht : t = raise 192 5 (supFlag 5 true ((s.modSup fun u =>
        { u with regenMj := mJ, regenEpisodes := inc32 u.regenEpisodes }).modSup fun u =>
        { u with regenLockEnd := some (s.us + 60000000) })) := if_pos hover
    rw [ht, raise_sup, supBit_raise, if_pos hover]
    exact ⟨rfl, rfl, rfl, fun _ => ⟨supBit_supFlag_same (by decide) _ _,
      raise_raisedOnce_module (by decide) (by decide) 5 rfl⟩, fun h => absurd hover (by omega)⟩
  · have ht : t = s.modSup fun u => { u with regenMj := mJ, regenEpisodes := inc32 u.regenEpisodes } := if_neg hover
    rw [ht, if_neg hover]
    exact ⟨rfl, rfl, rfl, fun h => absurd h hover, fun _ => rfl⟩

/-! ## Insulation (R438) -/

/-- A measurement of a charged bus: a good one clears the flag, the third low one in a row sets it. -/
theorem effectInsulation_charged {s : State} (hcharged : s.sup.precharged = true) (k : Nat) :
    let low : Bool := decide (k < s.modN .insulLimitKohm)
    let n := if low then min 3 (s.sup.insulLow + 1) else 0
    let u := s.modSup fun x => { x with insul := sat32 k, insulLow := n }
    effectInsulation k s = if low = false then supFlag 11 false u
      else if 3 ≤ n ∧ supBit s 11 = false then raise 192 6 (supFlag 1 true (supFlag 11 true u)) else u := by
  intro low n u
  unfold effectInsulation
  rw [if_neg (by simp [hcharged])]
  by_cases hk : k < s.modN .insulLimitKohm
  · have hlow : low = true := decide_eq_true hk
    simp [u, n, hlow, hk, supBit]
  · have hlow : low = false := decide_eq_false hk
    simp [u, n, hlow, hk]

section
variable {k : Nat} {s : State} (hcharged : s.sup.precharged = true)
include hcharged

theorem effectInsulation_good (hgood : s.modN .insulLimitKohm ≤ k) :
    supBit (effectInsulation k s) 11 = false ∧ (effectInsulation k s).sup.insulLow = 0 := by
  have hlow : decide (k < s.modN .insulLimitKohm) = false := by simpa using hgood
  rw [effectInsulation_charged hcharged, if_pos hlow]
  refine ⟨supBit_supFlag_same (by decide) _ _, ?_⟩
  simp [supFlag, hlow]

theorem effectInsulation_few (hlow : k < s.modN .insulLimitKohm) (hfew : s.sup.insulLow < 2) :
    (effectInsulation k s).sup.insulLow = s.sup.insulLow + 1 ∧ (effectInsulation k s).sup.status = s.sup.status ∧
      (effectInsulation k s).ev = s.ev := by
  have hlow' : decide (k < s.modN .insulLimitKohm) = true := decide_eq_true hlow
  rw [effectInsulation_charged hcharged, if_neg (by simp [hlow]), if_neg (by rw [hlow']; simp; omega)]
  refine ⟨?_, rfl, rfl⟩
  simp only [State.modSup_sup, hlow', if_true]
  omega

theorem effectInsulation_third (hlow : k < s.modN .insulLimitKohm) (hmany : 2 ≤ s.sup.insulLow) (hnew : supBit s 11 = false) :
    supBit (effectInsulation k s) 11 = true ∧ supBit (effectInsulation k s) 1 = true ∧
      RaisedOnce 192 s (effectInsulation k s) := by
  have hlow' : decide (k < s.modN .insulLimitKohm) = true := decide_eq_true hlow
  rw [effectInsulation_charged hcharged, if_neg (by simp [hlow]), if_pos (by rw [hlow']; simp [hnew]; omega)]
  refine ⟨?_, ?_, raise_raisedOnce_module (by decide) (by decide) 6 rfl⟩
  · rw [supBit_raise, supBit_supFlag_other (by decide), supBit_supFlag_same (by decide)]
  · rw [supBit_raise, supBit_supFlag_same (by decide)]

end

/-! ## Contact feeds and encoder supplies (R443) -/

/-- Switching a contact feed changes of the supply its own bit. -/
theorem setFeed_sup (feed : Nat) (off : Bool) (s : State) : (setFeed feed off s).sup =
    { s.sup with cfOff := if off then s.sup.cfOff ||| (1#18 <<< feed) else s.sup.cfOff &&& ~~~(1#18 <<< feed) } := by
  simp only [setFeed]
  refine (foldl_keeps State.sup _ (fun s lane => ?_) _ _).trans rfl
  exact each_keeps State.sup 32 _ (fun s p => State.modPair_sup _ _ _ _) s

theorem setFeed_us (feed : Nat) (off : Bool) (s : State) : (setFeed feed off s).us = s.us := by
  simp only [setFeed]
  refine (foldl_keeps State.us _ (fun s lane => ?_) _ _).trans rfl
  exact each_keeps State.us 32 _ (fun s p => State.modPair_us _ _ _ _) s

/-- The wire disagreements of the encoders that a supply feeds leave the supply as it is. -/
theorem encDisagreements_sup (d : Nat) (s : State) :
    (each 3 (fun s k => fedPairs.foldl (fun s p => effectWireDisagreement (axisOf d k) p s) s) s).sup = s.sup :=
  each_keeps State.sup 3 _ (fun s k => foldl_keeps State.sup (fun s p => effectWireDisagreement (axisOf d k) p s)
    (fun s p => (congrArg State.sup (localTo_effectWireDisagreement (axisOf d k) s p).rest :)) _ s) s

/-- An overloaded contact feed is switched off and tried again a second later. -/
theorem effectFeedOverload_sup (feed : Nat) (s : State) : (effectFeedOverload feed s).sup = { s.sup with
    cfOff := s.sup.cfOff ||| (1#18 <<< feed), cfRetry := put s.sup.cfRetry feed (s.us + 1000000) } := by
  unfold effectFeedOverload
  extract_lets was u
  have hu : u.sup = { s.sup with
      cfOff := s.sup.cfOff ||| (1#18 <<< feed), cfRetry := put s.sup.cfRetry feed (s.us + 1000000) } := by
    rw [State.modSup_sup, setFeed_sup]
    rfl
  clear_value u
  split
  · exact hu
  · rw [raise_sup, hu]

/-- An overloaded encoder supply is switched off and tried again a second later. -/
theorem effectEncOverload_sup (d : Nat) (s : State) : (effectEncOverload d s).sup = { s.sup with
    encOff := s.sup.encOff ||| (1#8 <<< d), encRetry := put s.sup.encRetry d (s.us + 1000000) } := by
  unfold effectEncOverload
  extract_lets was u v
  have hu : u.sup = { s.sup with
      encOff := s.sup.encOff ||| (1#8 <<< d), encRetry := put s.sup.encRetry d (s.us + 1000000) } := rfl
  have hv : v.sup = u.sup := raise_sup _ _ _
  clear_value u v
  split
  · exact hu
  · rw [encDisagreements_sup, hv, hu]

theorem effectFeedRetry_due {feed at_ : Nat} {s : State} (hfeed : feed < 18) (hretry : get s.sup.cfRetry feed = some at_) :
    (effectFeedRetry feed s).sup.cfOff.getLsbD feed = false ∧ get (effectFeedRetry feed s).sup.cfRetry feed = none ∧
      at_ ≤ (effectFeedRetry feed s).us := by
  rw [effectFeedRetry, hretry]
  dsimp only
  rw [State.modSup_sup, State.modSup_us, setFeed_sup, setFeed_us, forwardTo_us]
  exact ⟨getLsbD_andNot_one _ hfeed, get_drop_same _ _, le_max_right _ _⟩

theorem effectEncRetry_due {d at_ : Nat} {s : State} (hd : d < 8) (hretry : get s.sup.encRetry d = some at_) :
    (effectEncRetry d s).sup.encOff.getLsbD d = false ∧ get (effectEncRetry d s).sup.encRetry d = none ∧
      at_ ≤ (effectEncRetry d s).us := by
  rw [effectEncRetry, hretry]
  dsimp only
  generalize hu : forwardTo _ s = u
  have hus : at_ ≤ u.us := by rw [← hu, forwardTo_us]; exact le_max_right _ _
  have hwires {β : Type} (g : State → β) (hg : ∀ s a f, g (State.modFb s a f) = g s) (v : State) :
      g (each 3 (fun s k => s.modFb (axisOf d k) fun b => { b with wires := 0 }) v) = g v :=
    each_keeps g 3 _ (fun s k => hg _ _ _) v
  rw [hwires State.sup (by intros; rfl), hwires State.us (by intros; rfl)]
  exact ⟨getLsbD_andNot_one _ hd, get_drop_same _ _, hus⟩

/-! ## Temperatures (R448) -/

/-- A temperature of the base is taken with its peak; below their thresholds its two flags end. -/
theorem takeBaseTemp_sup (x : Int) (s : State) : (takeBaseTemp x s).par = s.par ∧
    (takeBaseTemp x s).sup.baseTemp = x ∧ (takeBaseTemp x s).sup.basePeak = max s.sup.basePeak x ∧
      (takeBaseTemp x s).ev = s.ev ∧ (s.modp .baseTempWarn ≤ x → tempBit (takeBaseTemp x s) 7 = tempBit s 7) ∧
      (1250 ≤ x → tempBit (takeBaseTemp x s) 6 = tempBit s 6) ∧ (x < 1250 → tempBit (takeBaseTemp x s) 6 = false) := by
  unfold takeBaseTemp
  extract_lets u v
  have hv : v.par = s.par ∧ v.sup.baseTemp = x ∧ v.sup.basePeak = max s.sup.basePeak x ∧ v.ev = s.ev ∧
      (s.modp .baseTempWarn ≤ x → tempBit v 7 = tempBit s 7) ∧ tempBit v 6 = tempBit s 6 := by
    by_cases hcool : x < u.modp .baseTempWarn
    · have hcool' : x < s.modp .baseTempWarn := hcool
      have hv : v = tempFlag 7 false u := if_pos hcool
      rw [hv]
      exact ⟨rfl, rfl, rfl, rfl, fun h => absurd hcool' (by omega), tempBit_tempFlag_other (by decide) _ _⟩
    · have hv : v = u := if_neg hcool
      rw [hv]
      exact ⟨rfl, rfl, rfl, rfl, fun _ => rfl, rfl⟩
  clear_value v
  obtain ⟨hpar, htemp, hpeak, hev, hwarm, hhot⟩ := hv
  split
  case isTrue hcool =>
    refine ⟨hpar, htemp, hpeak, hev, fun h => ?_, fun h => absurd hcool (by omega), fun _ => tempBit_tempFlag_same (by decide) _ _⟩
    rw [tempBit_tempFlag_other (by decide), hwarm h]
  case isFalse hnot => exact ⟨hpar, htemp, hpeak, hev, hwarm, fun _ => hhot, fun h => absurd h hnot⟩

section
variable {x : Int} {s : State}

theorem effectBaseWarn_warm (hwarm : s.modp .baseTempWarn ≤ x) (hnew : tempBit s 7 = false) :
    tempBit (effectBaseWarn x s) 7 = true ∧ (effectBaseWarn x s).sup.baseTemp = x ∧ RaisedOnce 193 s (effectBaseWarn x s) := by
  obtain ⟨hpar, htemp, -, hev, hflag, -, -⟩ := takeBaseTemp_sup x s
  have heffect : effectBaseWarn x s = raise 193 2 (tempFlag 0 true (tempFlag 7 true (takeBaseTemp x s))) := if_pos (by
    have hwarn : (takeBaseTemp x s).modp .baseTempWarn ≤ x := (val_congr hpar _).le.trans hwarm
    simp [hwarn, hflag hwarm, hnew])
  rw [heffect, tempBit_raise, tempBit_tempFlag_other (by decide), tempBit_tempFlag_same (by decide), raise_sup]
  exact ⟨rfl, htemp, raise_raisedOnce_module (by decide) (by decide) 2 ((tempFlag_ev _ _ _).trans ((tempFlag_ev _ _ _).trans hev))⟩

theorem effectBaseLimit_hot (hhot : 1300 ≤ x) (hnew : tempBit s 6 = false) :
    tempBit (effectBaseLimit x s) 6 = true ∧ (effectBaseLimit x s).sup.basePeak = max s.sup.basePeak x ∧
      RaisedOnce 193 s (effectBaseLimit x s) := by
  obtain ⟨-, -, hpeak, hev, -, hflag, -⟩ := takeBaseTemp_sup x s
  have heffect : effectBaseLimit x s = raise 193 3 (tempFlag 1 true (tempFlag 6 true (takeBaseTemp x s))) := if_pos (by
    simp [hhot, hflag (by omega), hnew])
  rw [heffect, tempBit_raise, tempBit_tempFlag_other (by decide), tempBit_tempFlag_same (by decide), raise_sup]
  exact ⟨rfl, hpeak, raise_raisedOnce_module (by decide) (by decide) 3 ((tempFlag_ev _ _ _).trans ((tempFlag_ev _ _ _).trans hev))⟩

theorem effectLogicHot_hot (hhot : 1400 ≤ x) (hnew : tempBit s 4 = false) :
    tempBit (effectLogicHot x s) 4 = true ∧ (effectLogicHot x s).sup.logicTemp = x ∧ RaisedOnce 193 s (effectLogicHot x s) := by
  have heffect : effectLogicHot x s = raise 193 4 (tempFlag 4 true (s.modSup fun u => { u with logicTemp := x })) :=
    (if_pos hhot).trans (if_neg (Bool.eq_false_iff.mp hnew))
  rw [heffect, tempBit_raise, tempBit_tempFlag_same (by decide), raise_sup]
  exact ⟨rfl, rfl, raise_raisedOnce_module (by decide) (by decide) 4 ((tempFlag_ev _ _ _).trans (State.modSup_ev _ _))⟩

end

/-! ## The obligation -/

/-- Settles O48: each report by its own lemma on the supply's flags and the event that it raises. -/
theorem supplyCommandsComplete : Obligations.SupplyCommandsComplete := by
  unfold Obligations.SupplyCommandsComplete
  refine ⟨fun mV ms at_ s hlit hcharging => ⟨fun hvolt => ?charged, ?chargeTimeout⟩, fun at_ s hlit hretry hmode => ?retry,
    fun ms mJ s hlit => ⟨?loss, fun hcharged hidle hmode hon => ?return_, ?trip, ?regen, fun at_ hlock => ?regenLock⟩,
    fun k s hlit hcharged => ⟨fun hgood => ?insulGood, fun hlow hfew => ?insulFew, fun hlow hmany hnew => ?insulLow⟩,
    fun feed d s hlit => ⟨?feedOff, fun at_ hretry => ?feedOn, ?encOff, fun at_ hretry => ?encOn,
      fun refs => answers_of_lit (f := effectFeedPulse feed.val refs) rfl hlit rfl⟩,
    fun x s hlit => ⟨fun hwarm hnew => ?warm, fun hhot hnew => ?hot, fun hcool => ?cool, fun hhot hnew => ?logicHot⟩⟩
  case charged =>
    refine exec_of_lit (f := effectPrechargeDone mV ms) rfl hlit ?_
    rw [effectPrechargeDone, if_neg (by simp [hcharging, hvolt])]
    exact ⟨rfl, rfl, rfl, rfl, rfl, supBit_supFlag_same (by decide) _ _⟩
  case chargeTimeout =>
    obtain ⟨hdone, hretry, hus, hbit, honce⟩ := effectPrechargeTimeout_due hcharging
    exact exec_of_lit (f := effectPrechargeTimeout) rfl hlit ⟨hdone, hretry, hus, hbit, honce.settle _⟩
  case retry =>
    refine exec_of_lit (f := effectPrechargeRetry) rfl hlit ?_
    rw [effectPrechargeRetry_due hretry hmode, settle_sup, settle_us]
    exact ⟨rfl, rfl, (forwardTo_us at_ s).symm ▸ le_max_right _ _⟩
  case loss => exact exec_of_lit (f := effectDriveLoss ms) rfl hlit ⟨rfl, rfl⟩
  case return_ =>
    refine exec_of_lit (f := effectDriveReturn) rfl hlit ?_
    rw [effectDriveReturn, if_neg (by simp [hcharged, hidle, hmode, hon])]
    rfl
  case trip =>
    refine exec_of_lit (f := effectBreakerTrip ms) rfl hlit ?_
    rw [effectBreakerTrip]
    refine ⟨?_, raiseSup_bit (by decide) (by decide) 4 (by decide) _ rfl⟩
    rw [settle_sup, raise_sup]
    rfl
  case regen =>
    obtain ⟨henergy, hcount, hlock, hover, hquiet⟩ := effectRegenEnd_end mJ s
    exact exec_of_lit (f := effectRegenEnd mJ) rfl hlit
      ⟨henergy, hcount, hlock, fun h => ⟨(hover h).1, (hover h).2.settle _⟩, hquiet⟩
  case regenLock =>
    refine exec_of_lit (f := effectRegenLockEnd) rfl hlit ?_
    rw [effectRegenLockEnd, hlock, settle_sup, settle_us]
    exact ⟨rfl, (forwardTo_us at_ s).symm ▸ le_max_right _ _⟩
  case insulGood => exact exec_of_lit (f := effectInsulation k) rfl hlit (effectInsulation_good hcharged hgood)
  case insulFew => exact exec_of_lit (f := effectInsulation k) rfl hlit (effectInsulation_few hcharged hlow hfew)
  case insulLow =>
    obtain ⟨hflag, hbit, honce⟩ := effectInsulation_third hcharged hlow hmany hnew
    exact exec_of_lit (f := effectInsulation k) rfl hlit ⟨hflag, hbit, honce.settle _⟩
  case feedOff =>
    refine exec_of_lit (f := effectFeedOverload feed.val) rfl hlit ?_
    rw [settle_sup, effectFeedOverload_sup]
    exact ⟨getLsbD_or_one _ feed.isLt, get_put_same _ _ _⟩
  case feedOn => exact exec_of_lit (f := effectFeedRetry feed.val) rfl hlit (effectFeedRetry_due feed.isLt hretry)
  case encOff =>
    refine exec_of_lit (f := effectEncOverload d.val) rfl hlit ?_
    rw [settle_sup, effectEncOverload_sup]
    exact ⟨getLsbD_or_one _ d.isLt, get_put_same _ _ _⟩
  case encOn => exact exec_of_lit (f := effectEncRetry d.val) rfl hlit (effectEncRetry_due d.isLt hretry)
  case warm =>
    obtain ⟨hflag, htemp, honce⟩ := effectBaseWarn_warm hwarm hnew
    exact exec_of_lit (f := effectBaseWarn x) rfl hlit ⟨hflag, htemp, honce.settle _⟩
  case hot =>
    obtain ⟨hflag, hpeak, honce⟩ := effectBaseLimit_hot hhot hnew
    exact exec_of_lit (f := effectBaseLimit x) rfl hlit ⟨hflag, hpeak, honce.settle _⟩
  case cool =>
    obtain ⟨-, -, -, hev, -, -, hflag⟩ := takeBaseTemp_sup x s
    exact exec_of_lit (f := effectBaseCleared x) rfl hlit ⟨hflag hcool, hev⟩
  case logicHot =>
    obtain ⟨hflag, htemp, honce⟩ := effectLogicHot_hot hhot hnew
    exact exec_of_lit (f := effectLogicHot x) rfl hlit ⟨hflag, htemp, honce.settle _⟩

end Sys2Proof.Machine
end

section
/-! PROOF. Supply applied and WAKE, an interruption of the supply, power fail and the end of the hold-up (O49). -/

namespace Sys2Proof.Machine

/-! ## Commands that every module answers, without supply too (R402) -/

section
variable {c : Instr} {s : State} {f : State → State}

theorem answers_of_always {t : State} (hexec : exec c s = answerAlways s f) (hf : f s = t) : Answers c s t := by
  rw [Answers, hexec, answerAlways_eq, hf]

theorem exec_of_always {P : State → Prop} (hexec : exec c s = answerAlways s f) (hf : P (settle s.pending (f s))) :
    ∃ t, exec c s = .next t ∧ P t :=
  ⟨_, hexec.trans (answerAlways_eq _ _), hf⟩

end

/-! ## Power fail (R434) -/

theorem besidesMotion_stoAll (s : State) : (stoAll s).besidesMotion = s.besidesMotion :=
  each_keeps State.besidesMotion 24 _ (fun s a => ite_keeps _ _ (by simp) rfl) s

/-- The safe outputs with every demand and every command gone. -/
def openOuts (x : Safety) : Safety :=
  { x with pulse := none, outs := x.outs.map fun o =>
    { o with demandIbex := false, demandChamois := false, hsCmd := false, lsCmd := false } }

theorem besidesMotion_shutOff (s : State) : (shutOff s).besidesMotion = (s.modSaf openOuts).besidesMotion :=
  besidesMotion_stoAll _

theorem out_openOuts {s t : State} (h : t.saf = openOuts s.saf) (o : Nat) : (t.out o).isOpen := by
  rw [State.out, h]
  by_cases ho : o < 4
  · simp [openOuts, SafeOut.isOpen, ho]
  · simp only [openOuts, Vector.getElem?_eq_none, Option.getD_none, Nat.not_lt.mp ho]
    exact ⟨rfl, rfl⟩

theorem besidesMotion_newEvent (r e origin detail : Nat) (inj : Bool) (s : State) :
    (newEvent r e origin detail inj s).besidesMotion = s.besidesMotion := by
  unfold newEvent
  extract_lets sup n rep b
  exact (besidesMotion_putRec s r (sealRec b) :)

theorem besidesMotion_recordBoth (e detail : Nat) (s : State) : (recordBoth e detail s).besidesMotion = s.besidesMotion :=
  foldl_keeps State.besidesMotion _ (fun s r => besidesMotion_newEvent r e 0 detail false s) _ s

theorem sup_of_besidesMotion {s t : State} (h : t.besidesMotion = s.besidesMotion) : t.sup = s.sup := (congrArg State.sup h :)
theorem us_of_besidesMotion {s t : State} (h : t.besidesMotion = s.besidesMotion) : t.us = s.us := (congrArg State.us h :)

/-- At the end of the hold-up's first part the outputs open, the warning is counted and told, and the module shuts down. -/
theorem effectPowerFail_on {s : State} {at_ : Nat} (hon : s.boot.power = .on) (hsince : s.sup.holdupSince = some at_) :
    (effectPowerFail s).boot.power = .shutdown ∧ supBit (effectPowerFail s) 3 = true ∧
      (effectPowerFail s).sup.pfWarnings = inc32 s.sup.pfWarnings ∧ (∀ o : Nat, ((effectPowerFail s).out o).isOpen) ∧
      at_ + 20000 ≤ (effectPowerFail s).us := by
  unfold effectPowerFail
  rw [hsince]
  dsimp only
  rw [if_neg (by simp [hon])]
  generalize hu : forwardTo _ s = u
  have hus : at_ + 20000 ≤ u.us := by rw [← hu, forwardTo_us]; exact le_max_right _ _
  have hcount : u.sup.pfWarnings = s.sup.pfWarnings := by
    rw [← hu]
    exact sup_forwardTo Supply.pfWarnings (by intros; rfl) _ s
  have hshut := besidesMotion_shutOff u
  generalize shutOff u = v at hshut
  have hvsup : v.sup = u.sup := (sup_of_besidesMotion hshut).trans rfl
  have hvsaf : v.saf = openOuts u.saf := (saf_of_besidesMotion hshut).trans rfl
  have hvus : v.us = u.us := (us_of_besidesMotion hshut).trans rfl
  generalize hw : supFlag 3 true _ = w
  have hwbit : supBit w 3 = true := by rw [← hw]; exact supBit_supFlag_same (by decide) _ _
  have hwsup : w.sup.pfWarnings = inc32 s.sup.pfWarnings := by
    rw [← hw, ← hcount, ← hvsup]
    rfl
  have hwsaf : w.saf = openOuts u.saf := by rw [← hw, ← hvsaf]; rfl
  have hwus : w.us = u.us := by rw [← hw, ← hvus]; rfl
  have hrecord := (besidesMotion_recordBoth 192 2 (raise 192 2 w)).trans (besidesMotion_raise w 192 2)
  generalize recordBoth 192 2 (raise 192 2 w) = x at hrecord
  refine ⟨rfl, ?_, ?_, fun o => out_openOuts (s := u) ?_ o, ?_⟩
  · exact (supBit_congr (sup_of_besidesMotion hrecord) 3).trans hwbit
  · exact (congrArg Supply.pfWarnings (sup_of_besidesMotion hrecord)).trans hwsup
  · exact (saf_of_besidesMotion hrecord).trans hwsaf
  · exact hus.trans (hwus ▸ (us_of_besidesMotion hrecord).ge)

theorem isOpen_settle {s : State} (h : ∀ o : Nat, (s.out o).isOpen) (q : List Instr) (o : Fin 4) : ((settle q s).out o.val).isOpen := by
  by_cases hsafe : s.saf.lanes.safe = true
  · exact settle_gated q s ((settle_saf (fun x => x.lanes.safe) (fun _ _ => rfl) q s).trans hsafe) o.val o.isLt
  · have hsaf : (settle q s).saf = s.saf := if_neg hsafe
    rw [State.out, hsaf]
    exact h o.val

/-! ## The end of the hold-up (R434) and a low supply (R433) -/

/-- Every write still queued is done or given up. -/
theorem finalWrites_queue (s : State) : (finalWrites s).jrn.queue = [] := by
  unfold finalWrites
  split <;> rfl

theorem effectLowLogic_low {mV : Nat} {s : State} (hlow : mV < 700 * (takeLogicVolt mV s).sup.logicNom) (hnew : supBit s 15 = false) :
    effectLowLogic mV s = raise 192 1 (supFlag 15 true (takeLogicVolt mV s)) :=
  (if_pos hlow).trans (if_neg (Bool.eq_false_iff.mp hnew))

/-- Settles O49: the power state before the row decides which of its effects it has. -/
theorem powerCommandsComplete : Obligations.PowerCommandsComplete := by
  unfold Obligations.PowerCommandsComplete
  refine ⟨fun s hpower => ?on, fun s => ⟨fun hasleep => ?wake, fun hon hstandby => ?standby⟩, fun s hoff hsleep hnone => ?interrupted,
    fun ms at_ s hon hsince => ⟨fun hshort => ?bridged, ?powerFail⟩, fun s hdown => ?release, fun mV s => ?lowLogic⟩
  case on =>
    intro s1
    refine ⟨answers_of_always (f := effectPowerOn) rfl ?_, rfl, rfl, rfl, ?_⟩
    · unfold effectPowerOn
      rcases hpower with h | h | h <;> rw [h] <;> rfl
    · change (supplyAtStart (match s.boot.kept with | some k => s1.sup.withLife k.power | none => s1.sup)).nomDue = true
      cases s.boot.kept <;> rfl
  case wake =>
    refine exec_of_always (f := effectWake) rfl ?_
    rw [effectWake, if_pos (by simp [hasleep])]
    exact ⟨rfl, rfl, rfl⟩
  case standby =>
    refine answers_of_always (f := effectWake) rfl ?_
    rw [effectWake, if_neg (by simp [hon]), if_pos (by simp [hon])]
  case interrupted =>
    refine exec_of_always (f := effectInterruption) rfl ?_
    rw [effectInterruption, if_neg (by simp [hoff, hsleep, hnone])]
    exact ⟨rfl, supBit_supFlag_same (by decide) _ _⟩
  case bridged =>
    refine exec_of_always (f := effectBridged ms) rfl ?_
    unfold effectBridged
    rw [hsince]
    dsimp only
    rw [if_neg (by simp [hon, hshort])]
    generalize hu : forwardTo _ s = u
    have hcount : u.sup.bridged = s.sup.bridged := by rw [← hu]; exact sup_forwardTo Supply.bridged (by intros; rfl) _ s
    have hlongest : u.sup.longestBridge = s.sup.longestBridge := by
      rw [← hu]
      exact sup_forwardTo Supply.longestBridge (by intros; rfl) _ s
    rw [settle_sup, supBit_settle, supBit_settle, supBit_supFlag_same (by decide), supBit_supFlag_other (by decide),
      supBit_supFlag_same (by decide), ← hcount, ← hlongest]
    exact ⟨rfl, rfl, rfl, rfl, rfl⟩
  case powerFail =>
    obtain ⟨hpower, hbit, hcount, hopen, hus⟩ := effectPowerFail_on hon hsince
    exact exec_of_always (f := effectPowerFail) rfl ⟨hpower, hbit, hcount, isOpen_settle hopen _, hus⟩
  case release =>
    refine exec_of_always (f := effectHoldupRelease) rfl ?_
    rw [effectHoldupRelease, if_neg (by simp [hdown])]
    exact ⟨rfl, finalWrites_queue _⟩
  case lowLogic =>
    intro nom
    refine ⟨fun h => by simp [nom, takeLogicVolt, h], fun h => by simp [nom, takeLogicVolt, h], fun hlow hnew => ?_, fun hgood => ?_⟩
    · refine exec_of_always (f := effectLowLogic mV) rfl ?_
      rw [effectLowLogic_low hlow hnew]
      obtain ⟨hbit, honce⟩ := raiseSup_bit (e := 192) (by decide) (by decide) 1 (i := 15) (by decide) s.pending (s := s)
        (u := takeLogicVolt mV s) rfl
      refine ⟨hbit, ?_, ?_, honce⟩
      · rw [settle_sup, raise_sup]
        rfl
      · rw [settle_sup, raise_sup]
        rfl
    · refine exec_of_always (f := effectLowLogic mV) rfl ?_
      have heffect : effectLowLogic mV s = supFlag 15 false (takeLogicVolt mV s) := if_neg (Nat.not_lt.mpr hgood)
      rw [heffect]
      exact ⟨supBit_supFlag_same (by decide) _ _, rfl⟩

end Sys2Proof.Machine
end

section
/-! PROOF. What the last steps of a start leave alone: the start of the logic, the links, the herd and the records, and the first
states of the axes and doorways. -/

namespace Sys2Proof.Machine

/-! ## The start of the logic, the links and the herd (R405, R418, R419) -/

/-- A state without its logic, its field link, its herd, its waiting requests, its time, its pins, its event sources and its
journal. -/
def State.besidesRun (s : State) : State :=
  { s with logic := State.reset.logic, stations := State.reset.stations, link := State.reset.link, herd := State.reset.herd
           reqs := State.reset.reqs, time := State.reset.time, io := State.reset.io, ev := State.reset.ev, jrn := State.reset.jrn }

theorem boot_of_besidesRun {s t : State} (h : t.besidesRun = s.besidesRun) : t.boot = s.boot := (congrArg State.boot h :)
theorem sup_of_besidesRun {s t : State} (h : t.besidesRun = s.besidesRun) : t.sup = s.sup := (congrArg State.sup h :)
theorem saf_of_besidesRun {s t : State} (h : t.besidesRun = s.besidesRun) : t.saf = s.saf := (congrArg State.saf h :)
theorem us_of_besidesRun {s t : State} (h : t.besidesRun = s.besidesRun) : t.us = s.us := (congrArg State.us h :)

section
variable (s : State)

@[simp] theorem besidesRun_raise (e detail : Nat) : (raise e detail s).besidesRun = s.besidesRun := by
  simp [State.besidesRun]

theorem besidesRun_kindRecord (kind flags : Nat) (body : Bytes) (caddy : Bool) :
    (kindRecord kind flags body caddy s).besidesRun = s.besidesRun :=
  foldl_keeps State.besidesRun _ (by intros; rfl) _ s

@[simp] theorem besidesRun_startRecord : (startRecord s).besidesRun = s.besidesRun := by
  simp only [startRecord, besidesRun_raise, besidesRun_kindRecord]

theorem besidesRun_stopLogic (cause : Nat) : (stopLogic cause s).besidesRun = s.besidesRun := by
  have hlift (i : Inst) (s : State) : (liftHold i s).besidesRun = s.besidesRun := by
    unfold liftHold doorReq
    exact ite_keeps State.besidesRun _ (ite_keeps State.besidesRun _ rfl rfl) rfl
  unfold stopLogic
  refine ite_keeps State.besidesRun _ rfl ?_
  extract_lets u
  have hu : u.besidesRun = s.besidesRun := by
    cases hactive : s.logic.active with
    | none => simp only [u, hactive]
    | some p =>
      simp only [u, hactive]
      exact foldl_keeps State.besidesRun (fun s i => liftHold i s) (fun s i => hlift i s) p.insts s
  clear_value u
  exact hu

@[simp] theorem besidesRun_logicModeChange : (logicModeChange s).besidesRun = s.besidesRun :=
  ite_keeps State.besidesRun _ rfl (ite_keeps State.besidesRun _ (besidesRun_stopLogic _ 3) rfl)

@[simp] theorem besidesRun_rejoin : (rejoin s).besidesRun = s.besidesRun := (besidesRun_logicModeChange _).trans rfl

@[simp] theorem besidesRun_startLink : (startLink s).besidesRun = s.besidesRun := by
  have hlink : (s.modLink fun _ => { Link.reset with ring := if anyStation s then .closed else .off }).besidesRun = s.besidesRun := rfl
  unfold startLink newImage
  exact (each_keeps State.besidesRun 16 _ (by intros; rfl) _).trans
    ((each_keeps State.besidesRun 16 _ (by intros; rfl) _).trans hlink)

@[simp] theorem besidesRun_autostart (cold : Bool) : (autostart cold s).besidesRun = s.besidesRun := by
  refine ite_keeps State.besidesRun _ rfl ?_
  unfold startLogic
  split <;> rfl

@[simp] theorem besidesRun_startPins : (startPins s).besidesRun = s.besidesRun := by
  unfold startPins
  refine each_keeps State.besidesRun 112 _ (fun s n => ?_) s
  exact ite_keeps State.besidesRun _ rfl rfl

end

/-! ## The first states of the axes and doorways (R416, R418) -/

section
variable (s : State)

@[simp] theorem besidesMotion_restorePhase (a : Nat) : (restorePhase s a).besidesMotion = s.besidesMotion := by
  unfold restorePhase
  refine ite_keeps State.besidesMotion _ rfl ?_
  split
  · rfl
  · refine ite_keeps State.besidesMotion _ ?_ rfl
    simp only [setPosValid, applyLimits]
    simp

theorem besidesMotion_setPoint (a i : Nat) (p : LcPoint) : (setPoint a i p s).besidesMotion = s.besidesMotion :=
  ite_keeps State.besidesMotion _ rfl rfl

theorem besidesMotion_writePoints (d : Nat) : (writePoints d s).besidesMotion = s.besidesMotion := by
  have hpoints (l : List Nat) (s : State) :
      (l.foldl (fun s a => each 8 (fun s i => setPoint a i LcPoint.blank s) s) s).besidesMotion = s.besidesMotion :=
    foldl_keeps State.besidesMotion _ (fun s a => each_keeps State.besidesMotion 8 _ (fun s i => besidesMotion_setPoint s a i _) s) l s
  unfold writePoints
  extract_lets a0 a1 a2 plug armed check u v w x
  have hu : u.besidesMotion = s.besidesMotion := hpoints _ s
  have hv : v.besidesMotion = s.besidesMotion := (besidesMotion_setPoint u _ _ _).trans hu
  have hw : w.besidesMotion = s.besidesMotion := (ite_keeps State.besidesMotion _ (besidesMotion_setPoint v _ _ _) rfl).trans hv
  have hx : x.besidesMotion = s.besidesMotion :=
    (ite_keeps State.besidesMotion _ ((besidesMotion_setPoint _ _ _ _).trans (besidesMotion_setPoint w _ _ _)) rfl).trans hw
  exact (ite_keeps State.besidesMotion _ ((besidesMotion_setPoint _ _ _ _).trans (besidesMotion_setPoint x _ _ _)) rfl).trans hx

@[simp] theorem besidesMotion_initDoor (d : Nat) : (initDoor s d).besidesMotion = s.besidesMotion := by
  have hsto (l : List Nat) (s : State) :
      (l.foldl (fun s a => s.modDrive a fun x => { x with state := .sto }) s).besidesMotion = s.besidesMotion :=
    foldl_keeps State.besidesMotion _ (by intros; rfl) l s
  have hidle (l : List Nat) (s : State) : (l.foldl (fun s a => s.modHome a fun h =>
      { h with done := false, failRaised := false, phase := .idle }) s).besidesMotion = s.besidesMotion :=
    foldl_keeps State.besidesMotion _ (by intros; rfl) l s
  unfold initDoor
  extract_lets st sto u v
  have hu : u.besidesMotion = s.besidesMotion := ite_keeps State.besidesMotion _ (hsto _ s) rfl
  have hv : v.besidesMotion = s.besidesMotion := hu
  clear_value v
  have hhoming (u : State) : (enterHoming d u).besidesMotion = u.besidesMotion := hidle _ (setLeaf d .homing u)
  refine Eq.trans ?_ hv
  refine ite_keeps State.besidesMotion _ (hhoming _) ?_
  exact ite_keeps State.besidesMotion _ (besidesMotion_writePoints _ d) rfl

theorem besidesMotion_endStartDemand : (endStartDemand s).besidesMotion = s.besidesMotion :=
  each_keeps State.besidesMotion 24 _ (by intros; rfl) s

end

end Sys2Proof.Machine
end

section
/-! PROOF. The steps of a start, the confirmation of a TRIAL bank and the return of a lane (O50). -/

namespace Sys2Proof.Machine

/-! ## The lanes boot (R407) -/

section
variable {s : State} (hon : s.boot.power = .on) (hstep : s.boot.step = 1)
include hon hstep

theorem effectLaneBoot_good : (effectLaneBoot true s).boot.step = 3 ∧ s.boot.stepUs + 1250000 ≤ (effectLaneBoot true s).us := by
  rw [effectLaneBoot, if_neg (by simp [hon, hstep]), if_pos rfl, State.modBoot_us, forwardTo_us]
  exact ⟨rfl, le_max_right _ _⟩

theorem effectLaneBoot_bad :
    effectLaneBoot false s = failTry s.boot.cause (forwardTo (some (s.boot.stepUs + 1250000)) s) := by
  rw [effectLaneBoot, if_neg (by simp [hon, hstep]), if_neg (by simp), forwardTo_boot]

end

/-! ## The store check (R408, R409) -/

theorem getLsbD_ofBits_last (a b c d e f g h : Bool) : (BitVec.ofNat 8 (ofBits [a, b, c, d, e, f, g, h])).getLsbD 7 = h := by
  revert a b c d e f g h
  decide

/-- The rest of step 3, before the START record: the configuration, the outcome of the check and the pins. -/
theorem afterCheck_boot (passed : Bool) (r : StoreReport) (s : State) : (afterCheck passed r s).boot.step = 5 ∧
    (afterCheck passed r s).sup.precharging.isSome = true ∧ (afterCheck passed r s).boot.storeCheckMs = min r.ms 2000 ∧
    (afterCheck passed r s).boot.info.getLsbD 7 = !passed ∧ (passed = false → (afterCheck passed r s).boot.warm = false) := by
  unfold afterCheck
  extract_lets req u1 cold u2 u3 u4 lostSafety u5 crc u6 info v w x y
  have hv : v.boot.step = 5 ∧ v.boot.storeCheckMs = min r.ms 2000 ∧ v.boot.info = BitVec.ofNat 8 info ∧ v.boot.warm = !cold :=
    ⟨rfl, rfl, rfl, rfl⟩
  have hinfo : (BitVec.ofNat 8 info).getLsbD 7 = !passed := getLsbD_ofBits_last _ _ _ _ _ _ _ _
  have hcold : passed = false → (!cold) = false := fun h => by simp [cold, h]
  clear_value v info cold
  have hw : w.boot = v.boot := by
    simp only [w, startPrecharge, State.modSup_boot]
    exact boot_of_besidesRun (besidesRun_startPins v)
  have hcharging : w.sup.precharging.isSome = true := by
    simp only [w]
    generalize startPins v = z
    rfl
  clear_value w
  have hy : y.besidesRun = w.besidesRun :=
    (ite_keeps State.besidesRun _ (besidesRun_raise _ _ _) rfl).trans (besidesRun_startRecord w)
  clear_value y
  have hend : (rejoin (y.modHerd fun h => { h with boundaryAt := y.us })).besidesRun = w.besidesRun :=
    (besidesRun_rejoin _).trans hy
  rw [boot_of_besidesRun hend, sup_of_besidesRun hend, hw]
  obtain ⟨hstep, hms, hbits, hwarm⟩ := hv
  exact ⟨hstep, hcharging, hms, hbits ▸ hinfo, fun h => hwarm.trans (hcold h)⟩

/-- The report of the store passes only in 2 s. -/
theorem effectStoreCheck_step3 {s : State} (hon : s.boot.power = .on) (hstep : s.boot.step = 3) (r : StoreReport) :
    (effectStoreCheck r s).boot.step = 5 ∧ (effectStoreCheck r s).sup.precharging.isSome = true ∧
      (effectStoreCheck r s).boot.storeCheckMs = min r.ms 2000 ∧
      ((effectStoreCheck r s).boot.info.getLsbD 7 = true ↔ ¬(r.passed = true ∧ r.ms ≤ 2000)) := by
  rw [effectStoreCheck, if_neg (by simp [hon, hstep])]
  obtain ⟨hnext, hcharging, hms, hinfo, -⟩ :=
    afterCheck_boot (r.passed && r.ms ≤ 2000) r (startCounters (elapse (1000 * min r.ms 2000) s))
  refine ⟨hnext, hcharging, hms, ?_⟩
  rw [hinfo]
  cases r.passed <;> simp

/-- A store that has not answered in 2 s has failed its check, and the start is a cold one. -/
theorem effectStoreTimeout_step3 {s : State} (hon : s.boot.power = .on) (hstep : s.boot.step = 3) :
    (effectStoreTimeout s).boot.step = 5 ∧ (effectStoreTimeout s).boot.info.getLsbD 7 = true ∧
      (effectStoreTimeout s).boot.warm = false := by
  rw [effectStoreTimeout, if_neg (by simp [hon, hstep])]
  obtain ⟨hnext, -, -, hinfo, hwarm⟩ :=
    afterCheck_boot false ⟨false, 2000, false, false, false, []⟩ (startCounters (elapse 2000000 s))
  exact ⟨hnext, hinfo, hwarm rfl⟩

/-! ## The dark test (R415) -/

theorem discrepancyEvent_us (p : Nat) (s : State) : (discrepancyEvent p s).us = s.us :=
  ite_keeps State.us _ (raiseDoor_us _ _ _ _ s) (raiseBy_us _ _ _ _ _)

theorem latchDiscrepancy_us (p : Nat) (lane : Lane) (s : State) : (latchDiscrepancy p lane s).us = s.us := by
  unfold latchDiscrepancy
  refine ite_keeps State.us _ rfl ?_
  exact (ite_keeps State.us _ (discrepancyEvent_us p _) rfl).trans (State.modPair_us _ _ _ _)

theorem darkContacts_us (refs : List ContactRef) (s : State) : (darkContacts refs s).us = s.us := by
  refine foldl_keeps State.us _ (fun s c => ?_) refs s
  exact ite_keeps State.us _ rfl (latchDiscrepancy_us c.pair c.lane s)

theorem setReset_us (lane : Lane) (r : ResetLane) (s : State) : (setReset lane r s).us = s.us := rfl

theorem darkLane_us (lane : Lane) (s : State) : (darkLane lane s).us = s.us :=
  each_keeps State.us 32 _ (fun _ _ => State.modPair_us _ _ _ _) s

/-- The dark pulses take 20 ms, and the feeds are on from their end. -/
theorem effectDarkTest_step5 {s : State} (hon : s.boot.power = .on) (hstep : s.boot.step = 5) (refs : List ContactRef) :
    (effectDarkTest refs s).boot.step = 6 ∧ (effectDarkTest refs s).boot.feedsOnAt = (effectDarkTest refs s).us ∧
      (effectDarkTest refs s).us = s.us + 20000 := by
  rw [effectDarkTest, if_neg (by simp [hon, hstep])]
  extract_lets u r v w
  have hw : w.us = s.us + 20000 := by
    simp only [w, v, u, darkContacts_us, setReset_us, darkLane_us, elapse_us]
  clear_value w
  exact ⟨rfl, rfl, hw⟩

/-! ## Step 7 (R418, R419) -/

/-- Once the herd has been heard the last step ends the start, no earlier than the filters of the contacts. -/
theorem effectStep7_heard {s : State} (hon : s.boot.power = .on) (hstep : s.boot.step = 6) (hheard : heardHerd s = true) :
    (effectStep7 s).boot.step = 0 ∧ filtersDone s ≤ (effectStep7 s).us := by
  rw [effectStep7, if_neg (by simp [hon, hstep, hheard])]
  extract_lets u v w x y z r
  have hu : filtersDone s ≤ u.us := by
    simp only [u, forwardTo_us]
    exact le_max_right _ _
  have hv : v.us = u.us := us_of_besidesMotion (foldl_keeps State.besidesMotion restorePhase besidesMotion_restorePhase _ u)
  have hw : w.us = v.us := us_of_besidesMotion (foldl_keeps State.besidesMotion initDoor besidesMotion_initDoor _ v)
  have hx : x.us = w.us := us_of_besidesMotion (besidesMotion_endStartDemand w)
  clear_value u v w x
  have hz : z.boot.step = 0 ∧ z.us = x.us := ⟨rfl, rfl⟩
  clear_value y z
  have hr : r.boot = z.boot ∧ r.us = z.us := by
    have hlink : r.besidesRun = (kscStart z).besidesRun := besidesRun_startLink (kscStart z)
    exact ⟨(boot_of_besidesRun hlink).trans rfl, (us_of_besidesRun hlink).trans rfl⟩
  clear_value r
  have hend := besidesRun_autostart r (!r.boot.warm)
  rw [boot_of_besidesRun hend, us_of_besidesRun hend, hr.1, hr.2]
  exact ⟨hz.1, by omega⟩

/-! ## The TRIAL bank (R423) -/

theorem effectTrialConfirm_trial {s : State} {at_ : Nat} (hfrom : s.boot.confirmFrom = some at_) (htrial : trial s = true)
    (hbank : s.boot.activeBank < 2) : bankState (effectTrialConfirm s) s.boot.activeBank = 3 ∧
      (effectTrialConfirm s).boot.bootTries = 0 ∧ (effectTrialConfirm s).boot.confirmFrom = none ∧
      RaisedOnce 196 s (effectTrialConfirm s) := by
  rw [effectTrialConfirm, hfrom]
  dsimp only
  rw [if_neg (by simp [htrial])]
  generalize hu : forwardTo _ s = u
  have hev : u.ev = s.ev := by rw [← hu, forwardTo_ev]
  have hboot : u.boot = s.boot := by rw [← hu, forwardTo_boot]
  refine ⟨?_, ?_, ?_, raise_raisedOnce_module (by decide) (by decide) 2 ((State.modBoot_ev _ _).trans hev)⟩
  · rw [bankState, raise_boot, State.modBoot_boot, ← hboot]
    exact vget_vset_same _ (hboot ▸ hbank) _ _
  · rw [raise_boot, State.modBoot_boot]
  · rw [raise_boot, State.modBoot_boot]

/-! ## A lane comes back (R420) -/

theorem modPair_lanes (lane : Lane) (p : Nat) (f : PairLane → PairLane) (s : State) : (s.modPair lane p f).saf.lanes = s.saf.lanes := by
  cases lane <;> rfl

theorem effectLaneDone_down {lane : Lane} {cause : Nat} {s : State} (hon : s.boot.power = .on)
    (hdown : (s.boot.laneDown.find? fun x => x.1 == lane) = some (lane, cause)) :
    (effectLaneDone lane s).boot.laneDown = s.boot.laneDown.filter (fun x => x.1 != lane) ∧
      laneUp (effectLaneDone lane s) lane = true ∧ (effectLaneDone lane s).boot.cause = cause ∧
      (effectLaneDone lane s).saf.lanes.goodRun = 0 := by
  rw [effectLaneDone, hon, hdown]
  dsimp -zeta only
  extract_lets u v k w r x y z a b
  have hu : laneUp u lane = true ∧ u.saf.lanes.goodRun = 0 ∧ u.boot = s.boot := by
    refine ⟨?_, rfl, rfl⟩
    cases lane <;> exact Bool.or_true _
  have hv : v.saf.lanes = u.saf.lanes ∧ v.boot = u.boot :=
    ⟨each_keeps (fun s => s.saf.lanes) 32 _ (fun s p => modPair_lanes lane p _ s) u,
      each_keeps State.boot 32 _ (fun _ _ => State.modPair_boot _ _ _ _) u⟩
  clear_value u v
  have hx : x.saf.lanes = v.saf.lanes ∧ x.boot = v.boot := by
    simp only [x, w]
    cases lane <;> exact ⟨rfl, rfl⟩
  clear_value x
  have hy : y.saf.lanes = x.saf.lanes ∧ y.boot = x.boot := by
    simp only [y]
    split
    · exact ⟨rfl, rfl⟩
    · exact ⟨(each_keeps (fun s => s.saf.lanes) 8 _ (by intros; rfl) _).trans rfl,
        (each_keeps State.boot 8 _ (by intros; rfl) _).trans rfl⟩
  clear_value y
  have hz : z.saf = y.saf ∧ z.boot = { y.boot with
      laneDown := y.boot.laneDown.filter (fun x => x.1 != lane), cause := cause, warm := true } := ⟨rfl, rfl⟩
  have hb : b.saf = z.saf ∧ b.boot = z.boot := ⟨rfl, rfl⟩
  clear_value z a b
  have hend (t : State) (ht : t.saf = z.saf ∧ t.boot = z.boot) :
      t.boot.laneDown = s.boot.laneDown.filter (fun x => x.1 != lane) ∧ laneUp t lane = true ∧ t.boot.cause = cause ∧
        t.saf.lanes.goodRun = 0 := by
    have hlanes : t.saf.lanes = u.saf.lanes := by rw [ht.1, hz.1, hy.1, hx.1, hv.1]
    have hboot : y.boot = s.boot := by rw [hy.2, hx.2, hv.2, hu.2.2]
    refine ⟨by rw [ht.2, hz.2, hboot], ?_, by rw [ht.2, hz.2], by rw [hlanes, hu.2.1]⟩
    rw [← hu.1]
    cases lane <;> simp only [laneUp, hlanes]
  refine hend _ ?_
  split
  · have hstart : (autostart false (startLink (rejoin (startTime (startRecord b))))).besidesRun = b.besidesRun := by
      rw [besidesRun_autostart, besidesRun_startLink, besidesRun_rejoin]
      exact besidesRun_startRecord b
    exact ⟨(saf_of_besidesRun hstart).trans hb.1, (boot_of_besidesRun hstart).trans hb.2⟩
  · exact ⟨saf_of_besidesRun (besidesRun_startRecord z), boot_of_besidesRun (besidesRun_startRecord z)⟩

/-- Settles O50: each step finds the start at its own place and leaves it at the next. -/
theorem startCommandsComplete : Obligations.StartCommandsComplete := by
  unfold Obligations.StartCommandsComplete
  refine ⟨fun s hon hstep => ⟨?boot, answers_of_lit (f := effectLaneBoot false) rfl (lit_of_power hon) ?bootFails⟩,
    fun r s hon hstep => ⟨?check, ?timeout⟩, fun refs s hon hstep => ?dark, fun s hon hstep hheard => ?last,
    fun at_ s hlit hfrom htrial hbank => ?trial, fun lane cause s hon hdown => ?lane⟩
  case boot =>
    refine exec_of_lit (f := effectLaneBoot true) rfl (lit_of_power hon) ?_
    exact effectLaneBoot_good hon hstep
  case bootFails => exact effectLaneBoot_bad hon hstep
  case check => exact exec_of_lit (f := effectStoreCheck r) rfl (lit_of_power hon) (effectStoreCheck_step3 hon hstep r)
  case timeout => exact exec_of_lit (f := effectStoreTimeout) rfl (lit_of_power hon) (effectStoreTimeout_step3 hon hstep)
  case dark =>
    refine exec_of_lit (f := effectDarkTest refs) rfl (lit_of_power hon) ?_
    exact effectDarkTest_step5 hon hstep refs
  case last =>
    refine exec_of_lit (f := effectStep7) rfl (lit_of_power hon) ?_
    exact effectStep7_heard hon hstep hheard
  case trial =>
    obtain ⟨hbanks, htries, hnone, honce⟩ := effectTrialConfirm_trial hfrom htrial hbank
    exact exec_of_lit (f := effectTrialConfirm) rfl hlit ⟨hbanks, htries, hnone, honce.settle _⟩
  case lane =>
    obtain ⟨hlist, hup, hcause, hrun⟩ := effectLaneDone_down hon hdown
    refine exec_of_lit (f := effectLaneDone lane) rfl (lit_of_power hon) ⟨hlist, ?_, hcause, ?_⟩
    · cases lane
      · exact (settle_saf (fun x => x.lanes.ibexUp) (fun _ _ => rfl) _ _).trans hup
      · exact (settle_saf (fun x => x.lanes.chamoisUp) (fun _ _ => rfl) _ _).trans hup
    · exact (settle_saf (fun x => x.lanes.goodRun) (fun _ _ => rfl) _ _).trans hrun

end Sys2Proof.Machine
end

section
/-! PROOF. The items of Graze, the STO path test and the report of an item that is late (O51). -/

namespace Sys2Proof.Machine

/-! ## The run of an item (R464, R465) -/

section Run

variable {s : State} {k : Nat} {pass : Bool}

/-- An item that keeps no state of its own between its instances records the verdict, and a failure has the item's effect. -/
theorem effectGrazeRun_item {i : Nat} (hmay : grazeMay s i k = true) (hsto : i ≠ 5) (hdrive : i ≠ 6) (hshadow : i ≠ 12) :
    effectGrazeRun i k pass s = if pass then takeResult i k pass s else itemFails i k (takeResult i k pass s) := by
  rw [effectGrazeRun.eq_4 _ _ _ _ hsto hdrive hshadow, if_neg (by simp [hshadow]), if_neg (by simp [hmay])]

theorem effectGrazeRun_sto (hmay : grazeMay s 5 k = true) (hidle : s.graze.sto = none) :
    effectGrazeRun 5 k pass s = stoEnable (k / 2) 1 s := by
  rw [effectGrazeRun, if_neg (by simp), if_neg (by simp [hmay])]
  simp [hidle]

theorem effectGrazeRun_stepCheck (hmay : grazeMay s 6 k = true) (hidle : s.graze.stepCheck = none) :
    effectGrazeRun 6 k pass s = startStepCheck k pass s := by
  rw [effectGrazeRun, if_neg (by simp), if_neg (by simp [hmay])]
  simp [hidle]

theorem standby_of_grazeMay (hmay : grazeMay s 12 k = true) : s.herd.role = .standby := by
  simp only [grazeMay, itemMay, Bool.and_eq_true, beq_iff_eq] at hmay
  exact hmay.1.2

theorem effectGrazeRun_shadow (hmay : grazeMay s 12 k = true) :
    effectGrazeRun 12 k pass s = (takeResult 12 k (decide (s.herd.shadowMis = s.graze.shadowBase)) s).modGraze
      fun z => { z with shadowBase := s.herd.shadowMis } := by
  rw [effectGrazeRun, if_neg (by simp [standby_of_grazeMay hmay]), if_neg (by simp [hmay])]

theorem effectGrazeRun_noShadow (hrole : s.herd.role ≠ .standby) :
    effectGrazeRun 12 k pass s = s.modGraze fun z => { z with items := vset z.items 12 { grazeItem s 12 with result := 0 } } := by
  rw [effectGrazeRun, if_pos (by simp [hrole])]

end Run

/-! ## The STO path test (R466) -/

/-- What a step of the test of axis a does once its moment has come; ok is the verdict of a check of a path. -/
def stoTestStep (a step : Nat) (ok : Bool) (t : State) : State :=
  match step with
  | 1 => stoDrop a 2 false t
  | 2 => if ok then stoPass a 0 3 t else stoFail a 0 t
  | 3 => stoEnable a 4 t
  | 4 => stoDrop a 5 true t
  | 5 => if ok then stoPass a 1 6 t else stoFail a 1 t
  | 6 => stoEnable a 7 t
  | _ => (reqPark a (setSto none (endEnableRamp a t))).1

/-- The test goes on while neither lane demands STO on its axis. -/
theorem effectStoTestStep_due {s : State} {a step at_ : Nat} (ok : Bool) (hibex : (s.axis a).drive.demandIbex = false)
    (hchamois : (s.axis a).drive.demandChamois = false) (hsto : s.graze.sto = some (a, step, at_)) :
    effectStoTestStep a ok s =
      stoTestStep a step (ok && heldAtPark (forwardTo (some at_) s) a) (forwardTo (some at_) s) := by
  unfold effectStoTestStep
  rw [hsto]
  dsimp only
  rw [if_neg (by simp), if_neg (by simp [hibex, hchamois])]
  rfl

/-! ## An item that is late (R470) -/

theorem effectGrazeOverdue_late {s : State} {i : Nat} (hon : itemOn s i = true) (hitem : i < 13)
    (hnew : (grazeItem s i).overdue = false) :
    (grazeItem (effectGrazeOverdue i s) i).overdue = true ∧ (effectGrazeOverdue i s).graze.overdue.getLsbD (i - 1) = true ∧
      RaisedOnce 218 s (effectGrazeOverdue i s) := by
  have hi : 1 ≤ i ∧ i ≤ 12 := by
    simp only [itemOn, Bool.and_eq_true, decide_eq_true_eq] at hon
    exact hon.1
  rw [effectGrazeOverdue, if_neg (by simp [hon, hnew])]
  refine ⟨?_, ?_, raise_raisedOnce_module (by decide) (by decide) _ (by rw [State.modGraze_ev, forwardTo_ev])⟩
  · rw [grazeItem, raise_graze, State.modGraze_graze, vget_vset_same _ hitem]
  · rw [raise_graze, State.modGraze_graze]
    exact getLsbD_or_one _ (by omega)

/-- Settles O51: the item's own branch of the run, the test's own step and the overdue mark. -/
theorem grazeCommandsComplete : Obligations.GrazeCommandsComplete := by
  unfold Obligations.GrazeCommandsComplete
  refine ⟨fun i k s hlit hmay hsto hdrive hshadow => ?items, fun k pass s hlit => ?ownState,
    fun a ok at_ s hlit hibex hchamois => ?stoTest, fun i s hlit hon hnew => ?late⟩
  case items =>
    have hrun (pass : Bool) := effectGrazeRun_item (pass := pass) hmay hsto hdrive hshadow
    exact ⟨answers_of_lit (f := effectGrazeRun i.val k true) rfl hlit (hrun true),
      answers_of_lit (f := effectGrazeRun i.val k false) rfl hlit (hrun false)⟩
  case ownState =>
    refine ⟨fun hmay hidle => ?_, fun hmay hidle => ?_, fun hmay => ?_, fun hrole => ?_⟩
    · exact answers_of_lit (f := effectGrazeRun 5 k pass) rfl hlit (effectGrazeRun_sto hmay hidle)
    · exact answers_of_lit (f := effectGrazeRun 6 k pass) rfl hlit (effectGrazeRun_stepCheck hmay hidle)
    · exact answers_of_lit (f := effectGrazeRun 12 k pass) rfl hlit (effectGrazeRun_shadow hmay)
    · exact answers_of_lit (f := effectGrazeRun 12 k pass) rfl hlit (effectGrazeRun_noShadow hrole)
  case stoTest =>
    have hstep {step : Nat} (hsto : s.graze.sto = some (a.val, step, at_)) :=
      answers_of_lit (c := .grazeStoTestStep a ok) (f := effectStoTestStep a.val ok) rfl hlit
        (effectStoTestStep_due ok hibex hchamois hsto)
    exact ⟨hstep, hstep, hstep, hstep, hstep, hstep, hstep⟩
  case late =>
    obtain ⟨hitem, hmark, honce⟩ := effectGrazeOverdue_late hon i.isLt hnew
    exact exec_of_lit (f := effectGrazeOverdue i.val) rfl hlit
      ⟨by rw [grazeItem, settle_graze]; exact hitem, by rw [settle_graze]; exact hmark, honce.settle _⟩

end Sys2Proof.Machine
end

section
/-! PROOF. What the reports of the supplies and temperatures leave alone (O57). -/

namespace Sys2Proof.Machine

/-- A state without its supply, event sources, journal and logic. -/
def State.besidesSupply (s : State) : State :=
  { s with sup := State.reset.sup, ev := State.reset.ev, jrn := State.reset.jrn, logic := State.reset.logic }

theorem eq_of_besidesSupply {s t : State} (h : t.besidesSupply = s.besidesSupply) :
    t = { s with sup := t.sup, ev := t.ev, jrn := t.jrn, logic := t.logic } := by
  cases s; cases t
  simp only [State.besidesSupply, State.mk.injEq] at h ⊢
  simp [h]

section Operations

variable (s : State)

@[simp] theorem besidesSupply_modSup (f : Supply → Supply) : (s.modSup f).besidesSupply = s.besidesSupply := rfl
@[simp] theorem besidesSupply_raise (e detail : Nat) : (raise e detail s).besidesSupply = s.besidesSupply := by
  simp [State.besidesSupply]
@[simp] theorem besidesSupply_supFlag (i : Nat) (b : Bool) : (supFlag i b s).besidesSupply = s.besidesSupply := rfl
@[simp] theorem besidesSupply_tempFlag (i : Nat) (b : Bool) : (tempFlag i b s).besidesSupply = s.besidesSupply := rfl
@[simp] theorem besidesSupply_loseDrive (ms : Nat) : (loseDrive ms s).besidesSupply = s.besidesSupply := rfl
@[simp] theorem besidesSupply_takeLogicVolt (mV : Nat) : (takeLogicVolt mV s).besidesSupply = s.besidesSupply := rfl
@[simp] theorem besidesSupply_takeBaseTemp (x : Int) : (takeBaseTemp x s).besidesSupply = s.besidesSupply := by
  have hwarn (u : State) (p : Prop) [Decidable p] :
      (if p then tempFlag 7 false u else u).besidesSupply = u.besidesSupply := by split <;> rfl
  simp only [takeBaseTemp]
  split <;> simp [hwarn]

end Operations

section Effects

variable (s : State)

theorem besidesSupply_effectDriveReturn : (effectDriveReturn s).besidesSupply = s.besidesSupply := by
  unfold effectDriveReturn; split <;> rfl

theorem besidesSupply_effectBreakerTrip (ms : Nat) : (effectBreakerTrip ms s).besidesSupply = s.besidesSupply := by
  simp [effectBreakerTrip]

theorem besidesSupply_effectRegenEnd (mJ : Nat) : (effectRegenEnd mJ s).besidesSupply = s.besidesSupply := by
  simp only [effectRegenEnd]; split <;> simp

theorem besidesSupply_effectInsulation (kOhm : Nat) : (effectInsulation kOhm s).besidesSupply = s.besidesSupply := by
  by_cases hcharged : s.sup.precharged = true
  · rw [effectInsulation_charged hcharged]
    exact ite_keeps State.besidesSupply _ rfl (ite_keeps State.besidesSupply _ (by simp) rfl)
  · rw [effectInsulation, if_pos (by simp [hcharged])]

theorem besidesSupply_effectBaseWarn (x : Int) : (effectBaseWarn x s).besidesSupply = s.besidesSupply := by
  simp only [effectBaseWarn]; split <;> simp

theorem besidesSupply_effectBaseLimit (x : Int) : (effectBaseLimit x s).besidesSupply = s.besidesSupply := by
  simp only [effectBaseLimit]; split <;> simp

theorem besidesSupply_effectLogicHot (x : Int) : (effectLogicHot x s).besidesSupply = s.besidesSupply := by
  simp only [effectLogicHot]; split
  · split <;> simp
  · simp

theorem besidesSupply_effectLowLogic (mV : Nat) : (effectLowLogic mV s).besidesSupply = s.besidesSupply := by
  simp only [effectLowLogic]; split
  · split <;> simp
  · simp

theorem besidesSupply_effectInterruption : (effectInterruption s).besidesSupply = s.besidesSupply := by
  unfold effectInterruption; split <;> simp

end Effects

/-- Where the effect of a row that every module answers leaves the safe outputs and the queue in order, the row answers it. -/
theorem next_of_always {c : Instr} {f : State → State} {s t : State} (hexec : exec c s = answerAlways s f)
    (heffect : OutputsGated (f s)) (hpending : (f s).pending = s.pending) (hnext : exec c s = .next t) : t = f s := by
  rw [hexec, answerAlways_eq] at hnext
  cases hnext
  rw [settle_of_gated heffect, ← hpending]

section Reports

variable {c : Instr} {f : State → State} {s t : State} (hgated : OutputsGated s)
  (hkeeps : (f s).besidesSupply = s.besidesSupply) (hnext : exec c s = .next t)
include hgated hkeeps hnext

theorem eq_of_supplyReport (hexec : exec c s = answerOn s f) :
    t = { s with sup := t.sup, ev := t.ev, jrn := t.jrn, logic := t.logic } := by
  have hsaf : (f s).saf = s.saf := (congrArg State.saf hkeeps :)
  have hpending : (f s).pending = s.pending := (congrArg State.pending hkeeps :)
  apply eq_of_besidesSupply
  rcases next_of_effect hexec hgated (outputsGated_congr hsaf hgated) hpending hnext with rfl | rfl
  · exact hkeeps
  · rfl

theorem eq_of_supplyReport_always (hexec : exec c s = answerAlways s f) :
    t = { s with sup := t.sup, ev := t.ev, jrn := t.jrn, logic := t.logic } := by
  have hsaf : (f s).saf = s.saf := (congrArg State.saf hkeeps :)
  have hpending : (f s).pending = s.pending := (congrArg State.pending hkeeps :)
  apply eq_of_besidesSupply
  rw [next_of_always hexec (outputsGated_congr hsaf hgated) hpending hnext]
  exact hkeeps

end Reports

/-! ## The loss of a contact feed (R443) -/

/-- A state without its contacts, supply, event sources, journal and logic. -/
def State.besidesContacts (s : State) : State :=
  { s.besidesSupply with saf := { s.saf with pairsI := State.reset.saf.pairsI, pairsC := State.reset.saf.pairsC } }

theorem eq_of_besidesContacts {s t : State} (h : t.besidesContacts = s.besidesContacts) :
    t = { s with sup := t.sup, ev := t.ev, jrn := t.jrn, logic := t.logic
                 saf := { s.saf with pairsI := t.saf.pairsI, pairsC := t.saf.pairsC } } := by
  have hsaf : t.saf = { s.saf with pairsI := t.saf.pairsI, pairsC := t.saf.pairsC } := by
    have hrest : t.besidesContacts.saf = s.besidesContacts.saf := congrArg State.saf h
    simp only [State.besidesContacts] at hrest
    generalize t.saf = x, s.saf = y at hrest ⊢
    cases x; cases y
    simp only [Safety.mk.injEq] at hrest ⊢
    simp [hrest]
  have hrest : t.besidesSupply = { s with saf := t.saf }.besidesSupply := by
    cases s; cases t
    simp only [State.besidesContacts, State.besidesSupply, State.mk.injEq] at h ⊢
    simp [h]
  refine (eq_of_besidesSupply hrest).trans ?_
  rw [← hsaf]

/-- What keeps all besides the supply keeps all besides the contacts too. -/
theorem besidesContacts_of_besidesSupply {s t : State} (h : t.besidesSupply = s.besidesSupply) :
    t.besidesContacts = s.besidesContacts := by
  have hsaf : t.saf = s.saf := (congrArg State.saf h :)
  rw [State.besidesContacts, State.besidesContacts, h, hsaf]

theorem besidesContacts_modPair (lane : Lane) (p : Nat) (f : PairLane → PairLane) (s : State) :
    (s.modPair lane p f).besidesContacts = s.besidesContacts := by
  cases lane <;> rfl

theorem besidesContacts_setFeed (feed : Nat) (off : Bool) (s : State) :
    (setFeed feed off s).besidesContacts = s.besidesContacts := by
  unfold setFeed
  extract_lets u
  have hu : u.besidesContacts = s.besidesContacts := rfl
  clear_value u
  rw [← hu]
  refine foldl_keeps State.besidesContacts _ (fun s lane => ?_) _ _
  exact each_keeps State.besidesContacts 32 _ (fun s p => besidesContacts_modPair _ _ _ _) s

theorem besidesContacts_effectFeedOverload (feed : Nat) (s : State) :
    (effectFeedOverload feed s).besidesContacts = s.besidesContacts := by
  unfold effectFeedOverload
  extract_lets was u
  have hu : u.besidesContacts = s.besidesContacts :=
    (besidesContacts_of_besidesSupply (besidesSupply_modSup _ _)).trans (besidesContacts_setFeed feed true s)
  clear_value u
  split
  · exact hu
  · exact (besidesContacts_of_besidesSupply (besidesSupply_raise _ _ _)).trans hu

/-! ## The loss of an encoder supply (R443) -/

/-- A state without its axes, doorways, supply, event sources, journal and logic. -/
def State.besidesEncoders (s : State) : State := { s.besidesAxes with sup := State.reset.sup }

theorem eq_of_besidesEncoders {s t : State} (h : t.besidesEncoders = s.besidesEncoders) :
    t = { s with sup := t.sup, ev := t.ev, jrn := t.jrn, logic := t.logic, ax := t.ax, dw := t.dw } := by
  cases s; cases t
  simp only [State.besidesEncoders, State.besidesAxes, State.mk.injEq] at h ⊢
  simp [h]

theorem doorOf_axisOf {d k : Nat} (hk : k < 3) : doorOf (axisOf d k) = d := by
  unfold doorOf axisOf; omega

/-- From s to t nothing has changed but the axes of doorway d, the doorways, the supply, the event sources, the journal and the
triggers of the logic. -/
structure FedTo (d : Nat) (s t : State) : Prop where
  rest : t.besidesEncoders = s.besidesEncoders
  axes : ∀ b : Nat, doorOf b ≠ d → t.axis b = s.axis b

namespace FedTo

variable {d : Nat} {s t u : State}

theorem refl (d : Nat) (s : State) : FedTo d s s := ⟨rfl, fun _ _ => rfl⟩

theorem trans (h : FedTo d s t) (h' : FedTo d t u) : FedTo d s u :=
  ⟨h'.rest.trans h.rest, fun b hb => (h'.axes b hb).trans (h.axes b hb)⟩

theorem of_localTo {k : Nat} (hk : k < 3) (h : LocalTo (axisOf d k) s t) : FedTo d s t :=
  ⟨by rw [State.besidesEncoders, State.besidesEncoders, h.rest], fun b hb => h.axes b fun heq =>
    hb (heq ▸ doorOf_axisOf hk)⟩

theorem modSup (f : Supply → Supply) (s : State) : FedTo d s (s.modSup f) := ⟨rfl, fun _ _ => rfl⟩

theorem raise (e detail : Nat) (s : State) : FedTo d s (raise e detail s) :=
  ⟨by simp [State.besidesEncoders, State.besidesAxes], fun _ _ => axis_congr (raise_ax _ _ _) _⟩

end FedTo

/-- The wires of an encoder without its supply disagree, all four pairs of them. -/
theorem localTo_fedPairs (a : Nat) (l : List WirePair) (s : State) :
    LocalTo a s (l.foldl (fun s p => effectWireDisagreement a p s) s) := by
  induction l generalizing s with
  | nil => exact .refl a s
  | cons p l ih => exact (localTo_effectWireDisagreement a s p).trans (ih _)

theorem fedTo_effectEncOverload (d : Nat) (s : State) : FedTo d s (effectEncOverload d s) := by
  unfold effectEncOverload
  extract_lets was u v
  have hu : FedTo d s u := (FedTo.modSup _ s).trans (.modSup _ _)
  have hv : FedTo d s v := hu.trans (.raise _ _ u)
  clear_value u v
  split
  · exact hu
  · have hpairs {k : Nat} (hk : k < 3) (s : State) :
        FedTo d s (fedPairs.foldl (fun s p => effectWireDisagreement (axisOf d k) p s) s) :=
      .of_localTo hk (localTo_fedPairs _ _ s)
    exact ((hv.trans (hpairs (by decide : 0 < 3) v)).trans (hpairs (by decide : 1 < 3) _)).trans
      (hpairs (by decide : 2 < 3) _)

/-- Settles O57: each report is made of changes of the supply and of raises; a feed adds its contacts, an encoder supply the wires
of its three encoders. -/
theorem supplyReportsLeaveTheRestAlone : Obligations.SupplyReportsLeaveTheRestAlone := by
  unfold Obligations.SupplyReportsLeaveTheRestAlone
  refine ⟨fun x temp s t hgated c hc hnext => ?reports, fun feed s t hgated hnext => ?feed, fun d s t hgated hnext => ?encoders⟩
  case reports =>
    simp only [List.mem_cons, List.not_mem_nil, or_false] at hc
    rcases hc with rfl | rfl | rfl | rfl | rfl | rfl | rfl | rfl | rfl | rfl | rfl
    · exact eq_of_supplyReport hgated (besidesSupply_loseDrive s x) hnext rfl
    · exact eq_of_supplyReport hgated (besidesSupply_effectDriveReturn s) hnext rfl
    · exact eq_of_supplyReport hgated (besidesSupply_effectBreakerTrip s x) hnext rfl
    · exact eq_of_supplyReport hgated (besidesSupply_effectRegenEnd s x) hnext rfl
    · exact eq_of_supplyReport hgated (besidesSupply_effectInsulation s x) hnext rfl
    · exact eq_of_supplyReport hgated (besidesSupply_effectBaseWarn s temp) hnext rfl
    · exact eq_of_supplyReport hgated (besidesSupply_effectBaseLimit s temp) hnext rfl
    · exact eq_of_supplyReport hgated (besidesSupply_takeBaseTemp s temp) hnext rfl
    · exact eq_of_supplyReport hgated (besidesSupply_effectLogicHot s temp) hnext rfl
    · exact eq_of_supplyReport_always hgated (besidesSupply_effectLowLogic s x) hnext rfl
    · exact eq_of_supplyReport_always hgated (besidesSupply_effectInterruption s) hnext rfl
  case feed =>
    have hkeeps := besidesContacts_effectFeedOverload feed.val s
    have hgated' : OutputsGated (effectFeedOverload feed.val s) :=
      outputsGated_of_outs (congrArg (fun u => u.saf.lanes) hkeeps :) (congrArg (fun u => u.saf.outs) hkeeps :) hgated
    apply eq_of_besidesContacts
    rcases next_of_effect (f := effectFeedOverload feed.val) rfl hgated hgated' (congrArg State.pending hkeeps :) hnext
      with rfl | rfl
    · exact hkeeps
    · rfl
  case encoders =>
    have hfed := fedTo_effectEncOverload d.val s
    have hgated' : OutputsGated (effectEncOverload d.val s) :=
      outputsGated_congr (congrArg State.saf hfed.rest :) hgated
    have hanswer : FedTo d.val s t := by
      rcases next_of_effect (f := effectEncOverload d.val) rfl hgated hgated' (congrArg State.pending hfed.rest :) hnext
        with rfl | rfl
      · exact hfed
      · exact .refl d.val t
    exact ⟨eq_of_besidesEncoders hanswer.rest, hanswer.axes⟩

end Sys2Proof.Machine
end

section
/-! PROOF. What links and clocks, and votes and mirrors, leave alone (O58). -/

namespace Sys2Proof.Machine

/-! ## Links and clocks (R334 to R351) -/

/-- A state without its network, time, event sources, journal and logic. -/
def State.besidesNet (s : State) : State :=
  { s with net := State.reset.net, time := State.reset.time, ev := State.reset.ev, jrn := State.reset.jrn
           logic := State.reset.logic }

theorem eq_of_besidesNet {s t : State} (h : t.besidesNet = s.besidesNet) :
    t = { s with net := t.net, time := t.time, ev := t.ev, jrn := t.jrn, logic := t.logic } := by
  cases s; cases t
  simp only [State.besidesNet, State.mk.injEq] at h ⊢
  simp [h]

section Operations

variable (s : State)

@[simp] theorem besidesNet_modPort (p : Nat) (f : NetPort → NetPort) : (s.modPort p f).besidesNet = s.besidesNet := rfl
@[simp] theorem besidesNet_modNet (f : Net → Net) : (s.modNet f).besidesNet = s.besidesNet := rfl
@[simp] theorem besidesNet_modTime (f : Time → Time) : (s.modTime f).besidesNet = s.besidesNet := rfl
@[simp] theorem besidesNet_modClock (n : Nat) (f : Clock → Clock) : (s.modClock n f).besidesNet = s.besidesNet := rfl
@[simp] theorem besidesNet_raise (e detail : Nat) : (raise e detail s).besidesNet = s.besidesNet := by
  simp [State.besidesNet]
@[simp] theorem besidesNet_netCount (p k : Nat) : (netCount p k s).besidesNet = s.besidesNet := rfl
@[simp] theorem besidesNet_send (x : Sent) : (send x s).besidesNet = s.besidesNet := by simp [State.besidesNet]
@[simp] theorem besidesNet_stepRecord (cause old : Nat) : (stepRecord cause old s).besidesNet = s.besidesNet := by
  simp [State.besidesNet, stepRecord]

end Operations

section Selection

variable (s : State)

@[simp] theorem besidesNet_refuseStep (n : Nat) (o : Int) (kind : Nat) :
    (refuseStep n o kind s).besidesNet = s.besidesNet := by simp [refuseStep]

@[simp] theorem besidesNet_selectOnce : (selectOnce s).besidesNet = s.besidesNet := by
  simp only [selectOnce]
  split
  · rfl
  · split
    · rfl
    · split <;> simp

@[simp] theorem besidesNet_reselect : (reselect s).besidesNet = s.besidesNet := by simp [reselect]

end Selection

section Samples

variable (s : State)

@[simp] theorem besidesNet_checkConfirm : (checkConfirm s).besidesNet = s.besidesNet := by
  unfold checkConfirm
  split
  · split <;> simp
  · simp

@[simp] theorem besidesNet_refuseSample (n : Nat) (o : Int) : (refuseSample n o s).besidesNet = s.besidesNet := by
  unfold refuseSample
  split
  · rw [besidesNet_checkConfirm]
    split <;> simp
  · simp

@[simp] theorem besidesNet_moveBase : (moveBase s).besidesNet = s.besidesNet := by
  unfold moveBase
  split
  · simp
  · split <;> simp

@[simp] theorem besidesNet_firstSet (n : Nat) (o : Int) : (firstSet n o s).besidesNet = s.besidesNet := by
  simp only [firstSet]
  split
  · simp
  · split <;> simp

@[simp] theorem besidesNet_servo (n : Nat) (o log : Int) : (servo n o log s).besidesNet = s.besidesNet := rfl

@[simp] theorem besidesNet_crossCheck : (crossCheck s).besidesNet = s.besidesNet := by
  unfold crossCheck
  extract_lets u d v distrust w x y
  have hv : v.besidesNet = s.besidesNet :=
    (besidesNet_modTime _ _).trans (ite_keeps State.besidesNet _ (besidesNet_modTime _ _) rfl)
  clear_value v
  have hw : w.besidesNet = s.besidesNet := by
    rw [← hv]
    exact ite_keeps State.besidesNet _ rfl (ite_keeps State.besidesNet _ rfl rfl)
  have hy : y.besidesNet = s.besidesNet := by
    refine (each_keeps State.besidesNet 2 _ (fun s n => besidesNet_modClock _ _ _) x).trans ?_
    exact (besidesNet_modTime _ _).trans hw
  clear_value w y
  split
  · rw [besidesNet_reselect, hy]
  · rw [besidesNet_moveBase, hw]

@[simp] theorem besidesNet_takeSample (n : Nat) (m : SyncMsg) : (takeSample n m s).besidesNet = s.besidesNet := by
  unfold takeSample
  extract_lets o u v big change w
  have hu : u.besidesNet = s.besidesNet := rfl
  have hv : v.besidesNet = s.besidesNet := (ite_keeps State.besidesNet _ (besidesNet_crossCheck u) rfl).trans hu
  have hw : w.besidesNet = s.besidesNet := (ite_keeps State.besidesNet _ rfl (by simp)).trans hv
  clear_value u v change w
  split
  · simp [hu]
  · split
    · split <;> simp [hv]
    · split <;> simp [hv, hw]

end Samples

section Effects

variable (s : State)

theorem besidesNet_effectLinkLoss (p : Nat) : (effectLinkLoss p s).besidesNet = s.besidesNet := by
  unfold effectLinkLoss; split <;> simp

theorem besidesNet_effectLinkUp (p : Nat) (gigabit : Bool) : (effectLinkUp p gigabit s).besidesNet = s.besidesNet := by
  simp only [effectLinkUp]; split <;> simp

theorem besidesNet_setPrp (v : Nat) : (setPrp v s).besidesNet = s.besidesNet := by
  simp only [setPrp]
  split
  · rfl
  · split <;> simp

theorem besidesNet_effectSingleLan (a b : Bool) : (effectSingleLan a b s).besidesNet = s.besidesNet := by
  unfold effectSingleLan
  split
  · exact besidesNet_setPrp s _
  · simp

theorem besidesNet_effectPtpSync (n : Nat) (m : SyncMsg) : (effectPtpSync n m s).besidesNet = s.besidesNet := by
  simp only [effectPtpSync]
  split
  · rfl
  · split
    · simp
    · split
      · simp
      · split <;> simp

theorem besidesNet_effectPtpFollowUp (n : Nat) (m : SyncMsg) : (effectPtpFollowUp n m s).besidesNet = s.besidesNet := by
  simp only [effectPtpFollowUp]
  split
  · rfl
  · split
    · simp
    · exact ite_keeps State.besidesNet _ (by simp) (by simp)

theorem besidesNet_effectPtpDelay (n rawNs : Nat) : (effectPtpDelay n rawNs s).besidesNet = s.besidesNet := by
  simp only [effectPtpDelay]
  split <;> simp

theorem besidesNet_loseMaster (n : Nat) : (loseMaster n s).besidesNet = s.besidesNet := by simp [loseMaster]

theorem besidesNet_decideMaster (n : Nat) : (decideMaster n s).besidesNet = s.besidesNet := by
  unfold decideMaster
  split
  · rfl
  · extract_lets slave was u v was' w
    have hv : v.besidesNet = s.besidesNet := (ite_keeps State.besidesNet _ (besidesNet_modTime _ _) rfl).trans (besidesNet_modClock s _ _)
    have hw : w.besidesNet = s.besidesNet := besidesNet_modClock s _ _
    clear_value v w
    split
    · split
      · exact hv
      · rw [besidesNet_loseMaster, hv]
    · split
      · exact hw
      · rw [besidesNet_loseMaster, hw]

theorem besidesNet_effectPtpAnnounce (n : Nat) (m : AnnounceMsg) : (effectPtpAnnounce n m s).besidesNet = s.besidesNet := by
  simp only [effectPtpAnnounce]
  split
  · rfl
  · exact (ite_keeps State.besidesNet _ (by simp [besidesNet_decideMaster]) rfl).trans (besidesNet_netCount s n 9)

theorem besidesNet_effectPtpSyncTx (n : Nat) : (effectPtpSyncTx n s).besidesNet = s.besidesNet := by
  unfold effectPtpSyncTx; split <;> simp

theorem besidesNet_effectPtpDelayReqTx (n : Nat) : (effectPtpDelayReqTx n s).besidesNet = s.besidesNet := by
  unfold effectPtpDelayReqTx; split <;> simp

end Effects

/-- A row that leaves everything besides the network and the time alone. -/
theorem eq_of_netReport {c : Instr} {f : State → State} {s t : State} (hexec : exec c s = answerOn s f)
    (hgated : OutputsGated s) (hkeeps : (f s).besidesNet = s.besidesNet) (hnext : exec c s = .next t) :
    t = { s with net := t.net, time := t.time, ev := t.ev, jrn := t.jrn, logic := t.logic } := by
  have hsaf : (f s).saf = s.saf := (congrArg State.saf hkeeps :)
  have hpending : (f s).pending = s.pending := (congrArg State.pending hkeeps :)
  apply eq_of_besidesNet
  rcases next_of_effect hexec hgated (outputsGated_congr hsaf hgated) hpending hnext with rfl | rfl
  · exact hkeeps
  · rfl

/-! ## Votes and mirrors (R356, R364 to R372) -/

/-- A state without its herd and network. -/
def State.besidesHerd (s : State) : State := { s with herd := State.reset.herd, net := State.reset.net }

theorem eq_of_besidesHerd {s t : State} (h : t.besidesHerd = s.besidesHerd) : t = { s with herd := t.herd, net := t.net } := by
  cases s; cases t
  simp only [State.besidesHerd, State.mk.injEq] at h ⊢
  simp [h]

section Herd

variable (s : State)

@[simp] theorem besidesHerd_modHerd (f : Herd → Herd) : (s.modHerd f).besidesHerd = s.besidesHerd := rfl
@[simp] theorem besidesHerd_send (x : Sent) : (send x s).besidesHerd = s.besidesHerd := by simp [State.besidesHerd]
@[simp] theorem besidesHerd_sendVote (t cand : Nat) (refused : Option Nat) :
    (sendVote t cand refused s).besidesHerd = s.besidesHerd := besidesHerd_send s _
@[simp] theorem besidesHerd_sendVoteReq (term reason : Nat) : (sendVoteReq term reason s).besidesHerd = s.besidesHerd :=
  besidesHerd_send s _
@[simp] theorem besidesHerd_herdTaken (len : Nat) (d : Bytes) : (herdTaken len d s).besidesHerd = s.besidesHerd := by
  unfold herdTaken; split <;> simp

theorem besidesHerd_requestVotes (reason : Nat) : (requestVotes reason s).besidesHerd = s.besidesHerd := by
  unfold requestVotes; split <;> simp

theorem besidesHerd_effectHoldEnd : (effectHoldEnd s).besidesHerd = s.besidesHerd := by
  unfold effectHoldEnd
  split
  · split <;> simp
  · rfl

theorem besidesHerd_effectJoinCycles : (effectJoinCycles s).besidesHerd = s.besidesHerd := by
  unfold effectJoinCycles
  split
  · rfl
  · split
    · split <;> simp
    · split
      · exact besidesHerd_requestVotes s 0
      · rfl

theorem besidesHerd_effectVoteReqRx (src : Nat) (data : Bytes) : (effectVoteReqRx src data s).besidesHerd = s.besidesHerd := by
  simp only [effectVoteReqRx]
  split
  · simp
  · split
    · simp
    · split <;> simp

theorem besidesHerd_effectVoteRx (src : Nat) (data : Bytes) : (effectVoteRx src data s).besidesHerd = s.besidesHerd := by
  simp only [effectVoteRx]
  split
  · simp
  · split
    · split <;> simp
    · simp

theorem besidesHerd_effectMirrorRx (src : Nat) (data : Bytes) : (effectMirrorRx src data s).besidesHerd = s.besidesHerd := by
  unfold effectMirrorRx
  extract_lets len u term seq k frags part cur
  have hu : u.besidesHerd = s.besidesHerd := besidesHerd_herdTaken s _ _
  clear_value u cur
  split
  · exact hu
  · split
    · exact hu
    · dsimp only
      split <;> exact hu

end Herd

/-- A row that leaves everything besides the herd and the network alone. -/
theorem eq_of_herdReport {c : Instr} {f : State → State} {s t : State} (hexec : exec c s = answerOn s f)
    (hgated : OutputsGated s) (hkeeps : (f s).besidesHerd = s.besidesHerd) (hnext : exec c s = .next t) :
    t = { s with herd := t.herd, net := t.net } := by
  have hsaf : (f s).saf = s.saf := (congrArg State.saf hkeeps :)
  have hpending : (f s).pending = s.pending := (congrArg State.pending hkeeps :)
  apply eq_of_besidesHerd
  rcases next_of_effect hexec hgated (outputsGated_congr hsaf hgated) hpending hnext with rfl | rfl
  · exact hkeeps
  · rfl

/-- Settles O58: each row is made of changes of the clocks, ports and herd, of frames sent and of raises. -/
theorem networkCommandsLeaveTheRestAlone : Obligations.NetworkCommandsLeaveTheRestAlone := by
  unfold Obligations.NetworkCommandsLeaveTheRestAlone
  refine ⟨fun p n m k x a b s t hgated c hc hnext => ?network, fun netB src data s t hgated c hc hnext => ?herd⟩
  case network =>
    simp only [List.mem_cons, List.not_mem_nil, or_false] at hc
    rcases hc with rfl | rfl | rfl | rfl | rfl | rfl | rfl | rfl | rfl
    · exact eq_of_netReport rfl hgated (besidesNet_effectLinkLoss s (Port.index p)) hnext
    · exact eq_of_netReport rfl hgated (besidesNet_effectLinkUp s (Port.index p) a) hnext
    · exact eq_of_netReport rfl hgated (besidesNet_effectSingleLan s a b) hnext
    · exact eq_of_netReport rfl hgated (besidesNet_effectPtpSync s n.val m) hnext
    · exact eq_of_netReport rfl hgated (besidesNet_effectPtpFollowUp s n.val m) hnext
    · exact eq_of_netReport rfl hgated (besidesNet_effectPtpDelay s n.val x) hnext
    · exact eq_of_netReport rfl hgated (besidesNet_effectPtpAnnounce s n.val k) hnext
    · exact eq_of_netReport rfl hgated (besidesNet_effectPtpSyncTx s n.val) hnext
    · exact eq_of_netReport rfl hgated (besidesNet_effectPtpDelayReqTx s n.val) hnext
  case herd =>
    simp only [List.mem_cons, List.not_mem_nil, or_false] at hc
    rcases hc with rfl | rfl | rfl | rfl | rfl
    · exact eq_of_herdReport rfl hgated (besidesHerd_effectVoteReqRx s src data) hnext
    · exact eq_of_herdReport rfl hgated (besidesHerd_effectVoteRx s src data) hnext
    · exact eq_of_herdReport rfl hgated (besidesHerd_effectMirrorRx s src data) hnext
    · exact eq_of_herdReport rfl hgated (besidesHerd_effectHoldEnd s) hnext
    · exact eq_of_herdReport rfl hgated (besidesHerd_effectJoinCycles s) hnext

end Sys2Proof.Machine
end

section
/-! PROOF. What the commands that read leave alone (O55). -/

namespace Sys2Proof.Machine

/-- A state without the protocol's own state, the draws of free values and what a sent frame counts at its ports. -/
def State.besidesProtocol (s : State) : State :=
  { s with kcp := State.reset.kcp, fresh := 0, net := { s.net with ports := State.reset.net.ports, prpTx := 0 } }

theorem eq_of_besidesProtocol {s t : State} (h : t.besidesProtocol = s.besidesProtocol) :
    t = { s with kcp := t.kcp, fresh := t.fresh, net := { s.net with ports := t.net.ports, prpTx := t.net.prpTx } } := by
  have hnet : t.net = { s.net with ports := t.net.ports, prpTx := t.net.prpTx } := by
    have hrest : t.besidesProtocol.net = s.besidesProtocol.net := congrArg State.net h
    simp only [State.besidesProtocol] at hrest
    generalize t.net = x, s.net = y at hrest ⊢
    cases x; cases y
    simp only [Net.mk.injEq] at hrest ⊢
    simp [hrest]
  rw [← hnet]
  cases s; cases t
  simp only [State.besidesProtocol, State.mk.injEq] at h ⊢
  simp [h]

section Operations

variable (s : State)

@[simp] theorem besidesProtocol_modKcp (f : Kcp → Kcp) : (s.modKcp f).besidesProtocol = s.besidesProtocol := rfl
@[simp] theorem besidesProtocol_draw : s.draw.besidesProtocol = s.besidesProtocol := rfl
@[simp] theorem besidesProtocol_modSession (id : Nat) (f : Session → Session) :
    (modSession id f s).besidesProtocol = s.besidesProtocol := rfl
@[simp] theorem besidesProtocol_touch (id : Nat) : (touch id s).besidesProtocol = s.besidesProtocol := rfl
@[simp] theorem besidesProtocol_netCount (p k : Nat) : (netCount p k s).besidesProtocol = s.besidesProtocol := rfl

@[simp] theorem besidesProtocol_countWires (l : List Wire) : (countWires l s).besidesProtocol = s.besidesProtocol := by
  have hcount : (l.foldl (fun s w => netCount w.port 1 s) s).besidesProtocol = s.besidesProtocol :=
    foldl_keeps State.besidesProtocol (fun s (w : Wire) => netCount w.port 1 s) (fun s w => besidesProtocol_netCount s _ _) l s
  simp only [countWires]
  split
  · exact hcount
  · exact hcount

@[simp] theorem besidesProtocol_emit (r : Reply) : (emit r s).besidesProtocol = s.besidesProtocol := by simp [emit]

end Operations

section Requests

variable {op : Nat} {q : Req} {s : State}

/-- A reply whose SEQ does not end its session. -/
theorem besidesProtocol_replyWith (hseq : q.seq ≠ 0xFFFF) (k : Option (Bytes × Bytes)) (o : Outcome) (more : Bool) (s : State) :
    (replyWith k op q o more s).besidesProtocol = s.besidesProtocol := by
  simp [replyWith, sendReply, hseq]

/-- Nothing follows a reply where no restart and no SLEEP waits for it. -/
theorem afterReply_eq {u : State} (hkeeps : u.besidesProtocol = s.besidesProtocol) (hrestart : s.boot.restartPending = none)
    (hmode : s.sup.powerMode ≠ 2) : afterReply u = u := by
  have hboot : u.boot = s.boot := (congrArg State.boot hkeeps :)
  have hsup : u.sup = s.sup := (congrArg State.sup hkeeps :)
  rw [afterReply, hboot, hsup, hrestart]
  exact if_neg (by simp [hmode])

/-- A request keeps what its own rules keep: refused or answered, its reply is all that it adds. -/
theorem besidesProtocol_kcpNow {h : State → State × Outcome} (hseq : q.seq ≠ 0xFFFF)
    (hrestart : s.boot.restartPending = none) (hmode : s.sup.powerMode ≠ 2)
    (hkeeps : ∀ s, (h s).1.besidesProtocol = s.besidesProtocol) :
    (kcpNow op q h s).besidesProtocol = s.besidesProtocol := by
  unfold kcpNow kcp
  split
  case isTrue => rfl
  case isFalse =>
    dsimp only
    split
    case h_1 => exact (besidesProtocol_replyWith hseq _ _ _ _).trans (besidesProtocol_touch s _)
    case h_2 =>
      have hreply : (replyWith (replySeal (touch q.session s) op q) op q (h (touch q.session s)).2 false
          (h (touch q.session s)).1).besidesProtocol = s.besidesProtocol :=
        (besidesProtocol_replyWith hseq _ _ _ _).trans ((hkeeps _).trans (besidesProtocol_touch s _))
      rw [afterReply_eq hreply hrestart hmode]
      exact hreply

/-- A request whose rules keep all besides the protocol's own state answers a state that does. -/
theorem eq_of_kcpNow {c : Instr} {h : State → State × Outcome} {t : State} (hgated : OutputsGated s)
    (hrestart : s.boot.restartPending = none) (hmode : s.sup.powerMode ≠ 2) (hseq : q.seq ≠ 0xFFFF)
    (hnext : exec c s = .next t) (hexec : exec c s = answerOn s (kcpNow op q h))
    (hkeeps : ∀ s, (h s).1.besidesProtocol = s.besidesProtocol) :
    t = { s with kcp := t.kcp, fresh := t.fresh, net := { s.net with ports := t.net.ports, prpTx := t.net.prpTx } } := by
  have heffect := besidesProtocol_kcpNow (op := op) hseq hrestart hmode hkeeps
  have hsaf : (kcpNow op q h s).saf = s.saf := (congrArg State.saf heffect :)
  have hpending : (kcpNow op q h s).pending = s.pending := (congrArg State.pending heffect :)
  apply eq_of_besidesProtocol
  rcases next_of_effect hexec hgated (outputsGated_congr hsaf hgated) hpending hnext with rfl | rfl
  · exact heffect
  · rfl

end Requests

/-- Settles O55: HELLO draws a nonce, the other reads answer from the state that they find. -/
theorem readsChangeOnlyTheProtocol : Obligations.ReadsChangeOnlyTheProtocol := by
  unfold Obligations.ReadsChangeOnlyTheProtocol
  intro q s t hgated hrestart hmode hseq c hc hnext
  have hread {op : Nat} {o : State → Outcome} (hexec : exec c s = answerOn s (kcpNow op q fun s => (s, o s))) :=
    eq_of_kcpNow hgated hrestart hmode hseq hnext hexec fun _ => rfl
  simp only [List.mem_cons, List.not_mem_nil, or_false] at hc
  rcases hc with rfl | rfl | rfl | rfl | rfl | rfl | rfl | rfl | rfl | rfl | rfl
  · exact eq_of_kcpNow hgated hrestart hmode hseq hnext rfl fun s => besidesProtocol_modKcp s.draw _
  · exact hread rfl
  · exact hread rfl
  · exact hread rfl
  · exact hread rfl
  · exact eq_of_kcpNow hgated hrestart hmode hseq hnext rfl fun s => by
      dsimp only
      split <;> rfl
  · exact hread rfl
  · exact hread rfl
  · exact hread rfl
  · exact hread rfl
  · exact hread rfl

end Sys2Proof.Machine
end
